-- ==== Sys2Proof/Word.lean ====
section
/-! DEFINITION. The words of the part and the fixed-size groups of channels they are kept in.

A byte is a byte of the serial line (R103), a `Word16` a word of the settings block (chapter 11.2), a
`Word32` an integrator or a comb value (R2, R3), and an `Uptime` a count of ms kept modulo
4,294,967,296 (R184).  Quantities the manual treats as whole numbers (counts, sums, rms, mA·s) are
`Nat` or `Int`, never words. -/

namespace Sys2Proof

/-- One byte of the serial line (R103) or of a frame (R188). -/
abbrev Byte := BitVec 8

/-- One word of the settings block, and the register of the CRC (R106) and of the random generator (R117). -/
abbrev Word16 := BitVec 16

/-- A two's-complement quantity kept modulo 4,294,967,296: integrators and combs (R2, R3). -/
abbrev Word32 := BitVec 32

/-- The count of ms of the time base, kept modulo 4,294,967,296 (R184). -/
abbrev Uptime := BitVec 32

/-- One item for each of the eight modulator channels (chapter 1.1). -/
structure Ch8 (α : Type) where
  ia : α
  ib : α
  ic : α
  ig : α
  vs : α
  vl : α
  vb : α
  ibat : α
deriving DecidableEq, Repr

/-- One item for each of the six AC channels (chapter 1.1). -/
structure Ch6 (α : Type) where
  ia : α
  ib : α
  ic : α
  ig : α
  vs : α
  vl : α
deriving DecidableEq, Repr

/-- One item for each of the four current channels; also one for each phase and ground element (chapter 2.1). -/
structure Ch4 (α : Type) where
  ia : α
  ib : α
  ic : α
  ig : α
deriving DecidableEq, Repr

/-- The same item on all eight channels. -/
def Ch8.all {α : Type} (a : α) : Ch8 α := ⟨a, a, a, a, a, a, a, a⟩

/-- The same item on the six AC channels. -/
def Ch6.all {α : Type} (a : α) : Ch6 α := ⟨a, a, a, a, a, a⟩

/-- The same item on the four current channels. -/
def Ch4.all {α : Type} (a : α) : Ch4 α := ⟨a, a, a, a⟩

/-- One function applied channel by channel. -/
def Ch8.map {α β : Type} (f : α → β) (c : Ch8 α) : Ch8 β :=
  ⟨f c.ia, f c.ib, f c.ic, f c.ig, f c.vs, f c.vl, f c.vb, f c.ibat⟩

/-- Two groups joined channel by channel. -/
def Ch8.zip {α β γ : Type} (f : α → β → γ) (c : Ch8 α) (e : Ch8 β) : Ch8 γ :=
  ⟨f c.ia e.ia, f c.ib e.ib, f c.ic e.ic, f c.ig e.ig, f c.vs e.vs, f c.vl e.vl, f c.vb e.vb,
    f c.ibat e.ibat⟩

/-- One function applied channel by channel. -/
def Ch6.map {α β : Type} (f : α → β) (c : Ch6 α) : Ch6 β :=
  ⟨f c.ia, f c.ib, f c.ic, f c.ig, f c.vs, f c.vl⟩

/-- One function applied channel by channel. -/
def Ch4.map {α β : Type} (f : α → β) (c : Ch4 α) : Ch4 β :=
  ⟨f c.ia, f c.ib, f c.ic, f c.ig⟩

/-- Two groups joined channel by channel. -/
def Ch4.zip {α β γ : Type} (f : α → β → γ) (c : Ch4 α) (e : Ch4 β) : Ch4 γ :=
  ⟨f c.ia e.ia, f c.ib e.ib, f c.ic e.ic, f c.ig e.ig⟩

/-- The current channels of a group of AC channels. -/
def Ch6.currents {α : Type} (c : Ch6 α) : Ch4 α := ⟨c.ia, c.ib, c.ic, c.ig⟩

/-- Whether some channel of a group of flags is set. -/
def Ch4.any (c : Ch4 Bool) : Bool := c.ia || c.ib || c.ic || c.ig

end Sys2Proof
end

