-- ==== Sys2Proof/Syntax.lean ====
section
/-! DEFINITION. The commands of the part: one constructor for each row of `spec/opcode_table.json`.

The rows of the table give no bits and no fields.  An operand stands here only where the step takes
something from outside the part that the state cannot hold beforehand: the bits of a modulator
clock, a byte of the serial line, a new debounced level, a settings word, which of the two stores.
What one block hands to another (a trip request, a report of the MDU, an ended reception) is not an
operand: it waits in `State.transit` until the row that names its arrival takes it (log entry 2). -/

namespace Sys2Proof

/-- The two coil capacitors (chapter 4.7). -/
inductive StoreId where
  | trip
  | close
deriving DecidableEq, Repr

/-- The steps of the part, in the table's order. -/
inductive Instr where
  /-- DECIMATED_SAMPLE (R3): the 256th bit of a group completes one sample on all channels. -/
  | decimatedSample
  /-- HALF_CYCLE_UPDATE (R9). -/
  | halfCycleUpdate
  /-- ONE_SECOND_UPDATE (R16). -/
  | oneSecondUpdate
  /-- TRIP_REQUEST (R41): the oldest trip request in transit reaches the SQC. -/
  | tripRequest
  /-- SEQUENCE_STEP (R47): the oldest sequence step in transit reaches the SQC. -/
  | sequenceStep
  /-- OPEN_SEEN (R68): the contacts as read show OPEN. -/
  | openSeen
  /-- OPEN_CONFIRMATION (R43): the oldest open confirmation in transit reaches the SQC. -/
  | openConfirmation
  /-- PULSE_LIMIT_EXPIRY (R68). -/
  | pulseLimitExpiry
  /-- STORE_WAIT_EXPIRY (R68). -/
  | storeWaitExpiry
  /-- TRIP_FAIL (R58): the oldest TRIP_FAIL in transit reaches the SQC. -/
  | tripFail
  /-- CLOSED_SEEN (R70): the contacts as read show CLOSED. -/
  | closedSeen
  /-- CLOSE_PULSE_LIMIT_EXPIRY (R70). -/
  | closePulseLimitExpiry
  /-- CLOSE_CONFIRMATION (R46): the oldest close confirmation in transit reaches the SQC. -/
  | closeConfirmation
  /-- CLOSE_FAIL (R46): the oldest CLOSE_FAIL in transit reaches the SQC. -/
  | closeFail
  /-- POSITION_CHANGE (R65): new debounced levels of OPEN_C and CLOSED_C. -/
  | positionChange (openC closedC : Bool)
  /-- UNSOLICITED_OPEN (R56): the oldest such report in transit reaches the SQC. -/
  | unsolicitedOpen
  /-- UNSOLICITED_CLOSE (R57): the oldest such report in transit reaches the SQC. -/
  | unsolicitedClose
  /-- POSITION_FAULT_TIMER_EXPIRY (R64). -/
  | positionFaultTimerExpiry
  /-- POSITION_FAULT (R58): the oldest position fault in transit reaches the SQC. -/
  | positionFault
  /-- FIRST_POSITION (R61): both contacts have held these levels for 20 ms for the first time. -/
  | firstPosition (openC closedC : Bool)
  /-- FIRST_POSITION_TIMEOUT (R63). -/
  | firstPositionTimeout
  /-- HANDLE_CHANGE (R66): a debounced reading of HANDLE, down or up. -/
  | handleChange (down : Bool)
  /-- READY_INPUT_CHANGE (R74): a debounced reading of a store's ready input. -/
  | readyInputChange (store : StoreId) (active : Bool)
  /-- CHARGE_LIMIT_EXPIRY (R77). -/
  | chargeLimitExpiry (store : StoreId)
  /-- RETRY_TIMER_EXPIRY (R77). -/
  | retryTimerExpiry (store : StoreId)
  /-- DEAD_TIMER_EXPIRY (R44). -/
  | deadTimerExpiry
  /-- ENERGY_WAIT_EXPIRY (R45). -/
  | energyWaitExpiry
  /-- RECLAIM_EXPIRY (R47). -/
  | reclaimExpiry
  /-- CLOSE_DEMAND_EXPIRY (R53). -/
  | closeDemandExpiry
  /-- PANEL_TRIP (R51): a debounced press. -/
  | panelTrip
  /-- PANEL_CLOSE (R52): a debounced press. -/
  | panelClose
  /-- NONRECLOSE_CHANGE (R50): a debounced reading of the switch. -/
  | nonrecloseChange (on : Bool)
  /-- SUPPLY_OK_CHANGE (R80): a debounced reading of the input. -/
  | supplyOkChange (active : Bool)
  /-- DAY_ROLLOVER (R92). -/
  | dayRollover
  /-- TEST_RETRY_EXPIRY (R93). -/
  | testRetryExpiry
  /-- LOAD_TIMER_EXPIRY (R95). -/
  | loadTimerExpiry
  /-- FRAME_REJECTED (R108): the oldest ended reception is not ACCEPTED. -/
  | frameRejected
  /-- RECEPTION_GAP_EXPIRY (R107). -/
  | receptionGapExpiry
  /-- RECEIVE_STATUS (R138): the oldest ended reception is an ACCEPTED STATUS. -/
  | receiveStatus
  /-- RECEIVE_PICKUP (R139): the oldest ended reception is an ACCEPTED PICKUP. -/
  | receivePickup
  /-- RECEIVE_SEQ_EVENT (R140): the oldest ended reception is an ACCEPTED SEQ_EVENT. -/
  | receiveSeqEvent
  /-- RECEIVE_TAG_NOTICE (R141): the oldest ended reception is an ACCEPTED TAG_NOTICE. -/
  | receiveTagNotice
  /-- RECEIVE_PEER_REPORT (R137): the oldest ended reception is an ACCEPTED REQUEST_RESULT or BATTERY_REPORT. -/
  | receivePeerReport
  /-- CREW_TAG_PLACE (R158): the oldest ended reception is such a request, acted on (R156). -/
  | crewTagPlace
  /-- CREW_TAG_REMOVE (R159). -/
  | crewTagRemove
  /-- CREW_CLEAR_UNKNOWN (R160). -/
  | crewClearUnknown
  /-- CREW_TRIP (R51). -/
  | crewTrip
  /-- CREW_CLOSE (R52). -/
  | crewClose
  /-- CREW_STATUS_NOW (R133). -/
  | crewStatusNow
  /-- CREW_BATTERY_TEST (R94). -/
  | crewBatteryTest
  /-- HOTLINE_SWITCH_CHANGE (R162): a debounced reading of the switch. -/
  | hotlineSwitchChange (on : Bool)
  /-- ACK_TIMER_EXPIRY (R162). -/
  | ackTimerExpiry
  /-- GAP_EXPIRY (R115). -/
  | gapExpiry
  /-- BUSY_CHANGE (R115): a new level of the BUSY line. -/
  | busyChange (active : Bool)
  /-- BACKOFF_EXPIRY (R118). -/
  | backoffExpiry
  /-- COLLIDE_ACTIVE (R103). -/
  | collideActive
  /-- SEND_END (R116): the last byte of the frame in flight has gone out. -/
  | sendEnd
  /-- WARM_UP_EXPIRY (R112). -/
  | warmUpExpiry
  /-- LISTEN_WINDOW_OPEN (R113). -/
  | listenWindowOpen
  /-- LISTEN_WINDOW_CLOSE (R113). -/
  | listenWindowClose
  /-- LISTEN_HOLD_LIMIT (R113). -/
  | listenHoldLimit
  /-- QUIET_TIMER_EXPIRY (R121). -/
  | quietTimerExpiry
  /-- LINK_TIMER_EXPIRY (R111). -/
  | linkTimerExpiry
  /-- PICKUP_LIFE_EXPIRY (R128): of the oldest PICKUP entry whose life still runs. -/
  | pickupLifeExpiry
  /-- STATUS_PERIOD_EXPIRY (R132). -/
  | statusPeriodExpiry
  /-- TIME_BASE_SECOND (R184). -/
  | timeBaseSecond
  /-- MIDPOINT_TIMER_EXPIRY (R168). -/
  | midpointTimerExpiry
  /-- TIE_TIMER_EXPIRY (R171). -/
  | tieTimerExpiry
  /-- RSL_STORE_WAIT_EXPIRY (R173). -/
  | rslStoreWaitExpiry
  /-- RESTART_INPUT (R178): `batteryKept` says whether the battery has stayed connected since the last start (R185). -/
  | restartInput (batteryKept : Bool)
  /-- SUPPLY_RETURN (R178): `batteryKept` as for RESTART_INPUT. -/
  | supplyReturn (batteryKept : Bool)
  /-- SETTINGS_WORD_READ (R179): the settings memory delivers the requested word. -/
  | settingsWordRead (word : Word16)
  /-- SETTINGS_WORD_TIMEOUT (R179). -/
  | settingsWordTimeout
  /-- MODULATOR_BIT (R2): bit k of `bits` is the bit of channel k in the order IA, IB, IC, IG, VS, VL, VB, IBAT. -/
  | modulatorBit (bits : Byte)
  /-- SERIAL_BYTE_ARRIVAL (R107). -/
  | serialByteArrival (byte : Byte)
  /-- CREW_REQUEST_NOT_ACTED_ON (R156): the oldest ended reception is such a request. -/
  | crewRequestNotActedOn
deriving DecidableEq, Repr

end Sys2Proof
end

