-- ==== Sys2Proof/Config.lean ====
section
/-! DEFINITION. The free values of the model: what the manual leaves unstated or open while the part goes on.

Each is an uninterpreted constant.  A step that needs one applies it to the draw counter
`State.free`, which it then advances, so nothing can be proved of the value drawn (log entry 4). -/

namespace Sys2Proof

/-- The mean (mV, mA) taken where a rule reads a one-second mean and none has been delivered yet:
V0 of a test begun before the first one-second update (R93), V1 and I1 of a test whose load timer
expires before an update was kept (R95).  The manual states no value there. -/
opaque Config.unstatedMean : Nat → Int × Int

/-- The rms taken for a trip record of cause MANUAL, CREW or RESTORE_OPEN formed before the SFE has
published any update record (R42).  The manual states no value there; the model keeps the field's
range by reducing it modulo 32,769. -/
opaque Config.unstatedRms : Nat → Nat

/-- Which of two blocks asks for its frames first where one event makes both ask: "either order being
possible" (R124, R154). -/
opaque Config.firstAsker : Nat → Bool

end Sys2Proof
end

