-- ==== Sys2Proof/Machine/State.lean ====
section
/-! DEFINITION. The state of the part, block by block, and the state right after reset.

Every table of state in the chapters (R6, R18, R37, R62, R79, R104, R122, R136, R150, R164, R185)
is one structure here, under the manual's names.  A retained item lives once, in the Retained
Memory (`State.rtm`), because each is written there at the event that changes it (R185).  Lamps,
coil drives and enables that follow from other items are computed in `Machine/Flags.lean`.
Fields that are the model's own and not the manual's: `State.pending`, `State.transit`,
`State.free`, `Lnk.busy`, `Lnk.outFrame`, `Entry.lifeOver` (log entries 1 to 6). -/

namespace Sys2Proof.Machine

/-- A running timer: the uptime of the event that started it and its length in ms.  A stopped timer
is an absent one (R37: "a timer that is stopped does not expire"). -/
structure Timer where
  start : Uptime
  ms : Nat
deriving DecidableEq, Repr

/-! ### Sample Front End (chapter 1) -/

/-- A voltage presence state (R12, R13). -/
inductive VoltageState where
  | unknown
  | live
  | dead
deriving DecidableEq, Repr

/-- The three integrators and the three held comb values of one channel (R2, R3). -/
structure Cic where
  i1 : Word32
  i2 : Word32
  i3 : Word32
  h1 : Word32
  h2 : Word32
  h3 : Word32
deriving DecidableEq, Repr

/-- The DC estimate, the two half-cycle sums and the clip flag of one AC channel (R4, R8, R9). -/
structure AcChannel where
  d : Int
  hPrev : Nat
  hCur : Nat
  clip : Bool
deriving DecidableEq, Repr

/-- The presence decision of one voltage channel (R12 to R14). -/
structure Presence where
  state : VoltageState
  liveRun : Nat
  deadRun : Nat
  lastChange : Uptime
  aged : Bool
deriving DecidableEq, Repr

/-- The update record of a half-cycle update (R10). -/
structure UpdateRecord where
  time : Uptime
  warming : Bool
  rms : Ch6 Nat
  clip : Ch6 Bool
  vs : VoltageState
  vl : VoltageState
deriving DecidableEq, Repr

/-- The state of the SFE (R6), with the latest record it has published (R42 reads it). -/
structure Sfe where
  filters : Ch8 Cic
  bitCount : Nat
  discard : Nat
  ac : Ch6 AcChannel
  halfCount : Nat
  warming : Nat
  vs : Presence
  vl : Presence
  batCount : Nat
  vbSum : Int
  ibatSum : Int
  latest : Option UpdateRecord
deriving DecidableEq, Repr

/-! ### Protection Element Unit (chapter 2) -/

/-- The two curves (R23). -/
inductive Curve where
  | fast
  | delayed
deriving DecidableEq, Repr

/-- A downstream-pickup hold in force (R31). -/
structure Hold where
  peer : Nat
  start : Uptime
deriving DecidableEq, Repr

/-- A time-overcurrent element (R18). -/
structure Toc where
  pickedUp : Bool
  acc : Nat
  hold : Option Hold
  spent : Bool
deriving DecidableEq, Repr

/-- A pickup episode (R29). -/
structure Episode where
  length : Nat
  eligible : Bool
deriving DecidableEq, Repr

/-- A set of the eight elements: PA, PB, PC, G by channel, then PA-I, PB-I, PC-I, G-I by channel. -/
structure ElementSet where
  toc : Ch4 Bool
  inst : Ch4 Bool
deriving DecidableEq, Repr

/-- The state of the PEU (R18). -/
structure Peu where
  toc : Ch4 Toc
  inst : Ch4 Bool
  episode : Option Episode
  outstanding : Bool
deriving DecidableEq, Repr

/-- A trip request (R27). -/
structure TripRequest where
  time : Uptime
  elements : ElementSet
  rms : Ch4 Nat
deriving DecidableEq, Repr

/-! ### Sequence Controller (chapter 3) -/

/-- The eight sequence states (chapter 3.1). -/
inductive SeqState where
  | closed
  | reclaim
  | tripping
  | dead
  | energyWait
  | closing
  | lockout
  | stuck
deriving DecidableEq, Repr

/-- The lockout causes and, last, the two STUCK causes (chapter 3.1). -/
inductive Cause where
  | protection
  | manual
  | crew
  | tag
  | energy
  | closeFail
  | handle
  | externalOpen
  | restart
  | restoreOpen
  | tieOpen
  | tripFail
  | position
deriving DecidableEq, Repr

/-- The causes a trip operation may have (R37). -/
inductive OpCause where
  | protection
  | manual
  | crew
  | restoreOpen
deriving DecidableEq, Repr

/-- The sources a close may have (R37). -/
inductive CloseSource where
  | auto
  | manual
  | crew
  | restore
deriving DecidableEq, Repr

/-- The position of the mechanism (R63). -/
inductive Position where
  | opened
  | closed
  | unknown
deriving DecidableEq, Repr

/-- A position that is not UNKNOWN (R62, "last position not UNKNOWN"). -/
inductive EndPosition where
  | opened
  | closed
deriving DecidableEq, Repr

/-- The trip record (R42). -/
structure TripRecord where
  number : Nat
  cause : OpCause
  elements : ElementSet
  rms : Ch4 Nat
  start : Uptime
  operating : Option Nat
deriving DecidableEq, Repr

/-- The state of the SQC (R37).  `state` is absent until the start state is taken (R61). -/
structure Sqc where
  state : Option SeqState
  shot : Nat
  cause : Option Cause
  record : Option TripRecord
  opCause : Option OpCause
  closeSource : Option CloseSource
  deadTimer : Option Timer
  ewaitTimer : Option Timer
  reclaimTimer : Option Timer
  demandTimer : Option Timer
  stuckAttempt : Bool
  nonreclose : Bool
  nonrecloseRead : Bool
deriving DecidableEq, Repr

/-! ### Mechanism Drive Unit (chapter 4) -/

/-- The two phases of a trip operation (chapter 4.4). -/
inductive TripPhase where
  | storeWait
  | drive
deriving DecidableEq, Repr

/-- The two attempts of a trip operation (chapter 4.4). -/
inductive Attempt where
  | first
  | second
deriving DecidableEq, Repr

/-- The operation in flight (R62). -/
inductive Operation where
  | idle
  | trip (phase : TripPhase) (attempt : Attempt)
  | close
deriving DecidableEq, Repr

/-- The states of an energy store (chapter 4.7). -/
inductive StoreState where
  | empty
  | charging
  | ready
  | fault
deriving DecidableEq, Repr

/-- One energy store: its state, its debounced ready input (absent: not yet read), its charge enable,
its charge-limit timer and its retry timer (R62, R74, R77). -/
structure Store where
  state : StoreState
  ready : Option Bool
  enable : Bool
  limit : Option Timer
  retry : Option Timer
deriving DecidableEq, Repr

/-- The state of the MDU (R62), less the retained counters (`Retained`).  `opTimer` is the pulse
limit, the store wait or the close pulse limit of the operation in flight; `faultReported` says that
the present stay in UNKNOWN has had its position fault (R64, log entry 19). -/
structure Mdu where
  openC : Option Bool
  closedC : Option Bool
  position : Option Position
  lastEnd : Option EndPosition
  faultTimer : Option Timer
  faultReported : Bool
  handleDown : Bool
  handleRead : Bool
  op : Operation
  opTimer : Option Timer
  opCause : Option OpCause
  wear : Option Nat
  driveStart : Option Uptime
  trip : Store
  close : Store
  mechSlow : Bool
deriving DecidableEq, Repr

/-! ### Battery Care Unit (chapter 5) -/

/-- The charger modes (R79). -/
inductive ChargerMode where
  | off
  | bulk
  | absorb
  | float
  | test
deriving DecidableEq, Repr

/-- The reserve classes (chapter 5.5). -/
inductive ReserveClass where
  | normal
  | economy
  | protectOnly
  | cutoff
deriving DecidableEq, Repr

/-- A one-second mean as delivered to the BCU (R16). -/
structure Mean where
  mV : Int
  mA : Int
  time : Uptime
deriving DecidableEq, Repr

/-- The source of a test (R79). -/
inductive TestSource where
  | scheduled
  | crew
deriving DecidableEq, Repr

/-- A test in progress (R93, R95). -/
structure RunningTest where
  source : TestSource
  v0 : Int
  start : Uptime
  loaded : Option Mean
deriving DecidableEq, Repr

/-- The outcome of a test that ends with a result (R96). -/
inductive TestOutcome where
  | pass
  | fail
  | invalid
deriving DecidableEq, Repr

/-- The latest attempt (R79). -/
inductive AttemptOutcome where
  | pass
  | fail
  | invalid
  | aborted
deriving DecidableEq, Repr

/-- The last result (R98). -/
structure TestResult where
  outcome : TestOutcome
  v0 : Int
  v1 : Int
  i1 : Int
  r : Option Nat
deriving DecidableEq, Repr

/-- The retained part of a health attribute (R99). -/
structure Attribute where
  raw : Nat
  value : Nat
  worst : Nat
deriving DecidableEq, Repr

/-- One item for each of the four health attributes (R99). -/
structure Health (α : Type) where
  resistance : α
  testFails : α
  deepDischarge : α
  absorbLimit : α
deriving DecidableEq, Repr

/-- The state of the BCU (R79), less the retained items (`Retained`).  `soc` is the SoC last formed
(R87), absent until the first one-second update; `cls` is absent while not yet decided (R90). -/
structure Bcu where
  supplyOk : Bool
  supplyRead : Bool
  mode : ChargerMode
  duty : Nat
  absorbSeconds : Nat
  tailRun : Nat
  floatSeconds : Nat
  lowFloatRun : Nat
  soc : Option Nat
  cls : Option ReserveClass
  cutoffRun : Nat
  latestMean : Option Mean
  daySeconds : Nat
  testDue : Bool
  test : Option RunningTest
  loadTimer : Option Timer
  retryTimer : Option Timer
  latestAttempt : Option AttemptOutcome
deriving DecidableEq, Repr

/-! ### Crew Tags (chapter 9) -/

/-- The kind of a tag (R152). -/
inductive TagKind where
  | hold
  | hotline
deriving DecidableEq, Repr

/-- The scope of a tag (R152). -/
inductive Scope where
  | station
  | segment (s : Nat)
deriving DecidableEq, Repr

/-- A tag record (R152); in a peer's announced tags, crew id 0 is its panel slot (R138). -/
structure TagRecord where
  crew : Nat
  kind : TagKind
  scope : Scope
deriving DecidableEq, Repr

/-- The state of the TGT (R150), less the retained tag list and TAG_UNKNOWN.  The panel slot is
occupied exactly while the switch is on (R152). -/
structure Tgt where
  hotlineOn : Bool
  hotlineRead : Bool
  ackTimer : Option Timer
deriving DecidableEq, Repr

/-! ### Retained Memory (R185) -/

/-- The items of the Retained Memory. -/
structure Retained where
  tags : List TagRecord
  tagUnknown : Bool
  health : Health Attribute
  q : Nat
  qUncertain : Bool
  daysSinceTest : Nat
  lastResult : Option TestResult
  opCounter : Nat
  wearTotal : Nat
  mechWear : Bool
deriving DecidableEq, Repr

/-- The Retained Memory: its items and its integrity word. -/
structure Rtm where
  items : Retained
  integrity : Word16
deriving DecidableEq, Repr

/-! ### Reports and the Transmit Queue (chapter 7) -/

/-- The kinds of a SEQ_EVENT (R40). -/
inductive EventKind where
  | trip
  | deadTime
  | reclose
  | manualClose
  | restoreClose
  | externalClose
  | lockout
  | stuck
deriving DecidableEq, Repr

/-- The request kinds of a CREW_REQUEST (R134). -/
inductive RequestKind where
  | tagPlace
  | tagRemove
  | clearUnknown
  | trip
  | close
  | statusNow
  | batteryTest
deriving DecidableEq, Repr

/-- The outcome codes of a REQUEST_RESULT (R134). -/
inductive RequestOutcome where
  | accepted
  | refusedTagged
  | refusedNotOwner
  | refusedState
  | refusedEnergy
  | refusedFull
  | refusedBad
deriving DecidableEq, Repr

/-- A set of status reasons (R126). -/
structure Reasons where
  period : Bool
  start : Bool
  seqEvent : Bool
  tagChange : Bool
  crew : Bool
  overflow : Bool
deriving DecidableEq, Repr

/-- One status reason (R126). -/
inductive Reason where
  | period
  | start
  | seqEvent
  | tagChange
  | crew
  | overflow
deriving DecidableEq, Repr

/-- The content of a PICKUP (R30, R129); the quiet time is in 10 ms units. -/
structure PickupContent where
  elements : ElementSet
  shot : Nat
  quiet : Nat
  sUp : Nat
  sDn : Nat
deriving DecidableEq, Repr

/-- The content of a SEQ_EVENT (R40, R129). -/
structure SeqEventContent where
  kind : EventKind
  time : Uptime
  state : Option SeqState
  shot : Nat
  cause : Option Cause
  position : Option Position
  record : Option TripRecord
deriving DecidableEq, Repr

/-- The content of a TAG_NOTICE (R129). -/
structure TagNoticeContent where
  panel : Bool
  tags : List TagRecord
  tagUnknown : Bool
deriving DecidableEq, Repr

/-- The content of a REQUEST_RESULT (R129). -/
structure ResultContent where
  crew : Nat
  kind : RequestKind
  outcome : RequestOutcome
deriving DecidableEq, Repr

/-- The content of a BATTERY_REPORT (R98, R129). -/
structure BatteryContent where
  attempt : Option AttemptOutcome
  last : Option TestResult
  health : Health Attribute
  thresholds : Health Nat
  poor : Bool
  soc : Option Nat
  qUncertain : Bool
  cls : Option ReserveClass
  mode : ChargerMode
  days : Nat
deriving DecidableEq, Repr

/-- The content of an entry: fixed at the join for a snapshot kind, the reason set for a STATUS (R122). -/
inductive Content where
  | pickup (c : PickupContent)
  | seqEvent (c : SeqEventContent)
  | tagNotice (c : TagNoticeContent)
  | result (c : ResultContent)
  | status (r : Reasons)
  | battery (c : BatteryContent)
deriving DecidableEq, Repr

/-- An entry of the TXQ (R122).  `lifeOver` records that the 1,000 ms life of a PICKUP entry has
expired while it was in flight (R128). -/
structure Entry where
  content : Content
  priority : Nat
  order : Nat
  joinTime : Uptime
  attempts : Nat
  inFlight : Bool
  lifeOver : Bool
deriving DecidableEq, Repr

/-- The state of the TXQ (R122); `nextOrder` is the place the next join takes among all joins. -/
structure Txq where
  entries : List Entry
  nextOrder : Nat
  owed : Option Reasons
  pendingReport : Option BatteryContent
  period : Option Timer
deriving DecidableEq, Repr

/-! ### Link Controller (chapter 6) -/

/-- The radio power states (chapter 6.4). -/
inductive RadioPower where
  | off
  | active
  | duty
  | sparse
deriving DecidableEq, Repr

/-- The access states (chapter 6.5). -/
inductive Access where
  | idle
  | gap
  | sense
  | backoff
  | sending
deriving DecidableEq, Repr

/-- A running listen cycle: whether the window is open, and when it last opened (R113). -/
structure ListenCycle where
  windowOpen : Bool
  openedAt : Uptime
deriving DecidableEq, Repr

/-- A reception in progress: the bytes kept (at most 64), the bytes counted, the gap timer (R107). -/
structure Reception where
  bytes : List Byte
  count : Nat
  gap : Timer
deriving DecidableEq, Repr

/-- An ended reception on its way to the receive filter: its bytes, its byte count and its arrival time (R107). -/
structure EndedReception where
  bytes : List Byte
  count : Nat
  arrival : Uptime
deriving DecidableEq, Repr

/-- The state of the LNK (R104); `holdLimit` is the 70 ms hold of R113, `selected` the join order of
the selected entry, `sendTimer` the length of the send of R116, `busy` the level of the BUSY line
and `outFrame` the bytes handed to the modem in the send in progress. -/
structure Lnk where
  power : RadioPower
  warmUp : Option Timer
  cycle : Option ListenCycle
  holdLimit : Option Timer
  reception : Option Reception
  access : Access
  selected : Option Nat
  slot : Option Timer
  sendTimer : Option Timer
  collide : Bool
  pendingPower : Option RadioPower
  pacing : Nat
  rng : Word16
  quiet : Option Timer
  idClash : Bool
  good : Nat
  bad : Nat
  link : Option Timer
  busy : Bool
  outFrame : List Byte
deriving DecidableEq, Repr

/-! ### Peer Table (chapter 8) -/

/-- The three roles (chapter 10.1). -/
inductive Role where
  | none
  | midpoint
  | tie
deriving DecidableEq, Repr

/-- The tags a peer has announced, with its TAG_UNKNOWN: present or absent together (R136). -/
structure PeerTags where
  records : List TagRecord
  tagUnknown : Bool
deriving DecidableEq, Repr

/-- The segments of a peer (R136). -/
structure Segments where
  up : Nat
  dn : Nat
deriving DecidableEq, Repr

/-- The last sequence event heard of a peer (R136). -/
structure PeerEvent where
  kind : EventKind
  time : Uptime
deriving DecidableEq, Repr

/-- An entry of the peer table (R136). -/
structure PeerEntry where
  id : Nat
  lastHeard : Uptime
  segments : Option Segments
  role : Option Role
  state : Option SeqState
  cause : Option Cause
  position : Option Position
  tags : Option PeerTags
  lastPickup : Option Uptime
  lastEvent : Option PeerEvent
deriving DecidableEq, Repr

/-! ### Restoration Logic (chapter 10) -/

/-- The side of a tie that is dead (chapter 10.1). -/
inductive Side where
  | up
  | dn
deriving DecidableEq, Repr

/-- The reasons of an INHIBITED state of a tie (chapter 10.1). -/
inductive Inhibited where
  | start
  | faultedSegment
  | afterRestore
  | store
deriving DecidableEq, Repr

/-- The restoration states; TIMING carries the side at a tie and none at a midpoint (chapter 10.1). -/
inductive RestState where
  | watch
  | timing (side : Option Side)
  | opened
  | restored
  | inhibited (reason : Inhibited)
deriving DecidableEq, Repr

/-- The inhibit reasons (R165). -/
inductive InhibitReason where
  | settings
  | idClash
  | stuck
  | nonreclose
deriving DecidableEq, Repr

/-- The state of the RSL (R164); its role is the image's (`Settings.role`). -/
structure Rsl where
  state : RestState
  timer : Option Timer
  expired : Bool
  fallbackDue : Bool
  storeWait : Option Timer
  inhibit : Option InhibitReason
deriving DecidableEq, Repr

/-! ### Settings Loader (chapter 11) -/

/-- The settings image (R194), field by field.  `stationId` is absent when the station has no own id (R182). -/
structure Settings where
  groupCode : Nat
  stationId : Option Nat
  lineHz : Nat
  role : Role
  sUp : Nat
  sDn : Nat
  aI : Nat
  aV : Nat
  vLive : Nat
  vDead : Nat
  vbGain : Nat
  ibGain : Nat
  pPu : Nat
  gPu : Nat
  pInst : Nat
  gInst : Nat
  fast : List Nat
  delayed : List Nat
  tResetP : Nat
  tResetG : Nat
  l : Nat
  fastShots : Nat
  instMask : Nat
  holdTime : Nat
  qQuiet : Nat
  seqCoord : Bool
  dt1 : Nat
  dt2 : Nat
  dt3 : Nat
  tReclaim : Nat
  tEwait : Nat
  tSlow : Nat
  tSlowClose : Nat
  wearLimit : Nat
  capacityAh : Nat
  iBulk : Nat
  vAbs : Nat
  iTail : Nat
  vFloat : Nat
  vEcon : Nat
  vProt : Nat
  vCut : Nat
  testInterval : Nat
  rMax : Nat
  vTestMin : Nat
  rRef : Nat
  thresholds : Health Nat
  priorityMap : Nat
  statusPeriod : Nat
  silenceLimit : Nat
  tMid : Nat
  tTie : Nat
  fallbackVoltage : Bool
deriving DecidableEq, Repr

/-- The derived tables (R183).  A reset decrement is absent for a reset time of 0 (R23). -/
structure Tables where
  w : Nat
  fastRates : List Nat
  delayedRates : List Nat
  resetP : Option Nat
  resetG : Option Nat
  qcap : Nat
  checksum : Word16
deriving DecidableEq, Repr

/-- The reasons of a settings fault (R180). -/
inductive FaultReason where
  | checksum
  | format
  | range
  | conflict
deriving DecidableEq, Repr

/-- The settings fault record (R180). -/
structure SettingsFault where
  index : Nat
  reason : FaultReason
deriving DecidableEq, Repr

/-- The phase of a start: READ, with the words delivered so far, or up.  CHECK, FREEZE, RETAIN and
BRING-UP are taken with the last word (R178). -/
inductive Phase where
  | read (words : List Word16)
  | up
deriving DecidableEq, Repr

/-- The state of the STL: the phase of the start, the frozen image, the derived tables and the
settings fault record (R178, R180, R183). -/
structure Stl where
  phase : Phase
  image : Settings
  tables : Tables
  fault : Option SettingsFault
deriving DecidableEq, Repr

/-- The time base (R184); `lastSecond` is the uptime of the last second. -/
structure Clock where
  uptime : Uptime
  seconds : Word32
  lastSecond : Uptime
deriving DecidableEq, Repr

/-! ### What is on its way from one block to another -/

/-- A hand-off from the PEU or the MDU that has not yet reached the SQC.  An unsolicited open carries
HANDLE as it stood at the report (R56). -/
inductive Report where
  | tripRequest (r : TripRequest)
  | sequenceStep (time : Uptime)
  | openConfirmation (operating : Nat)
  | tripFail
  | closeConfirmation
  | closeFail
  | unsolicitedOpen (handleDown : Bool)
  | unsolicitedClose
  | positionFault
deriving DecidableEq, Repr

/-- Hand-offs in transit, oldest first: reports on their way to the SQC, and ended receptions on
their way to the receive filter. -/
structure Transit where
  reports : List Report
  receptions : List EndedReception
deriving DecidableEq, Repr

/-! ### The whole state -/

/-- The state of the part.  `pending` is the queue of waiting commands, first in, first out; `free`
counts the free values drawn (`Config`). -/
structure State where
  sfe : Sfe
  peu : Peu
  sqc : Sqc
  mdu : Mdu
  bcu : Bcu
  lnk : Lnk
  txq : Txq
  pvt : List PeerEntry
  tgt : Tgt
  rsl : Rsl
  stl : Stl
  rtm : Rtm
  clock : Clock
  transit : Transit
  free : Nat
  pending : List Instr
deriving DecidableEq, Repr

/-- The faults a step can stop with: none.  The manual gives every step of its table an effect, and a
step whose event cannot occur in a state changes nothing there (log entry 3). -/
inductive Fault where
deriving DecidableEq, Repr

/-- The refusals of a step. -/
inductive Refusal where
  /-- Raised by `exec` alone, for a row that has no meaning yet.  Safe: nothing is proved of such a step. -/
  | notModelled (mnemonic : String)
deriving DecidableEq, Repr

/-! ### Start states of the blocks -/

/-- A filter after any start (R6). -/
def Cic.start : Cic := ⟨0, 0, 0, 0, 0, 0⟩

/-- An AC channel after any start (R6). -/
def AcChannel.start : AcChannel := ⟨0, 0, 0, false⟩

/-- A voltage channel after any start (R6). -/
def Presence.start : Presence := ⟨.unknown, 0, 0, 0, false⟩

/-- The SFE after any start (R6). -/
def Sfe.start : Sfe :=
  { filters := Ch8.all Cic.start, bitCount := 0, discard := 3, ac := Ch6.all AcChannel.start,
    halfCount := 0, warming := 2, vs := Presence.start, vl := Presence.start, batCount := 0,
    vbSum := 0, ibatSum := 0, latest := none }

/-- The PEU after any start, and after a clearing (R18, R20). -/
def Peu.start : Peu :=
  { toc := Ch4.all ⟨false, 0, none, false⟩, inst := Ch4.all false, episode := none,
    outstanding := false }

/-- The SQC after any start, before the first position (R37, R59, R61). -/
def Sqc.start : Sqc :=
  { state := none, shot := 0, cause := none, record := none, opCause := none, closeSource := none,
    deadTimer := none, ewaitTimer := none, reclaimTimer := none, demandTimer := none,
    stuckAttempt := false, nonreclose := true, nonrecloseRead := false }

/-- A store after any start (R62). -/
def Store.start : Store := ⟨.empty, none, false, none, none⟩

/-- The MDU after any start (R62). -/
def Mdu.start : Mdu :=
  { openC := none, closedC := none, position := none, lastEnd := none, faultTimer := none,
    faultReported := false, handleDown := true, handleRead := false, op := .idle, opTimer := none, opCause := none,
    wear := none, driveStart := none, trip := Store.start, close := Store.start, mechSlow := false }

/-- The BCU after any start, before test due is formed (R79). -/
def Bcu.start : Bcu :=
  { supplyOk := false, supplyRead := false, mode := .off, duty := 0, absorbSeconds := 0,
    tailRun := 0, floatSeconds := 0, lowFloatRun := 0, soc := none, cls := none, cutoffRun := 0,
    latestMean := none, daySeconds := 0, testDue := false, test := none, loadTimer := none,
    retryTimer := none, latestAttempt := none }

/-- The LNK after any start (R104), the random generator not yet seeded.  The BUSY line is read as
inactive until its first change (log entry 5). -/
def Lnk.start : Lnk :=
  { power := .off, warmUp := none, cycle := none, holdLimit := none, reception := none,
    access := .idle, selected := none, slot := none, sendTimer := none, collide := false,
    pendingPower := none, pacing := 0, rng := 1, quiet := none, idClash := false, good := 0,
    bad := 0, link := none, busy := false, outFrame := [] }

/-- The TXQ after any start (R122). -/
def Txq.start : Txq :=
  { entries := [], nextOrder := 0, owed := none, pendingReport := none, period := none }

/-- The TGT after any start (R150). -/
def Tgt.start : Tgt := ⟨true, false, none⟩

/-- The RSL after any start of a station that is no tie (R164), before the inhibit reason is formed. -/
def Rsl.start : Rsl := ⟨.watch, none, false, false, none, none⟩

/-- An attribute at a COLD start (R99). -/
def Attribute.cold : Attribute := ⟨0, 200, 200⟩

/-- The retained items at a COLD start with the given full capacity (R185). -/
def Retained.cold (qcap : Nat) : Retained :=
  { tags := [], tagUnknown := true,
    health := ⟨Attribute.cold, Attribute.cold, Attribute.cold, Attribute.cold⟩,
    q := qcap / 2, qUncertain := true, daysSinceTest := 0, lastResult := none, opCounter := 0,
    wearTotal := 0, mechWear := false }

/-- The image before the first FREEZE; no block reads it (log entry 7). -/
def Settings.unloaded : Settings :=
  { groupCode := 0, stationId := none, lineHz := 0, role := .none, sUp := 0, sDn := 0, aI := 0,
    aV := 0, vLive := 0, vDead := 0, vbGain := 0, ibGain := 0, pPu := 0, gPu := 0, pInst := 0,
    gInst := 0, fast := [], delayed := [], tResetP := 0, tResetG := 0, l := 0, fastShots := 0,
    instMask := 0, holdTime := 0, qQuiet := 0, seqCoord := false, dt1 := 0, dt2 := 0, dt3 := 0,
    tReclaim := 0, tEwait := 0, tSlow := 0, tSlowClose := 0, wearLimit := 0, capacityAh := 0,
    iBulk := 0, vAbs := 0, iTail := 0, vFloat := 0, vEcon := 0, vProt := 0, vCut := 0,
    testInterval := 0, rMax := 0, vTestMin := 0, rRef := 0, thresholds := ⟨0, 0, 0, 0⟩,
    priorityMap := 0, statusPeriod := 0, silenceLimit := 0, tMid := 0, tTie := 0,
    fallbackVoltage := false }

/-- The derived tables before the first FREEZE; no block reads them (log entry 7). -/
def Tables.unloaded : Tables := ⟨0, [], [], none, none, 0, 0⟩

/-- The part at the beginning of its first start (R178): phase READ with no word delivered, every
block in its start state, and a Retained Memory whose battery has just been connected, so that its
contents fail the test of R186 and the start will be COLD (log entry 8). -/
def State.reset : State :=
  { sfe := Sfe.start, peu := Peu.start, sqc := Sqc.start, mdu := Mdu.start, bcu := Bcu.start,
    lnk := Lnk.start, txq := Txq.start, pvt := [], tgt := Tgt.start, rsl := Rsl.start,
    stl := ⟨.read [], Settings.unloaded, Tables.unloaded, none⟩,
    rtm := ⟨Retained.cold 0, 0⟩, clock := ⟨0, 0, 0⟩, transit := ⟨[], []⟩, free := 0,
    pending := [] }

end Sys2Proof.Machine
end

