-- ==== Sys2Proof/Machine/Operands.lean ====
section
/-! DEFINITION. Bytes, check words and codes: what a frame and the Retained Memory are made of.

Frames are laid out as chapter 12 gives them (R188 to R193), both ways: the bytes a station sends,
and what the receive filter reads in the bytes it hears. -/

namespace Sys2Proof.Machine

/-! ### Bytes (R188: high byte first) -/

/-- One byte. -/
def be1 (n : Nat) : List Byte := [BitVec.ofNat 8 n]

/-- Two bytes, high byte first. -/
def be2 (n : Nat) : List Byte := [BitVec.ofNat 8 (n / 256), BitVec.ofNat 8 n]

/-- Three bytes, high byte first. -/
def be3 (n : Nat) : List Byte := BitVec.ofNat 8 (n / 65536) :: be2 n

/-- Four bytes, high byte first. -/
def be4 (n : Nat) : List Byte := BitVec.ofNat 8 (n / 16777216) :: be3 n

/-- Byte `i` of a list as a number. -/
def nat1 (b : List Byte) (i : Nat) : Nat := (b.getD i 0).toNat

/-- The two bytes from `i` on as a number, high byte first. -/
def nat2 (b : List Byte) (i : Nat) : Nat := nat1 b i * 256 + nat1 b (i + 1)

/-- The three bytes from `i` on as a number, high byte first. -/
def nat3 (b : List Byte) (i : Nat) : Nat := nat1 b i * 65536 + nat2 b (i + 1)

/-- A bit weight: `2 ^ k` when the flag is set. -/
def bit (f : Bool) (k : Nat) : Nat := if f then 2 ^ k else 0

/-! ### The CRC (R106) -/

/-- One bit taken into the register: combined with the top bit, the register shifted, and 0x1021
combined in when the combined bit was 1 (R106 steps 3 and 4). -/
def crcBit (reg : Word16) (b : Bool) : Word16 :=
  if b ^^ reg.msb then (reg <<< 1) ^^^ 0x1021#16 else reg <<< 1

/-- One byte taken into the register, most significant bit first (R106 step 2). -/
def crcByte (reg : Word16) (b : Byte) : Word16 :=
  [7, 6, 5, 4, 3, 2, 1, 0].foldl (fun r k => crcBit r (b.getLsbD k)) reg

/-- The register after a run of bytes (R106 steps 1 to 5). -/
def crc (bytes : List Byte) : Word16 := bytes.foldl crcByte 0xFFFF#16

/-- A check word as it is sent: high byte, then low byte (R106 step 5). -/
def crcBytes (w : Word16) : List Byte := be2 w.toNat

/-! ### Codes (R192) -/

/-- The code of a sequence state; 0 is "not yet taken". -/
def SeqState.code : SeqState → Nat
  | .closed => 1
  | .reclaim => 2
  | .tripping => 3
  | .dead => 4
  | .energyWait => 5
  | .closing => 6
  | .lockout => 7
  | .stuck => 8

/-- The sequence state of a code. -/
def seqStateOf : Nat → Option SeqState
  | 1 => some .closed
  | 2 => some .reclaim
  | 3 => some .tripping
  | 4 => some .dead
  | 5 => some .energyWait
  | 6 => some .closing
  | 7 => some .lockout
  | 8 => some .stuck
  | _ => none

/-- The code of a cause; 0 is "none". -/
def Cause.code : Cause → Nat
  | .protection => 1
  | .manual => 2
  | .crew => 3
  | .tag => 4
  | .energy => 5
  | .closeFail => 6
  | .handle => 7
  | .externalOpen => 8
  | .restart => 9
  | .restoreOpen => 10
  | .tieOpen => 11
  | .tripFail => 12
  | .position => 13

/-- The cause of a code. -/
def causeOf : Nat → Option Cause
  | 1 => some .protection
  | 2 => some .manual
  | 3 => some .crew
  | 4 => some .tag
  | 5 => some .energy
  | 6 => some .closeFail
  | 7 => some .handle
  | 8 => some .externalOpen
  | 9 => some .restart
  | 10 => some .restoreOpen
  | 11 => some .tieOpen
  | 12 => some .tripFail
  | 13 => some .position
  | _ => none

/-- The lockout cause that a trip operation of a given cause ends with (R43). -/
def OpCause.cause : OpCause → Cause
  | .protection => .protection
  | .manual => .manual
  | .crew => .crew
  | .restoreOpen => .restoreOpen

/-- The code of a position; 0 is "not yet decided". -/
def Position.code : Position → Nat
  | .opened => 1
  | .closed => 2
  | .unknown => 3

/-- The position of a code. -/
def positionOf : Nat → Option Position
  | 1 => some .opened
  | 2 => some .closed
  | 3 => some .unknown
  | _ => none

/-- The code of a voltage state. -/
def VoltageState.code : VoltageState → Nat
  | .unknown => 0
  | .live => 1
  | .dead => 2

/-- The code of a reserve class; 0 is "not yet decided". -/
def ReserveClass.code : ReserveClass → Nat
  | .normal => 1
  | .economy => 2
  | .protectOnly => 3
  | .cutoff => 4

/-- The code of a charger mode. -/
def ChargerMode.code : ChargerMode → Nat
  | .off => 0
  | .bulk => 1
  | .absorb => 2
  | .float => 3
  | .test => 4

/-- The code of a radio power state. -/
def RadioPower.code : RadioPower → Nat
  | .off => 0
  | .active => 1
  | .duty => 2
  | .sparse => 3

/-- The code of a role. -/
def Role.code : Role → Nat
  | .none => 0
  | .midpoint => 1
  | .tie => 2

/-- The role of a code. -/
def roleOf : Nat → Role
  | 1 => .midpoint
  | 2 => .tie
  | _ => .none

/-- The code of a restoration state. -/
def RestState.code : RestState → Nat
  | .watch => 0
  | .timing _ => 1
  | .opened => 2
  | .restored => 3
  | .inhibited _ => 4

/-- The code of an INHIBITED reason. -/
def Inhibited.code : Inhibited → Nat
  | .start => 1
  | .faultedSegment => 2
  | .afterRestore => 3
  | .store => 4

/-- The upper half of the restoration qualifier: the side of TIMING, or the INHIBITED reason (R191). -/
def RestState.qualifier : RestState → Nat
  | .timing (some .up) => 1
  | .timing (some .dn) => 2
  | .inhibited r => r.code
  | _ => 0

/-- The code of an inhibit reason; 0 is "absent". -/
def InhibitReason.code : InhibitReason → Nat
  | .settings => 1
  | .idClash => 2
  | .stuck => 3
  | .nonreclose => 4

/-- The code of a settings fault reason. -/
def FaultReason.code : FaultReason → Nat
  | .checksum => 1
  | .format => 2
  | .range => 3
  | .conflict => 4

/-- The code of an event kind. -/
def EventKind.code : EventKind → Nat
  | .trip => 1
  | .deadTime => 2
  | .reclose => 3
  | .manualClose => 4
  | .restoreClose => 5
  | .externalClose => 6
  | .lockout => 7
  | .stuck => 8

/-- The event kind of a code. -/
def eventKindOf : Nat → Option EventKind
  | 1 => some .trip
  | 2 => some .deadTime
  | 3 => some .reclose
  | 4 => some .manualClose
  | 5 => some .restoreClose
  | 6 => some .externalClose
  | 7 => some .lockout
  | 8 => some .stuck
  | _ => none

/-- The code of a request kind. -/
def RequestKind.code : RequestKind → Nat
  | .tagPlace => 1
  | .tagRemove => 2
  | .clearUnknown => 3
  | .trip => 4
  | .close => 5
  | .statusNow => 6
  | .batteryTest => 7

/-- The request kind of a code. -/
def requestKindOf : Nat → Option RequestKind
  | 1 => some .tagPlace
  | 2 => some .tagRemove
  | 3 => some .clearUnknown
  | 4 => some .trip
  | 5 => some .close
  | 6 => some .statusNow
  | 7 => some .batteryTest
  | _ => none

/-- The code of an outcome. -/
def RequestOutcome.code : RequestOutcome → Nat
  | .accepted => 0
  | .refusedTagged => 1
  | .refusedNotOwner => 2
  | .refusedState => 3
  | .refusedEnergy => 4
  | .refusedFull => 5
  | .refusedBad => 6

/-- The code of a test outcome. -/
def TestOutcome.code : TestOutcome → Nat
  | .pass => 1
  | .fail => 2
  | .invalid => 3

/-- The code of a latest attempt. -/
def AttemptOutcome.code : AttemptOutcome → Nat
  | .pass => 1
  | .fail => 2
  | .invalid => 3
  | .aborted => 4

/-- The code of an optional field: 0 when it is absent (R188, fields not yet formed). -/
def optCode {α : Type} (f : α → Nat) : Option α → Nat
  | some a => f a
  | none => 0

/-! ### Records and bodies as they are sent (R190, R191) -/

/-- The byte of a set of elements: bit 0 PA to bit 3 G, bit 4 PA-I to bit 7 G-I (R190). -/
def ElementSet.code (e : ElementSet) : Nat :=
  bit e.toc.ia 0 + bit e.toc.ib 1 + bit e.toc.ic 2 + bit e.toc.ig 3 + bit e.inst.ia 4 +
    bit e.inst.ib 5 + bit e.inst.ic 6 + bit e.inst.ig 7

/-- The scope field of a tag record: 0 STATION, otherwise the segment (R190). -/
def Scope.code : Scope → Nat
  | .station => 0
  | .segment s => s

/-- A tag record, 3 bytes (R190). -/
def tagRecordBytes (t : TagRecord) : List Byte :=
  be2 t.crew ++ be1 (bit (t.kind = .hotline) 7 + t.scope.code)

/-- The radio tags of a frame: their number, then their records (R191). -/
def tagListBytes (ts : List TagRecord) : List Byte := be1 ts.length ++ ts.flatMap tagRecordBytes

/-- Four rms values, two bytes each (R190). -/
def rmsBytes (r : Ch4 Nat) : List Byte := be2 r.ia ++ be2 r.ib ++ be2 r.ic ++ be2 r.ig

/-- A trip record, 18 bytes (R190).  A single absent field is sent as 0 (R188). -/
def tripRecordBytes (r : TripRecord) : List Byte :=
  be1 (bit r.operating.isSome 0) ++ be1 r.number ++ be1 r.cause.cause.code ++ be1 r.elements.code ++
    rmsBytes r.rms ++ be4 r.start.toNat ++ be2 (r.operating.getD 0)

/-- The byte of a reason set (R191). -/
def Reasons.code (r : Reasons) : Nat :=
  bit r.period 0 + bit r.start 1 + bit r.seqEvent 2 + bit r.tagChange 3 + bit r.crew 4 +
    bit r.overflow 5

/-- The body of a PICKUP (R191). -/
def pickupBody (c : PickupContent) : List Byte :=
  be1 c.elements.code ++ be1 c.shot ++ be1 c.quiet ++ be1 c.sUp ++ be1 c.sDn

/-- The body of a SEQ_EVENT; kind TRIP carries the trip record (R191). -/
def seqEventBody (c : SeqEventContent) : List Byte :=
  be1 c.kind.code ++ be4 c.time.toNat ++ be1 (optCode SeqState.code c.state) ++ be1 c.shot ++
    be1 (optCode Cause.code c.cause) ++ be1 (optCode Position.code c.position) ++
    (match c.record with
     | some r => tripRecordBytes r
     | none => [])

/-- The body of a TAG_NOTICE (R191). -/
def tagNoticeBody (c : TagNoticeContent) : List Byte :=
  be1 (bit c.panel 1 + bit c.tagUnknown 2) ++ tagListBytes c.tags

/-- The body of a REQUEST_RESULT (R191). -/
def resultBody (c : ResultContent) : List Byte :=
  be2 c.crew ++ be1 c.kind.code ++ be1 c.outcome.code

/-- A measured value as a BATTERY_REPORT sends it: clamped to 0..65,535 (R188). -/
def clampSent (v : Int) : Nat := min 65535 v.toNat

/-- A health attribute as it is sent: raw, value, worst, threshold (R191). -/
def attributeBytes (a : Attribute) (threshold : Nat) : List Byte :=
  be2 a.raw ++ be1 a.value ++ be1 a.worst ++ be1 threshold

/-- Whether an attribute's status is BELOW (R99). -/
def Attribute.below (a : Attribute) (threshold : Nat) : Bool := a.value ≤ threshold

/-- The fields of the last result in a BATTERY_REPORT; all 0 when it is absent (R188, R191). -/
def lastResultBytes : Option TestResult → List Byte
  | some t =>
    be1 t.outcome.code ++ be2 (clampSent t.v0) ++ be2 (clampSent t.v1) ++ be2 (clampSent t.i1) ++
      be2 (t.r.getD 0)
  | none => be1 0 ++ be2 0 ++ be2 0 ++ be2 0 ++ be2 0

/-- The body of a BATTERY_REPORT, 36 bytes (R191). -/
def batteryBody (c : BatteryContent) : List Byte :=
  be1 (optCode AttemptOutcome.code c.attempt) ++
    be1 (bit c.last.isSome 0 + bit (c.last.any (·.r.isSome)) 1 + bit c.poor 2 +
      bit c.qUncertain 3 + bit (c.health.resistance.below c.thresholds.resistance) 4 +
      bit (c.health.testFails.below c.thresholds.testFails) 5 +
      bit (c.health.deepDischarge.below c.thresholds.deepDischarge) 6 +
      bit (c.health.absorbLimit.below c.thresholds.absorbLimit) 7) ++
    lastResultBytes c.last ++
    attributeBytes c.health.resistance c.thresholds.resistance ++
    attributeBytes c.health.testFails c.thresholds.testFails ++
    attributeBytes c.health.deepDischarge c.thresholds.deepDischarge ++
    attributeBytes c.health.absorbLimit c.thresholds.absorbLimit ++
    be1 (c.soc.getD 0) ++ be1 (optCode ReserveClass.code c.cls) ++ be1 c.mode.code ++ be2 c.days

/-- A whole frame: the header of R189, the body, and the CRC over every byte before it (R105, R106). -/
def frameBytes (kind group station : Nat) (body : List Byte) : List Byte :=
  let front := be1 kind ++ be1 (body.length + 7) ++ be2 group ++ be1 station ++ body
  front ++ crcBytes (crc front)

/-! ### The integrity word of the Retained Memory (R185) -/

/-- The bytes of a retained attribute. -/
def retainedAttributeBytes (a : Attribute) : List Byte := be2 a.raw ++ be1 a.value ++ be1 a.worst

/-- A signed value as four bytes. -/
def intBytes (v : Int) : List Byte := be4 (BitVec.ofInt 32 v).toNat

/-- The bytes of the retained last result. -/
def retainedResultBytes : Option TestResult → List Byte
  | some t =>
    be1 t.outcome.code ++ intBytes t.v0 ++ intBytes t.v1 ++ intBytes t.i1 ++
      be1 (bit t.r.isSome 0) ++ be2 (t.r.getD 0)
  | none => be1 0

/-- The items in the order of the table of R185.  The manual fixes an order and does not lay out the
bytes: this layout is the model's (DESIGN CHOICE, log entry 9). -/
def Retained.bytes (r : Retained) : List Byte :=
  tagListBytes r.tags ++ be1 (bit r.tagUnknown 0) ++ retainedAttributeBytes r.health.resistance ++
    retainedAttributeBytes r.health.testFails ++ retainedAttributeBytes r.health.deepDischarge ++
    retainedAttributeBytes r.health.absorbLimit ++ be4 r.q ++ be1 (bit r.qUncertain 0) ++
    be2 r.daysSinceTest ++ retainedResultBytes r.lastResult ++ be3 r.opCounter ++ be4 r.wearTotal ++
    be1 (bit r.mechWear 0)

/-- The check over the items, formed with the computation of the frame CRC (R185). -/
def Retained.check (r : Retained) : Word16 := crc r.bytes

/-- A whole write: the items with a fresh integrity word (R185). -/
def Rtm.written (r : Retained) : Rtm := ⟨r, r.check⟩

/-- The test of R186. -/
def Rtm.agrees (m : Rtm) : Bool := m.items.check = m.integrity

/-! ### What the receive filter reads (R107, R108, R193) -/

/-- The target of a CREW_REQUEST (chapter 9.5). -/
inductive Target where
  | station (id : Nat)
  | segment (s : Nat)
deriving DecidableEq, Repr

/-- A CREW_REQUEST (chapter 9.5). -/
structure CrewRequest where
  crew : Nat
  kind : RequestKind
  target : Target
  tagKind : TagKind
deriving DecidableEq, Repr

/-- What the PVT takes from a STATUS (R138). -/
structure StatusInfo where
  segments : Segments
  role : Role
  state : Option SeqState
  cause : Option Cause
  position : Option Position
  tags : PeerTags
deriving DecidableEq, Repr

/-- What the PVT takes from a SEQ_EVENT (R140). -/
structure SeqEventInfo where
  kind : EventKind
  state : Option SeqState
  cause : Option Cause
  position : Option Position
deriving DecidableEq, Repr

/-- An ACCEPTED frame, by kind, with its sender's station id (R109). -/
inductive Frame where
  | status (id : Nat) (c : StatusInfo)
  | pickup (id : Nat) (segments : Segments) (quiet : Nat)
  | seqEvent (id : Nat) (c : SeqEventInfo)
  | tagNotice (id : Nat) (tags : PeerTags)
  | report (id : Nat)
  | request (r : CrewRequest)
deriving DecidableEq, Repr

/-- The classes of the receive filter (R108). -/
inductive FrameClass where
  | runt
  | long
  | badCrc
  | foreign
  | unknown
  | clash
  | accepted (f : Frame)
deriving DecidableEq, Repr

/-- The tag record at byte `i` of a body (R190). -/
def tagAt (b : List Byte) (i : Nat) : TagRecord :=
  { crew := nat2 b i,
    kind := if nat1 b (i + 2) ≥ 128 then .hotline else .hold,
    scope := if nat1 b (i + 2) % 32 = 0 then .station else .segment (nat1 b (i + 2) % 32) }

/-- The `n` tag records from byte `i` of a body on. -/
def tagsAt (b : List Byte) (i n : Nat) : List TagRecord :=
  (List.range n).map fun k => tagAt b (i + 3 * k)

/-- A peer's announced tags: its panel slot first, when occupied, then its radio tags in the order
carried (R138, R141). -/
def announced (panel unknown : Bool) (radio : List TagRecord) : PeerTags :=
  { records := if panel then ⟨0, .hotline, .station⟩ :: radio else radio, tagUnknown := unknown }

/-- Whether the `n` tag records from byte `i` on carry crew ids of 1..4,095 (R193). -/
def tagsFit (b : List Byte) (i n : Nat) : Bool :=
  (tagsAt b i n).all fun t => decide (1 ≤ t.crew ∧ t.crew ≤ 4095)

/-- Whether the trip record at byte `i` holds its codes and ranges (R190, R192, R193). -/
def tripRecordFits (b : List Byte) (i : Nat) : Bool :=
  nat1 b (i + 1) ≤ 4 && nat1 b (i + 2) ≤ 13 && nat2 b (i + 4) ≤ 32768 && nat2 b (i + 6) ≤ 32768 &&
    nat2 b (i + 8) ≤ 32768 && nat2 b (i + 10) ≤ 32768

/-- Whether the restoration qualifier holds codes for the restoration state it goes with (R191, R192). -/
def qualifierFits (state qualifier : Nat) : Bool :=
  qualifier % 16 ≤ 4 &&
    (if state = 1 then qualifier / 16 ≤ 2
     else if state = 4 then 1 ≤ qualifier / 16 && qualifier / 16 ≤ 4
     else true)

/-- Whether a STATUS body fits its kind (R189, R191 to R193). -/
def statusFits (b : List Byte) : Bool :=
  let n := nat1 b 26
  let record := (nat1 b 11).testBit 3
  n ≤ 4 && b.length = 27 + 3 * n + (if record then 18 else 0) && nat1 b 1 ≤ 2 && nat1 b 4 ≤ 8 &&
    nat1 b 5 ≤ 4 && nat1 b 6 ≤ 13 && nat1 b 7 ≤ 3 && nat1 b 8 % 4 ≤ 2 && nat1 b 8 / 4 % 4 ≤ 2 &&
    nat1 b 9 ≤ 4 && nat1 b 10 ≤ 100 && nat1 b 12 ≤ 4 && nat1 b 13 ≤ 3 && nat1 b 14 ≤ 4 &&
    qualifierFits (nat1 b 14) (nat1 b 15) && nat1 b 17 ≤ 95 && nat1 b 18 ≤ 4 &&
    nat3 b 19 ≤ 999999 && tagsFit b 27 n && (!record || tripRecordFits b (27 + 3 * n))

/-- Whether a PICKUP body fits its kind (R193).  The range 0..4 that 12.4 gives the shot of a STATUS is applied
to the shot here too (DESIGN CHOICE, log entry 49). -/
def pickupFits (b : List Byte) : Bool := b.length = 5 && nat1 b 0 ≠ 0 && nat1 b 1 ≤ 4

/-- Whether a SEQ_EVENT body fits its kind; a TRIP carries its record (R189, R193).  The range 0..4 of the shot is
applied as for a PICKUP (DESIGN CHOICE, log entry 49). -/
def seqEventFits (b : List Byte) : Bool :=
  (eventKindOf (nat1 b 0)).isSome && b.length = (if nat1 b 0 = 1 then 27 else 9) &&
    nat1 b 5 ≤ 8 && nat1 b 6 ≤ 4 && nat1 b 7 ≤ 13 && nat1 b 8 ≤ 3 &&
    (nat1 b 0 ≠ 1 || tripRecordFits b 9)

/-- Whether a TAG_NOTICE body fits its kind (R193). -/
def tagNoticeFits (b : List Byte) : Bool :=
  nat1 b 1 ≤ 4 && b.length = 2 + 3 * nat1 b 1 && tagsFit b 2 (nat1 b 1)

/-- Whether a REQUEST_RESULT body fits its kind (R193). -/
def resultFits (b : List Byte) : Bool :=
  b.length = 4 && nat2 b 0 ≤ 4095 && (requestKindOf (nat1 b 2)).isSome && nat1 b 3 ≤ 6

/-- Whether a BATTERY_REPORT body fits its kind (R193).  The range 0..100 that 12.4 gives the SoC of a STATUS is
applied to the SoC here too (DESIGN CHOICE, log entry 49). -/
def batteryFits (b : List Byte) : Bool :=
  b.length = 36 && nat1 b 0 ≤ 4 && nat1 b 2 ≤ 4 && nat1 b 31 ≤ 100 && nat1 b 32 ≤ 4 && nat1 b 33 ≤ 4

/-- Whether a CREW_REQUEST body fits its kind; the tag kind counts for TAG_PLACE alone (R193). -/
def requestFits (b : List Byte) : Bool :=
  b.length = 5 && nat2 b 0 ≤ 4095 && (requestKindOf (nat1 b 2)).isSome &&
    (nat1 b 3 ≥ 128 || nat1 b 3 % 16 ≠ 0) && (nat1 b 2 ≠ 1 || nat1 b 4 ≤ 1)

/-- What a STATUS body tells the PVT (R138). -/
def statusOf (b : List Byte) : StatusInfo :=
  { segments := ⟨nat1 b 2, nat1 b 3⟩, role := roleOf (nat1 b 1), state := seqStateOf (nat1 b 4),
    cause := causeOf (nat1 b 6), position := positionOf (nat1 b 7),
    tags := announced ((nat1 b 11).testBit 1) ((nat1 b 11).testBit 2) (tagsAt b 27 (nat1 b 26)) }

/-- What a SEQ_EVENT body tells the PVT (R140). -/
def seqEventOf (b : List Byte) (kind : EventKind) : SeqEventInfo :=
  { kind, state := seqStateOf (nat1 b 5), cause := causeOf (nat1 b 7),
    position := positionOf (nat1 b 8) }

/-- The request in a CREW_REQUEST body (R191). -/
def requestOf (b : List Byte) (kind : RequestKind) : CrewRequest :=
  { crew := nat2 b 0, kind,
    target := if nat1 b 3 ≥ 128 then .segment (nat1 b 3 % 32) else .station (nat1 b 3 % 16),
    tagKind := if nat1 b 4 = 1 then .hotline else .hold }

/-- The frame that a kind, a sender and a body make, when the kind is known, its sender's class sends
it, a station names an id, and the body fits (R108 check 6). -/
def frameOf (kind sender : Nat) (b : List Byte) : Option Frame :=
  let handset := sender ≥ 128
  let id := sender % 16
  if handset then
    if kind = 0x10 && requestFits b then (requestKindOf (nat1 b 2)).map fun k => .request (requestOf b k)
    else none
  else if id = 0 then none
  else match kind with
    | 0x01 => if statusFits b then some (.status id (statusOf b)) else none
    | 0x02 => if pickupFits b then some (.pickup id ⟨nat1 b 3, nat1 b 4⟩ (nat1 b 2)) else none
    | 0x03 =>
      if seqEventFits b then (eventKindOf (nat1 b 0)).map fun k => .seqEvent id (seqEventOf b k)
      else none
    | 0x04 =>
      if tagNoticeFits b then
        some (.tagNotice id
          (announced ((nat1 b 0).testBit 1) ((nat1 b 0).testBit 2) (tagsAt b 2 (nat1 b 1))))
      else none
    | 0x05 => if resultFits b then some (.report id) else none
    | 0x06 => if batteryFits b then some (.report id) else none
    | _ => none

/-- The receive filter: the first check that applies decides the class (R108).  A station with no own
id skips check 7. -/
def classify (group : Nat) (own : Option Nat) (r : EndedReception) : FrameClass :=
  let length := nat1 r.bytes 1
  let frame := r.bytes.take length
  if r.count < 8 || length < 8 then .runt
  else if length > 64 then .long
  else if r.count < length then .runt
  else if crcBytes (crc (frame.take (length - 2))) ≠ frame.drop (length - 2) then .badCrc
  else if nat2 frame 2 ≠ group then .foreign
  else match frameOf (nat1 frame 0) (nat1 frame 4) ((frame.drop 5).take (length - 7)) with
    | none => .unknown
    | some f => if nat1 frame 4 < 128 && own = some (nat1 frame 4 % 16) then .clash else .accepted f

end Sys2Proof.Machine
end

