-- ==== Sys2Proof/Machine/Flags.lean ====
section
/-! DEFINITION. What the blocks publish: ages, indications, alarms, lamps and outputs.

Each is computed from the items it is formed from, as it stands when it is read (R28, R38, R39, R48,
R76, R101, R103, R111, R113, R153, R155, R165). -/

namespace Sys2Proof.Machine

/-- The present uptime (R184). -/
def State.now (s : State) : Uptime := s.clock.uptime

/-- Whether the part is past BRING-UP (R178, R187). -/
def State.up (s : State) : Bool := s.stl.phase = .up

/-- An age: the present uptime minus a recorded one, modulo 4,294,967,296 (R184). -/
def ageOf (now t : Uptime) : Nat := (now - t).toNat

/-- The capped age of R14 and R142: 2,147,483,648 ms. -/
def ageCap : Nat := 2147483648

/-- The age of a voltage channel in its state, as the SFE answers it (R14). -/
def Presence.age (p : Presence) (now : Uptime) : Nat := if p.aged then ageCap else ageOf now p.lastChange

/-- The remaining time of a timer; a stopped timer counts as 0 (R121). -/
def remaining (now : Uptime) : Option Timer → Nat
  | some t => t.ms - ageOf now t.start
  | none => 0

/-! ### Tags (R153) -/

/-- The tag hold (R153). -/
def State.tagHold (s : State) : Bool :=
  s.tgt.hotlineOn || !s.rtm.items.tags.isEmpty || s.rtm.items.tagUnknown

/-- HOTLINE held (R153). -/
def State.hotlineHeld (s : State) : Bool :=
  s.tgt.hotlineOn || s.rtm.items.tags.any fun t => t.kind = .hotline

/-! ### Protection (R18) -/

/-- ANY_PICKUP: some element's picked-up flag is set (R18, R28). -/
def Peu.anyPickup (p : Peu) : Bool := (p.toc.map Toc.pickedUp).any || p.inst.any

/-! ### Sequence -/

/-- The effective L (R38). -/
def State.effectiveL (s : State) : Nat :=
  if s.sqc.nonreclose || s.tagHold || s.rsl.state = .restored then 1 else s.stl.image.l

/-- The close demand (R39). -/
def State.closeDemand (s : State) : Bool :=
  s.sqc.state = some .energyWait || s.sqc.demandTimer.isSome || s.rsl.storeWait.isSome

/-- The close gate (R48); a class not yet decided counts as not CUTOFF (R90). -/
def State.gateOpen (s : State) : Bool :=
  !s.tagHold && !s.mdu.handleDown && s.bcu.cls ≠ some .cutoff && s.sqc.state ≠ some .stuck

/-! ### Stores (R75 to R77) -/

/-- Whether a store is READY. -/
def Store.isReady (t : Store) : Bool := t.state = .ready

/-- The two stores by name. -/
def Mdu.store (m : Mdu) : StoreId → Store
  | .trip => m.trip
  | .close => m.close

/-- STORE_FAULT: either store is in FAULT (R77). -/
def Mdu.storeFault (m : Mdu) : Bool := m.trip.state = .fault || m.close.state = .fault

/-- Charger busy: either charge enable is on (R75). -/
def Mdu.chargerBusy (m : Mdu) : Bool := m.trip.enable || m.close.enable

/-- Whether close-store charging is allowed (R76). -/
def closeChargingAllowed (cls : Option ReserveClass) (demand : Bool) : Bool :=
  match cls with
  | some .normal => true
  | some .economy => true
  | some .protectOnly => demand
  | some .cutoff => false
  | none => false

/-! ### Battery -/

/-- BATTERY_POOR: at least one attribute status is BELOW (R101). -/
def batteryPoor (h : Health Attribute) (t : Health Nat) : Bool :=
  h.resistance.below t.resistance || h.testFails.below t.testFails ||
    h.deepDischarge.below t.deepDischarge || h.absorbLimit.below t.absorbLimit

/-- BATTERY_POOR of the part. -/
def State.poor (s : State) : Bool := batteryPoor s.rtm.items.health s.stl.image.thresholds

/-- Whether the class is NORMAL or ECONOMY; a class not yet decided is neither (R90, R171). -/
def State.classAllowsRestore (s : State) : Bool :=
  s.bcu.cls = some .normal || s.bcu.cls = some .economy

/-! ### Link -/

/-- Whether the access state keeps the receiver on in DUTY and SPARSE (R113). -/
def Access.listens : Access → Bool
  | .gap => true
  | .sense => true
  | .backoff => true
  | .idle => false
  | .sending => false

/-- The power enable (R103). -/
def Lnk.powerEnable (l : Lnk) : Bool := l.power ≠ .off

/-- The listen enable (R103, R112, R113). -/
def Lnk.listenEnable (l : Lnk) : Bool :=
  l.powerEnable && l.warmUp.isNone && l.access ≠ .sending &&
    (l.power = .active || l.cycle.any (·.windowOpen) || l.holdLimit.isSome || l.access.listens)

/-- BUSY as the LNK reads it: inactive while the listen enable is off (R103). -/
def Lnk.busyRead (l : Lnk) : Bool := l.busy && l.listenEnable

/-! ### Restoration -/

/-- The inhibit reason: the first condition that holds (R165). -/
def State.formInhibit (s : State) : Option InhibitReason :=
  if s.stl.fault.isSome then some .settings
  else if s.lnk.idClash then some .idClash
  else if s.sqc.state = some .stuck then some .stuck
  else if s.sqc.nonreclose then some .nonreclose
  else none

/-- The inputs of the entry to TIMING (R166). -/
structure RslInputs where
  vs : VoltageState
  vl : VoltageState
  state : Option SeqState
  anyPickup : Bool
  inhibit : Option InhibitReason
deriving DecidableEq, Repr

/-- The inputs of the entry to TIMING as they stand (R166). -/
def State.rslInputs (s : State) : RslInputs :=
  { vs := s.sfe.vs.state, vl := s.sfe.vl.state, state := s.sqc.state,
    anyPickup := s.peu.anyPickup, inhibit := s.formInhibit }

/-! ### Alarms, lamps and outputs -/

/-- The alarm byte of a STATUS (R130, R191). -/
def State.alarms (s : State) : Nat :=
  bit s.lnk.idClash 0 + bit s.mdu.mechSlow 1 + bit s.rtm.items.mechWear 2 + bit s.mdu.storeFault 3 +
    bit s.poor 4 + bit s.stl.fault.isSome 5

/-- Everything the part drives: coils, charge enables, charger duty, test load, modem enables, serial
out, and the four lamps (chapter "The part at a glance"). -/
structure Outputs where
  tripCoil : Bool
  closeCoil : Bool
  tripCharge : Bool
  closeCharge : Bool
  duty : Nat
  testLoad : Bool
  powerEnable : Bool
  listenEnable : Bool
  serialOut : List Byte
  lockoutLamp : Bool
  taggedLamp : Bool
  batteryLamp : Bool
  linkLamp : Bool
deriving DecidableEq, Repr

/-- The trip coil drive: on in DRIVE (chapter 4.4). -/
def Mdu.tripCoil (m : Mdu) : Bool :=
  match m.op with
  | .trip .drive _ => true
  | _ => false

/-- The close coil drive: on during a close operation (R70). -/
def Mdu.closeCoil (m : Mdu) : Bool := m.op = .close

/-- The test load output: on while the charger is in TEST (R84). -/
def Bcu.testLoad (b : Bcu) : Bool := b.mode = .test

/-- The LOCKOUT lamp (R60). -/
def State.lockoutLamp (s : State) : Bool :=
  s.sqc.state = some .lockout || s.sqc.state = some .stuck

/-- The TAGGED lamp (R155); dark until BRING-UP (R178). -/
def State.taggedLamp (s : State) : Bool := s.up && s.tagHold

/-- The BATTERY lamp (R101); dark until BATTERY_POOR is first formed, at BRING-UP. -/
def State.batteryLamp (s : State) : Bool := s.up && s.poor

/-- The LINK lamp (R111). -/
def State.linkLamp (s : State) : Bool :=
  s.lnk.power ≠ .off && !s.lnk.idClash && s.lnk.link.isSome

/-- The outputs as they stand. -/
def State.outputs (s : State) : Outputs :=
  { tripCoil := s.mdu.tripCoil, closeCoil := s.mdu.closeCoil, tripCharge := s.mdu.trip.enable,
    closeCharge := s.mdu.close.enable, duty := s.bcu.duty, testLoad := s.bcu.testLoad,
    powerEnable := s.lnk.powerEnable, listenEnable := s.lnk.listenEnable,
    serialOut := s.lnk.outFrame, lockoutLamp := s.lockoutLamp, taggedLamp := s.taggedLamp,
    batteryLamp := s.batteryLamp, linkLamp := s.linkLamp }

end Sys2Proof.Machine
end

