-- ==== Sys2Proof/Machine/Ops.lean ====
section
/-! DEFINITION. Operations shared by every block: guards, timers, hand-offs, the write of a retained
item, free values and the whole-number square root. -/

namespace Sys2Proof.Machine

/-- The outcome of every step: a next state.  Before BRING-UP the blocks take no events (R178, R187):
a command that is no part of the start then changes nothing. -/
def whenUp (f : State → State) (s : State) : Host.Outcome State Fault Refusal :=
  .next (if s.up then f s else s)

/-- A timer started now (chapter "Conventions", Time). -/
def State.timer (s : State) (ms : Nat) : Timer := ⟨s.now, ms⟩

/-- Whether a timer has run its length at an uptime. -/
def Timer.over (now : Uptime) (t : Timer) : Bool := t.ms ≤ ageOf now t.start

/-- Runs a step only while its timer runs: a stopped timer does not expire (R37). -/
def ifRuns (t : State → Option Timer) (f : State → State) (s : State) : State :=
  if (t s).isSome then f s else s

/-! ### Hand-offs -/

/-- Puts a hand-off to the SQC on its way, behind those already in transit. -/
def State.report (s : State) (r : Report) : State :=
  { s with transit := { s.transit with reports := s.transit.reports ++ [r] } }

/-- The oldest hand-off that a test picks out, with the others in their order. -/
def takeReport {α : Type} (pick : Report → Option α) : List Report → Option (α × List Report)
  | [] => none
  | r :: rs =>
    match pick r with
    | some a => some (a, rs)
    | none =>
      match takeReport pick rs with
      | some (a, rest) => some (a, r :: rest)
      | none => none

/-- The arrival of a hand-off: the oldest one that the test picks out leaves transit and is handled.
With none in transit there is no arrival, and nothing changes (log entry 3). -/
def onArrival {α : Type} (pick : Report → Option α) (f : α → State → State) (s : State) : State :=
  match takeReport pick s.transit.reports with
  | some (a, rest) => f a { s with transit := { s.transit with reports := rest } }
  | none => s

/-! ### Retained Memory -/

/-- Changes retained items and writes them whole with a fresh integrity word (R185). -/
def State.retain (s : State) (f : Retained → Retained) : State :=
  { s with rtm := Rtm.written (f s.rtm.items) }

/-! ### Free values (Config) -/

/-- A mean the manual does not state, drawn fresh (log entry 4). -/
def State.drawMean (s : State) : (Int × Int) × State :=
  (Config.unstatedMean s.free, { s with free := s.free + 1 })

/-- An rms the manual does not state, within its range of 0..32,768 (log entry 4). -/
def freeRms (n : Nat) : Nat := Config.unstatedRms n % 32769

/-- The askings of two blocks at one event, in either order (R124; the order is a free value, log entry 4). -/
def eitherOrder (f g : State → State) (s : State) : State :=
  let t := { s with free := s.free + 1 }
  if Config.firstAsker s.free then g (f t) else f (g t)

/-! ### Arithmetic -/

/-- Whole-number square root with fuel: two bits of the argument a step. -/
def isqrtAux : Nat → Nat → Nat
  | 0, _ => 0
  | fuel + 1, n =>
    if n = 0 then 0
    else
      let r := 2 * isqrtAux fuel (n / 4)
      if (r + 1) * (r + 1) ≤ n then r + 1 else r

/-- The whole-number square root, rounded down (chapter "Conventions", Arithmetic). -/
def isqrt (n : Nat) : Nat := isqrtAux n n

/-- To clamp a value to a range (chapter "Conventions", Arithmetic). -/
def clamp (lo hi v : Int) : Int := max lo (min hi v)

/-- ceil(a / b) for b above 0 (chapter "Conventions", Arithmetic). -/
def ceilDiv (a b : Nat) : Nat := (a + b - 1) / b

end Sys2Proof.Machine
end

