-- ==== Sys2Proof/Machine/Measurement.lean ====
section
/-! DEFINITION. The Sample Front End (chapter 1): decimation, scaling, DC removal, magnitude, voltage
presence and battery means.

A count that has reached its limit (256 bits, W/2 samples, 2,400 samples) means that the event it
counts toward has fallen due and has not been taken yet: the row that names the event takes it, and
the next bit or sample takes it first where no row has (log entry 10). -/

namespace Sys2Proof.Machine

/-! ### Decimation (R2, R3) -/

/-- One bit taken into the three integrators of a channel (R2). -/
def Cic.integrate (b : Bool) (c : Cic) : Cic :=
  let i1 := c.i1 + (if b then 1 else -1)
  let i2 := c.i2 + i1
  { c with i1, i2, i3 := c.i3 + i2 }

/-- The output y of the three combs for the integrators as they stand (R3). -/
def Cic.output (c : Cic) : Word32 := c.i3 - c.h1 - c.h2 - c.h3

/-- The three combs after a decimated sample, each holding what it received (R3). -/
def Cic.comb (c : Cic) : Cic :=
  { c with h1 := c.i3, h2 := c.i3 - c.h1, h3 := c.i3 - c.h1 - c.h2 }

/-- The bits of one modulator clock period, channel by channel (R1). -/
def bitsOf (b : Byte) : Ch8 Bool :=
  ⟨b.getLsbD 0, b.getLsbD 1, b.getLsbD 2, b.getLsbD 3, b.getLsbD 4, b.getLsbD 5, b.getLsbD 6,
    b.getLsbD 7⟩

/-- The eight bits of one clock period taken by their channels (R1, R2). -/
def Sfe.takeBits (f : Sfe) (bits : Byte) : Sfe :=
  { f with filters := (bitsOf bits).zip Cic.integrate f.filters, bitCount := f.bitCount + 1 }

/-! ### Scaling and the clip test (R4) -/

/-- A decimated output scaled to counts, halves rounded up (R4). -/
def scale (y : Word32) : Int := (y.toInt + 256) / 512

/-- The clip test of R4.  Only the two ends of the range of y reach full scale (R4). -/
def fullScale (s : Int) : Bool := 32768 ≤ s || s ≤ -32768

/-- A value clamped to the sample range (R4, R8). -/
def clampSample (s : Int) : Int := clamp (-32768) 32767 s

/-! ### DC removal and the half-cycle sums (R7 to R9) -/

/-- The filtered sample z of a sample s (R7, R8 step 1). -/
def AcChannel.filtered (c : AcChannel) (a : Nat) (s : Int) : Int :=
  if a = 0 then s else clampSample (s - (c.d + 32768) / 65536)

/-- The DC estimate after a sample s (R7, R8 steps 2 and 3). -/
def AcChannel.estimate (c : AcChannel) (a : Nat) (s : Int) : Int :=
  if a = 0 then c.d
  else clamp (-2147483648) 2147483647 (c.d + (65536 * s - c.d) / 2 ^ (16 - a))

/-- A used sample of an AC channel, as scaled and before its clamp (R4, R8, R9). -/
def AcChannel.use (c : AcChannel) (a : Nat) (raw : Int) : AcChannel :=
  let s := clampSample raw
  { c with
    d := c.estimate a s, hCur := c.hCur + (c.filtered a s).natAbs ^ 2, clip := c.clip || fullScale raw }

/-! ### A decimated sample (R3, R5, R9, R15) -/

/-- A used sample on all channels: DC removal, half-cycle sums and battery sums (R4, R8, R9, R15). -/
def Sfe.useSample (f : Sfe) (aI aV : Nat) (s : Ch8 Int) : Sfe :=
  { f with
    ac := ⟨f.ac.ia.use aI s.ia, f.ac.ib.use aI s.ib, f.ac.ic.use aI s.ic, f.ac.ig.use aI s.ig,
      f.ac.vs.use aV s.vs, f.ac.vl.use aV s.vl⟩,
    halfCount := f.halfCount + 1, batCount := f.batCount + 1,
    vbSum := f.vbSum + clampSample s.vb, ibatSum := f.ibatSum + clampSample s.ibat }

/-- A decimated sample completed on all channels: the combs advance, and the first three samples after
a start are thrown away (R3, R5). -/
def Sfe.sample (f : Sfe) (aI aV : Nat) : Sfe :=
  let s := f.filters.map fun c => scale c.output
  let g := { f with filters := f.filters.map Cic.comb, bitCount := 0 }
  if f.discard = 0 then g.useSample aI aV s else { g with discard := f.discard - 1 }

/-! ### The half-cycle update (R9 to R13) -/

/-- The rms of a channel over a nominal cycle of `w` samples (R9 steps 1 and 2). -/
def AcChannel.rms (w : Nat) (c : AcChannel) : Nat := isqrt ((c.hPrev + c.hCur) / w)

/-- A channel after the half-cycle update (R9 steps 3 and 4). -/
def AcChannel.closeHalf (c : AcChannel) : AcChannel :=
  { c with hPrev := c.hCur, hCur := 0, clip := false }

/-- The runs of a voltage channel after its class at an update that is not WARMING (R12). -/
def Presence.runs (p : Presence) (vLive vDead rms : Nat) (clip : Bool) : Presence :=
  if clip || vLive ≤ rms then { p with liveRun := min 3 (p.liveRun + 1), deadRun := 0 }
  else if rms < vDead then { p with liveRun := 0, deadRun := min 3 (p.deadRun + 1) }
  else { p with liveRun := 0, deadRun := 0 }

/-- The decision of a voltage channel after its runs (R13). -/
def Presence.decide (p : Presence) (now : Uptime) : Presence :=
  if p.liveRun = 3 ∧ p.state ≠ .live then { p with state := .live, lastChange := now, aged := false }
  else if p.deadRun = 3 ∧ p.state ≠ .dead then
    { p with state := .dead, lastChange := now, aged := false }
  else p

/-- A voltage channel at an update; a WARMING update leaves it as it stands (R11 to R13). -/
def Presence.update (p : Presence) (warming : Bool) (now : Uptime) (vLive vDead rms : Nat)
    (clip : Bool) : Presence :=
  if warming then p else (p.runs vLive vDead rms clip).decide now

/-- The SFE after a half-cycle update: sums moved, clip flags cleared, voltage states decided, and the
record published (R9 to R13). -/
def Sfe.halfCycle (f : Sfe) (w vLive vDead : Nat) (now : Uptime) : Sfe :=
  let warming := decide (f.warming ≠ 0)
  let rms := f.ac.map (AcChannel.rms w)
  let clip := f.ac.map AcChannel.clip
  let vs := f.vs.update warming now vLive vDead rms.vs clip.vs
  let vl := f.vl.update warming now vLive vDead rms.vl clip.vl
  { f with
    ac := f.ac.map AcChannel.closeHalf, halfCount := 0, warming := f.warming - 1, vs, vl,
    latest := some ⟨now, warming, rms, clip, vs.state, vl.state⟩ }

/-! ### The one-second update (R14, R16) -/

/-- The aged mark of a voltage channel at a one-second update (R14). -/
def Presence.mark (p : Presence) (now : Uptime) : Presence :=
  { p with aged := p.aged || ageCap ≤ ageOf now p.lastChange }

/-- The mean of a battery sum, converted by a gain (R16 steps 1 and 2). -/
def converted (sum : Int) (gain : Nat) : Int := (sum / 2400 * gain) / 4096

/-- The means of a one-second update, with its uptime (R16). -/
def Sfe.means (f : Sfe) (vbGain ibGain : Nat) (now : Uptime) : Mean :=
  ⟨converted f.vbSum vbGain, converted f.ibatSum ibGain, now⟩

/-- The SFE after a one-second update (R14, R16 step 4). -/
def Sfe.oneSecond (f : Sfe) (now : Uptime) : Sfe :=
  { f with vs := f.vs.mark now, vl := f.vl.mark now, batCount := 0, vbSum := 0, ibatSum := 0 }

end Sys2Proof.Machine
end

