-- ==== Sys2Proof/Machine/Queue.lean ====
section
/-! DEFINITION. The Transmit Queue and the Link Controller's channel access (chapters 6 and 7).

Joining, overflow, status demands, selection, sensing, sending and the radio power state.  Every
block that asks for a frame calls an operation of this file, and the LNK's search is made inside it
(R114, R124). -/

namespace Sys2Proof.Machine

/-! ### Entries -/

/-- The priority a content takes from the priority map at its join (R123, R194). -/
def Content.priority (map : Nat) : Content → Nat
  | .pickup _ => 0
  | .seqEvent _ => map / 4 % 4
  | .tagNotice _ => map / 16 % 4
  | .result _ => map / 64 % 4
  | .status _ => map / 256 % 4
  | .battery _ => map / 1024 % 4

/-- Whether an entry is a STATUS. -/
def Entry.isStatus (e : Entry) : Bool :=
  match e.content with
  | .status _ => true
  | _ => false

/-- Whether an entry is a BATTERY_REPORT. -/
def Entry.isBattery (e : Entry) : Bool :=
  match e.content with
  | .battery _ => true
  | _ => false

/-- Whether an entry is a PICKUP. -/
def Entry.isPickup (e : Entry) : Bool :=
  match e.content with
  | .pickup _ => true
  | _ => false

/-- The attempt limit of a priority (R116). -/
def attemptLimit (priority : Nat) : Nat := if priority = 0 then 8 else 5

/-- The empty reason set. -/
def Reasons.empty : Reasons := ⟨false, false, false, false, false, false⟩

/-- A reason added to a set. -/
def Reasons.add (r : Reasons) : Reason → Reasons
  | .period => { r with period := true }
  | .start => { r with start := true }
  | .seqEvent => { r with seqEvent := true }
  | .tagChange => { r with tagChange := true }
  | .crew => { r with crew := true }
  | .overflow => { r with overflow := true }

/-- Two reason sets together. -/
def Reasons.union (r q : Reasons) : Reasons :=
  ⟨r.period || q.period, r.start || q.start, r.seqEvent || q.seqEvent, r.tagChange || q.tagChange,
    r.crew || q.crew, r.overflow || q.overflow⟩

/-- The entry of a join order. -/
def Txq.entry (q : Txq) (order : Nat) : Option Entry := q.entries.find? fun e => e.order = order

/-- One entry changed in place. -/
def Txq.change (q : Txq) (order : Nat) (f : Entry → Entry) : Txq :=
  { q with entries := q.entries.map fun e => if e.order = order then f e else e }

/-- One entry taken out. -/
def Txq.remove (q : Txq) (order : Nat) : Txq :=
  { q with entries := q.entries.filter fun e => e.order ≠ order }

/-- An entry put at its place: behind every entry of its priority or a more urgent one (R124). -/
def insertEntry (e : Entry) : List Entry → List Entry
  | [] => [e]
  | x :: xs => if x.priority ≤ e.priority then x :: insertEntry e xs else e :: x :: xs

/-- The later of two entries in the order of overflow: greater priority number, then later join (R125). -/
def lessUrgent (a b : Entry) : Entry :=
  if a.priority < b.priority ∨ (a.priority = b.priority ∧ a.order < b.order) then b else a

/-- The entry that overflow looks at: among those not in flight, the youngest of the numerically
greatest priority (R125). -/
def Txq.victim (q : Txq) : Option Entry :=
  match q.entries.filter fun e => !e.inFlight with
  | [] => none
  | e :: es => some (es.foldl lessUrgent e)

/-! ### Selection (R114) -/

/-- Whether a radio power state selects a priority (chapter 6.4). -/
def RadioPower.selects : RadioPower → Nat → Bool
  | .active, _ => true
  | .duty, _ => true
  | .sparse, p => p ≤ 1
  | .off, _ => false

/-- Whether an entry of a priority is eligible; `own` says whether the station has an own id (R114). -/
def Lnk.eligible (l : Lnk) (own : Bool) (priority : Nat) : Bool :=
  own && l.warmUp.isNone && l.power.selects priority && (l.quiet.isNone || priority ≤ 1)

/-- The access ended without a send: IDLE, no entry selected, the slot timer stopped (R114). -/
def Lnk.released (l : Lnk) : Lnk := { l with access := .idle, selected := none, slot := none }

/-- The search: in IDLE the first eligible entry is selected and enters GAP, of 2 slots or, with the
pacing counter not 0, of 5 (R114, R115). -/
def State.search (s : State) : State :=
  if s.lnk.access = .idle then
    match s.txq.entries.find? fun e => s.lnk.eligible s.stl.image.stationId.isSome e.priority with
    | some e =>
      { s with
        lnk := { s.lnk with
          access := .gap, selected := some e.order,
          slot := some (s.timer (if s.lnk.pacing = 0 then 20 else 50)) } }
    | none => s
  else s

/-- The selected entry. -/
def State.selectedEntry (s : State) : Option Entry :=
  match s.lnk.selected with
  | some o => s.txq.entry o
  | none => none

/-- The selected entry returned to the queue, and the search made again (R114). -/
def State.returnSelected (s : State) : State := { s with lnk := s.lnk.released }.search

/-- An entry leaves the list by the TXQ's own rule: eviction or staleness.  If it was selected, its
access ends; the LNK searches (R114, R128). -/
def State.dropEntry (s : State) (order : Nat) : State :=
  if s.lnk.selected = some order then { s with txq := s.txq.remove order }.returnSelected
  else { s with txq := s.txq.remove order }.search

/-! ### Joining (R122 to R125) -/

/-- What the LNK does at a join: a priority-0 frame displaces a selected entry of priority 2 or 3 in
GAP or BACKOFF (R120); then the search. -/
def State.afterJoin (s : State) (priority : Nat) : State :=
  match s.selectedEntry with
  | some e =>
    if priority = 0 && 2 ≤ e.priority && (s.lnk.access = .gap || s.lnk.access = .backoff) then
      s.returnSelected
    else s.search
  | none => s.search

/-- The entry a content makes when it joins now. -/
def State.newEntry (s : State) (c : Content) : Entry :=
  { content := c, priority := c.priority s.stl.image.priorityMap, order := s.txq.nextOrder,
    joinTime := s.now, attempts := 0, inFlight := false, lifeOver := false }

/-- A content joins the list at its place (R124). -/
def State.join (s : State) (c : Content) : State :=
  { s with
    txq := { s.txq with
      entries := insertEntry (s.newEntry c) s.txq.entries, nextOrder := s.txq.nextOrder + 1 } }.afterJoin
    (c.priority s.stl.image.priorityMap)

/-- The entry that a content of a priority evicts from a full list; none when it is dropped (R125). -/
def Txq.evicts (q : Txq) (priority : Nat) : Option Entry :=
  match q.victim with
  | some v => if priority ≤ v.priority then some v else none
  | none => none

/-- A STATUS joins with one reason.  At an overflow that evicts, the OVERFLOW demand adds its reason to
the entry just joined; a STATUS that is dropped makes no further demand (R125, R126). -/
def State.joinStatus (s : State) (r : Reasons) : State :=
  if s.txq.entries.length < 8 then s.join (.status r)
  else match s.txq.evicts ((Content.status r).priority s.stl.image.priorityMap) with
    | some v => (s.dropEntry v.order).join (.status (r.add .overflow))
    | none => s

/-- A status demand (R126). -/
def State.statusDemand (s : State) (r : Reason) : State :=
  match s.txq.entries.find? Entry.isStatus with
  | none => s.joinStatus (Reasons.empty.add r)
  | some e =>
    if e.inFlight then
      { s with txq := { s.txq with owed := some ((s.txq.owed.getD Reasons.empty).add r) } }
    else
      { s with
        txq := s.txq.change e.order fun x =>
          match x.content with
          | .status q => { x with content := .status (q.add r) }
          | _ => x }

/-- A frame other than a STATUS joins; an overflow evicts or drops, and makes an OVERFLOW demand (R125). -/
def State.joinFrame (s : State) (c : Content) : State :=
  if s.txq.entries.length < 8 then s.join c
  else match s.txq.evicts (c.priority s.stl.image.priorityMap) with
    | some v => ((s.dropEntry v.order).join c).statusDemand .overflow
    | none => s.statusDemand .overflow

/-! ### What the blocks ask for (R129) -/

/-- The SQC asks for a SEQ_EVENT, and the TXQ demands a STATUS after it (R40, R131). -/
def State.askSeqEvent (s : State) (k : EventKind) : State :=
  (s.joinFrame (.seqEvent
    { kind := k, time := s.now, state := s.sqc.state, shot := s.sqc.shot, cause := s.sqc.cause,
      position := s.mdu.position,
      record := if k = .trip then s.sqc.record else none })).statusDemand .seqEvent

/-- The TGT asks for a TAG_NOTICE, and the TXQ demands a STATUS after it (R129, R131, R154). -/
def State.askTagNotice (s : State) : State :=
  (s.joinFrame (.tagNotice
    { panel := s.tgt.hotlineOn, tags := s.rtm.items.tags,
      tagUnknown := s.rtm.items.tagUnknown })).statusDemand .tagChange

/-- A REQUEST_RESULT (R134). -/
def State.askResult (s : State) (crew : Nat) (k : RequestKind) (o : RequestOutcome) : State :=
  s.joinFrame (.result ⟨crew, k, o⟩)

/-- The PEU asks for a PICKUP; the TXQ adds this station's segments (R30, R129). -/
def State.askPickup (s : State) (e : ElementSet) : State :=
  s.joinFrame (.pickup
    { elements := e, shot := s.sqc.shot, quiet := s.stl.image.qQuiet, sUp := s.stl.image.sUp,
      sDn := s.stl.image.sDn })

/-- The content of a BATTERY_REPORT, taken at the asking (R98). -/
def State.batteryContent (s : State) : BatteryContent :=
  { attempt := s.bcu.latestAttempt, last := s.rtm.items.lastResult, health := s.rtm.items.health,
    thresholds := s.stl.image.thresholds, poor := s.poor, soc := s.bcu.soc,
    qUncertain := s.rtm.items.qUncertain, cls := s.bcu.cls, mode := s.bcu.mode,
    days := s.rtm.items.daysSinceTest }

/-- The BCU asks for a BATTERY_REPORT: it joins, replaces a queued one in place, or becomes the pending
report (R127). -/
def State.askBattery (s : State) : State :=
  match s.txq.entries.find? Entry.isBattery with
  | none => s.joinFrame (.battery s.batteryContent)
  | some e =>
    if e.inFlight then { s with txq := { s.txq with pendingReport := some s.batteryContent } }
    else
      { s with txq := s.txq.change e.order fun x => { x with content := .battery s.batteryContent } }

/-! ### The random generator (R117) and the status period (R132) -/

/-- One advance of the random generator (R117). -/
def rngNext (r : Word16) : Word16 :=
  if r.getLsbD 0 then (r >>> 1) ^^^ 0xB400#16 else r >>> 1

/-- The seed of a start (R117). -/
def rngSeed (checksum : Word16) (stationId : Option Nat) : Word16 :=
  let seed := checksum + BitVec.ofNat 16 (4096 * stationId.getD 0)
  if seed = 0 then 1 else seed

/-- The status period in s for a class; none where there is no period (R132). -/
def statusPeriod (cls : Option ReserveClass) (setting : Nat) : Option Nat :=
  match cls with
  | some .normal => some setting
  | some .economy => some (4 * setting)
  | _ => none

/-- The status period timer started with a new draw, in the classes that have a period (R132). -/
def State.startPeriod (s : State) : State :=
  match statusPeriod s.bcu.cls s.stl.image.statusPeriod with
  | some p =>
    { s with
      lnk := { s.lnk with rng := rngNext s.lnk.rng },
      txq := { s.txq with
        period := some (s.timer (1000 * (p + (rngNext s.lnk.rng).toNat % (p / 10 + 1)))) } }
  | none => s

/-! ### Sending (R105, R115, R116, R130) -/

/-- The body of a STATUS composed now with a reason set (R130, R191). -/
def State.statusBody (s : State) (r : Reasons) : List Byte :=
  be1 r.code ++ be1 s.stl.image.role.code ++ be1 s.stl.image.sUp ++ be1 s.stl.image.sDn ++
    be1 (optCode SeqState.code s.sqc.state) ++ be1 s.sqc.shot ++ be1 (optCode Cause.code s.sqc.cause) ++
    be1 (optCode Position.code s.mdu.position) ++
    be1 (s.sfe.vs.state.code + 4 * s.sfe.vl.state.code) ++
    be1 (optCode ReserveClass.code s.bcu.cls) ++ be1 (s.bcu.soc.getD 0) ++
    be1 (bit s.rtm.items.qUncertain 0 + bit s.tgt.hotlineOn 1 + bit s.rtm.items.tagUnknown 2 +
      bit s.sqc.record.isSome 3) ++
    be1 s.bcu.mode.code ++ be1 s.lnk.power.code ++ be1 s.rsl.state.code ++
    be1 (16 * s.rsl.state.qualifier + optCode InhibitReason.code s.rsl.inhibit) ++ be1 s.alarms ++
    be1 (optCode SettingsFault.index s.stl.fault) ++
    be1 (optCode (fun f => f.reason.code) s.stl.fault) ++ be3 s.rtm.items.opCounter ++
    be2 s.stl.tables.checksum.toNat ++ be1 s.lnk.good ++ be1 s.lnk.bad ++
    tagListBytes s.rtm.items.tags ++
    (match s.sqc.record with
     | some t => tripRecordBytes t
     | none => [])

/-- The kind code of a content (R189). -/
def Content.kindCode : Content → Nat
  | .status _ => 0x01
  | .pickup _ => 0x02
  | .seqEvent _ => 0x03
  | .tagNotice _ => 0x04
  | .result _ => 0x05
  | .battery _ => 0x06

/-- The body of an entry's frame: a snapshot's content, or a STATUS composed now (R105). -/
def State.bodyOf (s : State) : Content → List Byte
  | .pickup c => pickupBody c
  | .seqEvent c => seqEventBody c
  | .tagNotice c => tagNoticeBody c
  | .result c => resultBody c
  | .status r => s.statusBody r
  | .battery c => batteryBody c

/-- The frame of an entry, formed as it enters SENDING (R105). -/
def State.frameFor (s : State) (c : Content) : List Byte :=
  frameBytes c.kindCode s.stl.image.groupCode (s.stl.image.stationId.getD 0) (s.bodyOf c)

/-- The whole ms in which a frame of `b` bytes has gone out: b × 1.0417 ms (R103, R116),
rounded up to the tick of the uptime (DESIGN CHOICE, log entry 50). -/
def sendMs (b : Nat) : Nat := ceilDiv (b * 25) 24

/-- A send begins: the entry is marked in flight, its bytes formed, the COLLIDE latch cleared; a
composed STATUS sets the frame counts to 0 (R108, R115, R130). -/
def State.startSend (s : State) (e : Entry) : State :=
  let frame := s.frameFor e.content
  { s with
    txq := s.txq.change e.order fun x => { x with inFlight := true },
    lnk := { s.lnk with
      access := .sending, slot := none, collide := false, outFrame := frame,
      sendTimer := some (s.timer (sendMs frame.length)),
      good := if e.isStatus then 0 else s.lnk.good, bad := if e.isStatus then 0 else s.lnk.bad } }

/-- SENSE: with BUSY active a deferral, otherwise the send (R115).  Without a selected entry there is
nothing to send and the access ends. -/
def State.sense (s : State) : State :=
  let l := { s.lnk with access := .sense, slot := none }
  match s.selectedEntry with
  | some e =>
    if l.busyRead then { s with lnk := { l with pacing := 15 } }
    else { s with lnk := l }.startSend e
  | none => s.returnSelected

/-- The width w of a backoff draw (R118). -/
def backoffWidth (priority attempts : Nat) : Nat :=
  if priority = 0 then min attempts 2 else min (attempts + 2) 6

/-- A backoff drawn and BACKOFF entered (R118). -/
def State.drawBackoff (s : State) (priority attempts : Nat) : State :=
  let r := rngNext s.lnk.rng
  { s with
    lnk := { s.lnk with
      rng := r, access := .backoff,
      slot := some (s.timer (10 * (r.toNat % 2 ^ backoffWidth priority attempts))) } }

/-- A backoff of 0 slots passes to SENSE at the same event (R118). -/
def State.passZeroBackoff (s : State) : State :=
  if s.lnk.access = .backoff && s.lnk.slot.any (fun t => t.ms = 0) then s.sense else s

/-! ### Radio power (R112, R113, R119) -/

/-- The radio power state of a class (chapter 6.4). -/
def radioOf : ReserveClass → RadioPower
  | .normal => .active
  | .economy => .duty
  | .protectOnly => .sparse
  | .cutoff => .off

/-- The listen cycle after the listening of a state begins (R113). -/
def listenCycleOf (now : Uptime) : RadioPower → Option ListenCycle
  | .duty => some ⟨true, now⟩
  | .sparse => some ⟨true, now⟩
  | .active => none
  | .off => none

/-- The selected entry returned when the radio power state does not select its priority; otherwise the
search (R112). -/
def State.returnUnselected (s : State) : State :=
  match s.selectedEntry with
  | some e => if s.lnk.power.selects e.priority then s.search else s.returnSelected
  | none => s.search

/-- A radio power state applied outside SENDING (R112).  The state in force applied again leaves its listen
cycle as it stands (DESIGN CHOICE, log entry 45). -/
def State.applyPower (s : State) (p : RadioPower) : State :=
  if p = .off then
    { s with
      lnk := { s.lnk.released with
        power := .off, warmUp := none, cycle := none, holdLimit := none, reception := none } }
  else if s.lnk.power = .off then
    { s with lnk := { s.lnk with power := p, warmUp := some (s.timer 20) } }
  else if s.lnk.warmUp.isSome || s.lnk.power = p then
    { s with lnk := { s.lnk with power := p } }
  else
    { s with
      lnk := { s.lnk with
        power := p, cycle := listenCycleOf s.now p, holdLimit := none } }.returnUnselected

/-! ### The end of a send (R116, R126 to R128) -/

/-- The in-flight entry after a send that keeps it: a STATUS takes in the reasons owed, a BATTERY_REPORT
the pending report (R126, R127). -/
def Txq.keep (q : Txq) (e : Entry) (attempts : Nat) : Txq :=
  let q := q.change e.order fun x => { x with inFlight := false, attempts := attempts }
  match e.content with
  | .status r =>
    { q.change e.order fun x => { x with content := .status (r.union (q.owed.getD Reasons.empty)) } with
      owed := none }
  | .battery c =>
    { q.change e.order fun x => { x with content := .battery (q.pendingReport.getD c) } with
      pendingReport := none }
  | _ => q

/-- The in-flight entry leaves; the reasons owed or the pending report join as a new entry (R126, R127).
A send leaves at most 7 entries, so the new entry finds room. -/
def State.leave (s : State) (e : Entry) : State :=
  let s := { s with txq := s.txq.remove e.order }
  match e.content with
  | .status _ =>
    (match s.txq.owed with
     | some r => { s with txq := { s.txq with owed := none } }.join (.status r)
     | none => s)
  | .battery _ =>
    (match s.txq.pendingReport with
     | some c => { s with txq := { s.txq with pendingReport := none } }.join (.battery c)
     | none => s)
  | _ => s

/-- The pending radio power state applied at the end of a send (R116, R119). -/
def State.applyPending (s : State) : State :=
  match s.lnk.pendingPower with
  | some p => { s with lnk := { s.lnk with pendingPower := none } }.applyPower p
  | none => s

/-- The end of the access after a send: IDLE, the pending power state, the search (R116). -/
def State.endAccess (s : State) : State :=
  { s with lnk := s.lnk.released }.applyPending.search

/-- Whether an entry of priority 0 waits in the list (R120). -/
def State.urgentWaits (s : State) : Bool := s.txq.entries.any fun e => e.priority = 0

/-- The entry stays after a collision: stale if its life is over (R128), returned while the quiet timer
runs or a priority-0 frame waits (R116, R120), otherwise in BACKOFF.  A pending radio power state is
applied before a backoff of 0 slots passes to SENSE (DESIGN CHOICE, log entry 46). -/
def State.afterCollision (s : State) (e : Entry) (attempts : Nat) : State :=
  let s := { s with txq := s.txq.keep e attempts }
  if s.lnk.quiet.isSome && 2 ≤ e.priority then s.endAccess
  else
    let s := s.drawBackoff e.priority attempts
    if e.lifeOver then { s with txq := s.txq.remove e.order }.endAccess
    else if 2 ≤ e.priority && s.urgentWaits then s.endAccess
    else s.applyPending.search.passZeroBackoff

/-- A clean send: the entry leaves, the pacing counter falls, and a STATUS restarts the status period
timer (R116, R128, R132). -/
def State.cleanEnd (s : State) (e : Entry) : State :=
  let s := { s with lnk := { s.lnk with pacing := s.lnk.pacing - 1 } }
  let s := if e.isStatus then s.startPeriod else s
  (s.leave e).endAccess

/-- A collided send: the attempt count rises, and the entry is abandoned at its limit (R116). -/
def State.collidedEnd (s : State) (e : Entry) : State :=
  let s := { s with lnk := { s.lnk with pacing := 15 } }
  if attemptLimit e.priority ≤ e.attempts + 1 then (s.leave e).endAccess
  else s.afterCollision e (e.attempts + 1)

/-- The end of a send (R116). -/
def State.endSend (s : State) : State :=
  let t := { s with lnk := { s.lnk with sendTimer := none, outFrame := [] } }
  match s.selectedEntry with
  | some e => if s.lnk.collide then t.collidedEnd e else t.cleanEnd e
  | none => t.endAccess

/-- A send cut by a change to OFF: the entry is returned with its attempt count as it stands (R119,
R126 to R128). -/
def State.cutSend (s : State) : State :=
  let t := { s with lnk := { s.lnk with sendTimer := none, outFrame := [], pendingPower := none } }
  match s.selectedEntry with
  | some e =>
    if e.lifeOver then { t with txq := t.txq.remove e.order }.applyPower .off
    else { t with txq := t.txq.keep e e.attempts }.applyPower .off
  | none => t.applyPower .off

/-- A change of class as the LNK takes it (R112, R119). -/
def State.takePower (s : State) (p : RadioPower) : State :=
  if s.lnk.access = .sending then
    if p = .off then s.cutSend else { s with lnk := { s.lnk with pendingPower := some p } }
  else s.applyPower p

/-! ### Receptions (R107, R113) -/

/-- The reception in progress ends now and goes to the receive filter; a hold kept for it ends with it. -/
def State.endReception (s : State) : State :=
  match s.lnk.reception with
  | some r =>
    { s with
      lnk := { s.lnk with reception := none, holdLimit := none },
      transit := { s.transit with
        receptions := s.transit.receptions ++ [⟨r.bytes, r.count, s.now⟩] } }
  | none => s

/-- The listen enable going off cuts a reception in progress (R107). -/
def State.listenReview (s : State) : State :=
  if s.lnk.listenEnable then s else s.endReception

/-- The quiet timer started, at the frame's arrival time, by a peer's PICKUP whose quiet time is larger
than the remaining time; a selected entry of priority 2 or 3 in GAP, SENSE or BACKOFF is returned
(R107, R121). -/
def State.startQuiet (s : State) (arrival : Uptime) (ms : Nat) : State :=
  if remaining arrival s.lnk.quiet < ms then
    let t := { s with lnk := { s.lnk with quiet := some ⟨arrival, ms⟩ } }
    match t.selectedEntry with
    | some e => if 2 ≤ e.priority && t.lnk.access.listens then t.returnSelected else t
    | none => t
  else s

end Sys2Proof.Machine
end

