-- ==== Sys2Proof/Machine/Mechanism.lean ====
section
/-! DEFINITION. The Mechanism Drive Unit (chapter 4): position, the trip and close operations, operating
times, counters and wear, and the two energy stores with their one charger. -/

namespace Sys2Proof.Machine

/-! ### Position (R63 to R65) -/

/-- The position that two debounced contact levels give (R63). -/
def positionFrom (openC closedC : Bool) : Position :=
  if openC && !closedC then .opened else if closedC && !openC then .closed else .unknown

/-- The last position that was not UNKNOWN, after a decision or a change (R62). -/
def endAfter (last : Option EndPosition) : Position → Option EndPosition
  | .opened => some .opened
  | .closed => some .closed
  | .unknown => last

/-- A changed position published: the last end is kept, OPEN or CLOSED stops the position-fault timer, and
the new stay has had no position fault (R64). -/
def Mdu.publish (m : Mdu) (p : Position) : Mdu :=
  { m with
    position := some p, lastEnd := endAfter m.lastEnd p,
    faultTimer := if p = .unknown then m.faultTimer else none,
    faultReported := false }

/-! ### Operations (R67 to R71) -/

/-- Attempt `a` enters DRIVE: the trip coil goes on and the 60 ms pulse limit starts (R67). -/
def Mdu.drive (m : Mdu) (now : Uptime) (a : Attempt) : Mdu :=
  { m with op := .trip .drive a, opTimer := some ⟨now, 60⟩, driveStart := some now }

/-- Attempt `a` of a trip operation begins: DRIVE with the trip store READY, otherwise STORE_WAIT with
the 2 s store wait started (R67, R68). -/
def Mdu.attempt (m : Mdu) (now : Uptime) (a : Attempt) : Mdu :=
  if m.trip.isReady then m.drive now a
  else { m with op := .trip .storeWait a, opTimer := some ⟨now, 2000⟩ }

/-- No operation in flight; the position-fault timer starts when it ends with the position UNKNOWN (R64). -/
def Mdu.endOp (m : Mdu) (now : Uptime) : Mdu :=
  { m with
    op := .idle, opTimer := none, opCause := none, wear := none, driveStart := none,
    faultTimer := if m.position = some .unknown then some ⟨now, 20⟩ else none }

/-- Whether a trip operation is in flight. -/
def Mdu.tripping (m : Mdu) : Bool :=
  match m.op with
  | .trip _ _ => true
  | _ => false

/-- A trip request of the SQC: absorbed by a trip operation in flight, otherwise attempt 1 begins, and a
close operation in flight is abandoned (R67, R71). -/
def Mdu.askTrip (m : Mdu) (now : Uptime) (cause : OpCause) (wear : Option Nat) : Mdu :=
  if m.tripping then m
  else
    { m with opCause := some cause, wear := wear, driveStart := none, faultTimer := none }.attempt
      now .first

/-- A close request of the SQC: taken with no operation in flight and the close store READY, otherwise
answered by CLOSE_FAIL (R69, R70). -/
def State.askClose (s : State) : State :=
  if s.mdu.op = .idle && s.mdu.close.isReady then
    { s with
      mdu := { s.mdu with
        op := .close, opTimer := some (s.timer 100), driveStart := some s.now, faultTimer := none } }
  else s.report .closeFail

/-- Whether the operation in flight has entered attempt 2 (R72). -/
def Operation.second : Operation → Bool
  | .trip _ .second => true
  | _ => false

/-- The latched alarm MECH_SLOW after the end of an operation that captured a time (R72). -/
def Mdu.slow (m : Mdu) (time limit : Nat) : Bool :=
  m.mechSlow || (limit ≠ 0 && limit < time) || m.op.second

/-- The operating time of the operation in flight at a reading: from its latest coil drive, or 0 when no
coil has been driven (R68, R69, R72). -/
def Mdu.operating (m : Mdu) (now : Uptime) : Nat := (m.driveStart.map (ageOf now)).getD 0

/-- The operation counter after one more open (R73). -/
def countOpen (n : Nat) : Nat := min 999999 (n + 1)

/-- The wear total after a rise (R73). -/
def addWear (total wear : Nat) : Nat := min 4294967295 (total + wear)

/-- The retained counters after an open; `wear` is present for a protection trip (R73). -/
def Retained.countOpen (r : Retained) (wear : Option Nat) (limit : Nat) : Retained :=
  match wear with
  | some w =>
    { r with
      opCounter := Machine.countOpen r.opCounter, wearTotal := addWear r.wearTotal w,
      mechWear := r.mechWear || (limit ≠ 0 && limit ≤ addWear r.wearTotal w) }
  | none => { r with opCounter := Machine.countOpen r.opCounter }

/-- The trip operation in flight ends OPEN: the position, the counters, MECH_SLOW, and the confirmation
with the operating time (R68, R69, R72, R73). -/
def State.confirmOpen (s : State) : State :=
  let time := s.mdu.operating s.now
  let m := { s.mdu with mechSlow := s.mdu.slow time s.stl.image.tSlow }
  ({ s with mdu := (m.publish .opened).endOp s.now }.retain
    (·.countOpen s.mdu.wear s.stl.image.wearLimit)).report (.openConfirmation time)

/-- The close operation in flight ends CLOSED (R70, R72). -/
def State.confirmClosed (s : State) : State :=
  let m := { s.mdu with mechSlow := s.mdu.slow (s.mdu.operating s.now) s.stl.image.tSlowClose }
  { s with mdu := (m.publish .closed).endOp s.now }.report .closeConfirmation

/-- The trip operation in flight ends in TRIP_FAIL (R68); an operation that entered attempt 2 sets
MECH_SLOW at its end (R72; DEDUCED, log entry 20). -/
def State.failTrip (s : State) : State :=
  { s with mdu := { s.mdu with mechSlow := s.mdu.slow 0 0 }.endOp s.now }.report .tripFail

/-- The expiry of the pulse limit in DRIVE: attempt 2 after attempt 1, TRIP_FAIL after attempt 2 (R68). -/
def State.pulseEnd (s : State) : State :=
  match s.mdu.op with
  | .trip .drive .first => { s with mdu := s.mdu.attempt s.now .second }
  | .trip .drive .second => s.failTrip
  | _ => s

/-- The expiry of the store wait (R67, R68). -/
def State.storeWaitEnd (s : State) : State :=
  match s.mdu.op with
  | .trip .storeWait _ => s.failTrip
  | _ => s

/-- OPEN seen in DRIVE (R68). -/
def State.openSeen (s : State) : State :=
  match s.mdu.op with
  | .trip .drive _ => s.confirmOpen
  | _ => s

/-- CLOSED seen in a close operation (R70). -/
def State.closedSeen (s : State) : State := if s.mdu.op = .close then s.confirmClosed else s

/-- The expiry of the close pulse limit (R70). -/
def State.closePulseEnd (s : State) : State :=
  if s.mdu.op = .close then { s with mdu := s.mdu.endOp s.now }.report .closeFail else s

/-- A change of position outside an operation: the fault timer, and the report of a change not asked for
(R64, R65, R73).  A far end reached after the position-fault timer has expired is reported, and an open counted, as
one reached before it (DEDUCED, log entry 51). -/
def State.moved (s : State) (p : Position) : State :=
  let t := { s with mdu := s.mdu.publish p }
  match p, s.mdu.lastEnd with
  | .unknown, _ => { t with mdu := { t.mdu with faultTimer := some (s.timer 20) } }
  | .opened, some .closed =>
    (t.retain (·.countOpen none s.stl.image.wearLimit)).report (.unsolicitedOpen s.mdu.handleDown)
  | .closed, some .opened => t.report .unsolicitedClose
  | _, _ => t

/-- New debounced contact levels after the first decision (R63 to R65, R69).  Before it they make no
position: the first position does.  A debounced end position reached in DRIVE or in a close
operation is that end seen (DEDUCED, log entry 21). -/
def State.contacts (s : State) (openC closedC : Bool) : State :=
  let p := positionFrom openC closedC
  let t := { s with mdu := { s.mdu with openC := some openC, closedC := some closedC } }
  if s.mdu.position.isNone then s
  else if s.mdu.position = some p then t
  else match s.mdu.op with
    | .idle => t.moved p
    | .trip _ _ =>
      if p = .opened then t.confirmOpen else { t with mdu := t.mdu.publish p }
    | .close => if p = .closed then t.confirmClosed else { t with mdu := t.mdu.publish p }

/-! ### The energy stores (R74 to R77) -/

/-- The charge limit of a store in ms (R77). -/
def chargeLimit : StoreId → Nat
  | .trip => 20000
  | .close => 60000

/-- A store READY: enable off, both timers stopped (R74). -/
def Store.makeReady (t : Store) : Store :=
  { t with state := .ready, enable := false, limit := none, retry := none }

/-- A new debounced level of a store's ready input (R74). -/
def Store.readInput (t : Store) (active : Bool) : Store :=
  let u := { t with ready := some active }
  if active then u.makeReady
  else if t.state = .ready then { u with state := .empty }
  else u

/-- Whether a store takes the charger when it is offered: its input read, and EMPTY, CHARGING, or in
FAULT with a retry charge due or running (R75, R77). -/
def Store.wants (t : Store) : Bool :=
  t.ready.isSome &&
    (match t.state with
     | .empty => true
     | .charging => true
     | .ready => false
     | .fault => t.retry.isNone)

/-- The charger given to a store: a charge or a retry charge begins, unless it runs already (R74, R77). -/
def Store.assign (t : Store) (now : Uptime) (limit : Nat) : Store :=
  if t.enable then t
  else
    { t with
      state := if t.state = .empty then .charging else t.state, enable := true,
      limit := some ⟨now, limit⟩ }

/-- The charger withdrawn from a store: a charge ends EMPTY, a retry charge in rest (R74, R77). -/
def Store.withdraw (t : Store) (now : Uptime) : Store :=
  if !t.enable then t
  else if t.state = .fault then
    { t with enable := false, limit := none, retry := some ⟨now, 60000⟩ }
  else { t with state := .empty, enable := false, limit := none }

/-- The expiry of a charge limit: FAULT, or rest after a retry charge (R77). -/
def Store.overLimit (t : Store) (now : Uptime) : Store :=
  { t with state := .fault, enable := false, limit := none, retry := some ⟨now, 60000⟩ }

/-- The charger assigned anew: to the trip store first, then to the close store where the trip store is
READY and the policy allows it (R75, R76). -/
def Mdu.assignCharger (m : Mdu) (now : Uptime) (allowed : Bool) : Mdu :=
  { m with
    trip := if m.trip.wants then m.trip.assign now (chargeLimit .trip) else m.trip,
    close :=
      if !m.trip.wants && m.trip.isReady && m.close.wants && allowed then
        m.close.assign now (chargeLimit .close)
      else m.close.withdraw now }

/-- The assignment made at an event that changes a store, the class or the close demand (R75, R76). -/
def State.chargerReview (s : State) : State :=
  { s with mdu := s.mdu.assignCharger s.now (closeChargingAllowed s.bcu.cls s.closeDemand) }

/-- One store changed. -/
def Mdu.withStore (m : Mdu) (id : StoreId) (f : Store → Store) : Mdu :=
  match id with
  | .trip => { m with trip := f m.trip }
  | .close => { m with close := f m.close }

/-- A trip operation that waits for its store enters DRIVE once the store is READY (R67, R68). -/
def Mdu.driveWhenReady (m : Mdu) (now : Uptime) : Mdu :=
  match m.op with
  | .trip .storeWait a => if m.trip.isReady then m.drive now a else m
  | _ => m

end Sys2Proof.Machine
end

