-- ==== Sys2Proof/Machine/Sequence.lean ====
section
/-! DEFINITION. The Sequence Controller (chapter 3): trips, closes, the dead states, lockout and STUCK. -/

namespace Sys2Proof.Machine

/-! ### Changes of state (R20, R39, R53) -/

/-- Whether the PEU keeps its element state in a sequence state (R20). -/
def SeqState.keepsElements : SeqState → Bool
  | .closed => true
  | .reclaim => true
  | .closing => true
  | .tripping => true
  | .dead => false
  | .energyWait => false
  | .lockout => false
  | .stuck => false

/-- The sequence state handed to the PEU, which clears its element state outside the states that keep
it (R20, R39). -/
def State.handState (s : State) : State :=
  if s.sqc.state.any SeqState.keepsElements then s else { s with peu := Peu.start }

/-- The SQC enters a state with its cause; leaving LOCKOUT stops the close-demand timer (R20, R53). -/
def State.enter (s : State) (st : SeqState) (c : Option Cause) : State :=
  { s with
    sqc := { s.sqc with
      state := some st, cause := c,
      demandTimer := if st = SeqState.lockout then s.sqc.demandTimer else none } }.handState

/-- The dead, energy-wait and reclaim timers stopped. -/
def Sqc.stopTimers (q : Sqc) : Sqc := { q with deadTimer := none, ewaitTimer := none, reclaimTimer := none }

/-- An entry to LOCKOUT with a cause: the running timers stop and the SEQ_EVENT is asked for (R40). -/
def State.toLockout (s : State) (c : Cause) : State :=
  ({ s with sqc := { s.sqc.stopTimers with closeSource := none } }.enter .lockout
    (some c)).askSeqEvent .lockout

/-- An entry to RECLAIM with a shot, its timer started (R46, R47, R57). -/
def State.reclaim (s : State) (shot : Nat) : State :=
  { s with
    sqc := { s.sqc.stopTimers with
      shot := shot, reclaimTimer := some (s.timer (1000 * s.stl.image.tReclaim)),
      closeSource := none } }.enter .reclaim none

/-- An entry to STUCK (R58): every timer stopped, the close source and the operation cause removed. -/
def State.enterStuck (s : State) (c : Cause) : State :=
  { s with sqc := { s.sqc.stopTimers with closeSource := none, opCause := none } }.enter .stuck (some c)

/-- Whether the SQC is in DEAD or ENERGY_WAIT. -/
def Sqc.waiting (q : Sqc) : Bool := q.state = some .dead || q.state = some .energyWait

/-! ### Trips (R41, R42, R51, R54, R58) -/

/-- The four current rms of the latest update record; each a free value where the SFE has published none
(R42, log entry 4). -/
def State.latestRms (s : State) : Ch4 Nat × State :=
  match s.sfe.latest with
  | some r => (r.rms.currents, s)
  | none =>
    (⟨freeRms s.free, freeRms (s.free + 1), freeRms (s.free + 2), freeRms (s.free + 3)⟩,
      { s with free := s.free + 4 })

/-- The largest of the three phase currents: the wear value of a protection trip (R67). -/
def wearValue (rms : Ch4 Nat) : Nat := max rms.ia (max rms.ib rms.ic)

/-- A trip operation asked of the MDU: the record formed, the operation cause taken (R42, R67). -/
def State.askTrip (s : State) (cause : OpCause) (elements : ElementSet) (rms : Ch4 Nat) : State :=
  { s with
    sqc := { s.sqc with
      opCause := some cause, record := some ⟨s.sqc.shot, cause, elements, rms, s.now, none⟩ },
    mdu := s.mdu.askTrip s.now cause (if cause = .protection then some (wearValue rms) else none) }

/-- A trip taken in CLOSED, RECLAIM or CLOSING: the reclaim timer stopped, the close source removed,
TRIPPING entered (R41, R51, R54). -/
def State.trip (s : State) (cause : OpCause) (elements : ElementSet) (rms : Ch4 Nat) : State :=
  { s with
    sqc := { s.sqc.stopTimers with closeSource := none } }.enter .tripping none |>.askTrip
      cause elements rms

/-- No elements: the tripped elements of a trip that no element asked for (R42). -/
def ElementSet.none : ElementSet := ⟨Ch4.all false, Ch4.all false⟩

/-- A trip of a cause other than PROTECTION: the rms are the SFE's latest (R42). -/
def State.tripUnasked (s : State) (cause : OpCause) : State :=
  s.latestRms.2.trip cause .none s.latestRms.1

/-- A further trip asked for in STUCK (R58). -/
def State.stuckTrip (s : State) (cause : OpCause) : State :=
  let t := s.latestRms.2
  { t with sqc := { t.sqc with stuckAttempt := true } }.askTrip cause .none s.latestRms.1

/-- The shot after a protection trip is taken: one more, and never past L, which the shot in CLOSING can be (log
entry 53) (R38, R41; DEDUCED, log entry 22). -/
def shotAfterTrip (shot l : Nat) : Nat := min l (shot + 1)

/-- A trip request of the PEU reaches the SQC (R41). -/
def State.takeTripRequest (s : State) (r : TripRequest) : State :=
  match s.sqc.state with
  | some .closed | some .reclaim | some .closing =>
    { s with sqc := { s.sqc with shot := shotAfterTrip s.sqc.shot s.stl.image.l } }.trip .protection
      r.elements r.rms
  | some .tripping => s
  | some .dead | some .energyWait | some .lockout | some .stuck => s.handState
  | none => s

/-- A manual trip, with the outcome a crew request of it gets (R51, R58). -/
def State.manualTrip (s : State) (cause : OpCause) : State × RequestOutcome :=
  match s.sqc.state with
  | some .closed | some .reclaim | some .closing => (s.tripUnasked cause, .accepted)
  | some .dead | some .energyWait => (s.toLockout cause.cause, .accepted)
  | some .tripping | some .lockout | none => (s, .refusedState)
  | some .stuck =>
    if s.sqc.stuckAttempt || s.mdu.position = some .opened then (s, .refusedState)
    else (s.stuckTrip cause, .accepted)

/-- RESTORE_OPEN of the RSL, with its outcome (R54). -/
def State.restoreOpen (s : State) : State × RequestOutcome :=
  if s.sqc.state = some .closed then (s.tripUnasked .restoreOpen, .accepted) else (s, .refusedState)

/-! ### The reports of a trip operation (R43, R58) -/

/-- The dead time in ms after trip `n` (R43). -/
def deadTime (c : Settings) : Nat → Nat
  | 0 => 10 * c.dt1
  | 1 => 10 * c.dt1
  | 2 => 10 * c.dt2
  | _ => 10 * c.dt3

/-- An entry to DEAD with the dead time of the shot (R43). -/
def State.enterDead (s : State) : State :=
  { s with
    sqc := { s.sqc with deadTimer := some (s.timer (deadTime s.stl.image s.sqc.shot)) } }.enter .dead none

/-- The trip record with its operating time (R42). -/
def Sqc.confirmed (q : Sqc) (time : Nat) : Sqc :=
  { q with record := q.record.map fun r => { r with operating := some time }, opCause := none }

/-- The SEQ_EVENT of a trip and then that of the state it ends in (R43). -/
def State.askTripEvents (s : State) (k : EventKind) : State := (s.askSeqEvent .trip).askSeqEvent k

/-- The open confirmation (R43, R58). -/
def State.takeOpen (s : State) (time : Nat) : State :=
  let t := { s with sqc := s.sqc.confirmed time }
  match s.sqc.state with
  | some .tripping =>
    (match s.sqc.opCause with
     | some .protection =>
       if s.sqc.shot < s.effectiveL then t.enterDead.askTripEvents .deadTime
       else (t.enter .lockout (some .protection)).askTripEvents .lockout
     | some c => (t.enter .lockout (some c.cause)).askTripEvents .lockout
     | none => s)
  | some .stuck => { t with sqc := { t.sqc with stuckAttempt := false } }.askSeqEvent .trip
  | _ => s

/-- A TRIP_FAIL (R58). -/
def State.takeTripFail (s : State) : State :=
  match s.sqc.state with
  | some .tripping => (s.enterStuck .tripFail).askSeqEvent .stuck
  | some .stuck =>
    { s with
      sqc := { s.sqc with stuckAttempt := false, opCause := none, cause := some .tripFail } }.askSeqEvent
        .stuck
  | _ => s

/-- A position fault (R58); before the start state is taken it gives STUCK with no SEQ_EVENT (R61). -/
def State.takePositionFault (s : State) : State :=
  match s.sqc.state with
  | some .stuck => { s with sqc := { s.sqc with cause := some .position } }
  | some _ => (s.enterStuck .position).askSeqEvent .stuck
  | none => s.enterStuck .position

/-! ### Closes (R44 to R46, R48, R52 to R54) -/

/-- A close begun: CLOSING with its source, and the MDU asked (R44, R45, R52, R54).  The shot stands until the
confirmation, as the table of R38, R46 and R52 have it, so that a manual, crew or restoration close taken in a
LOCKOUT whose shot is L keeps it at L in CLOSING, where R38 also says at most L - 1 (DESIGN CHOICE, log entry
53). -/
def State.beginClose (s : State) (src : CloseSource) : State :=
  ({ s with sqc := { s.sqc.stopTimers with closeSource := some src } }.enter .closing none).askClose

/-- The first of tests 1 to 4 of R52 that fails, as a crew outcome. -/
def State.closeBar (s : State) : Option RequestOutcome :=
  if s.sqc.state ≠ some .lockout then some .refusedState
  else if s.tagHold then some .refusedTagged
  else if s.mdu.handleDown then some .refusedState
  else if s.bcu.cls = some .cutoff then some .refusedEnergy
  else none

/-- A manual close, with the outcome a crew request of it gets; a failure for the store alone starts the
close-demand timer (R52, R53). -/
def State.manualClose (s : State) (src : CloseSource) : State × RequestOutcome :=
  match s.closeBar with
  | some o => (s, o)
  | none =>
    if s.mdu.close.isReady then (s.beginClose src, .accepted)
    else ({ s with sqc := { s.sqc with demandTimer := some (s.timer 60000) } }, .refusedEnergy)

/-- RESTORE_CLOSE of the RSL, with its outcome; a failure for the store starts no timer here (R54). -/
def State.restoreClose (s : State) : State × RequestOutcome :=
  match s.closeBar with
  | some o => (s, o)
  | none => if s.mdu.close.isReady then (s.beginClose .restore, .accepted) else (s, .refusedEnergy)

/-- The cause of the first condition that shuts the gate at the dead-timer expiry (R44). -/
def State.gateCause (s : State) : Cause :=
  if s.tagHold then .tag else if s.mdu.handleDown then .handle else .energy

/-- The expiry of the dead timer (R44). -/
def State.deadOver (s : State) : State :=
  let t := { s with sqc := { s.sqc with deadTimer := none } }
  if !t.gateOpen then t.toLockout t.gateCause
  else if t.mdu.close.isReady then t.beginClose .auto
  else if t.stl.image.tEwait = 0 then t.toLockout .energy
  else
    { t with
      sqc := { t.sqc with ewaitTimer := some (t.timer (1000 * t.stl.image.tEwait)) } }.enter
        .energyWait none

/-- The close store becomes READY: in ENERGY_WAIT the automatic close begins, the gate open (R45, R48). -/
def State.closeStoreReady (s : State) : State :=
  if s.sqc.state = some .energyWait && s.gateOpen then s.beginClose .auto else s

/-- The shot after a close of a source (R46). -/
def shotAfterClose (shot l : Nat) : CloseSource → Nat
  | .auto => shot
  | .manual => l - 1
  | .crew => l - 1
  | .restore => l - 1

/-- The SEQ_EVENT of a close of a source (R46). -/
def closeKind : CloseSource → EventKind
  | .auto => .reclose
  | .manual => .manualClose
  | .crew => .manualClose
  | .restore => .restoreClose

/-- The close confirmation in CLOSING; elsewhere it is of an abandoned close (R41, R46). -/
def State.takeClosed (s : State) : State :=
  match s.sqc.state, s.sqc.closeSource with
  | some .closing, some src =>
    (s.reclaim (shotAfterClose s.sqc.shot s.stl.image.l src)).askSeqEvent (closeKind src)
  | _, _ => s

/-- A CLOSE_FAIL in CLOSING; elsewhere it is of an abandoned close (R41, R46). -/
def State.takeCloseFail (s : State) : State :=
  if s.sqc.state = some .closing then s.toLockout .closeFail else s

/-! ### Timers and sequence steps (R45, R47, R53) -/

/-- The expiry of the energy-wait timer (R45). -/
def State.ewaitOver (s : State) : State := s.toLockout .energy

/-- The expiry of the reclaim timer (R47). -/
def State.reclaimOver (s : State) : State :=
  { s with sqc := { s.sqc with shot := 0, reclaimTimer := none } }.enter .closed none

/-- The expiry of the close-demand timer (R53). -/
def State.demandOver (s : State) : State := { s with sqc := { s.sqc with demandTimer := none } }

/-- A sequence step of the PEU (R47). -/
def State.takeStep (s : State) : State :=
  if (s.sqc.state = some .closed || s.sqc.state = some .reclaim) && s.sqc.shot + 1 < s.effectiveL then
    s.reclaim (s.sqc.shot + 1)
  else s

/-! ### Position changes not asked for (R56, R57) -/

/-- An unsolicited open (R56).  One already on its way that finds a state R56 gives no effect for is dropped
(DESIGN CHOICE, log entry 42). -/
def State.takeUnsolicitedOpen (s : State) (handleDown : Bool) : State :=
  if s.sqc.state = some .closed || s.sqc.state = some .reclaim then
    s.toLockout (if handleDown then .handle else .externalOpen)
  else s

/-- An unsolicited close (R57).  One already on its way that finds a state R57 gives no effect for is
dropped (DESIGN CHOICE, log entry 43). -/
def State.takeUnsolicitedClose (s : State) : State :=
  if s.sqc.waiting || s.sqc.state = some .lockout then
    (s.reclaim (s.stl.image.l - 1)).askSeqEvent .externalClose
  else s

/-! ### Changes that act on the dead states (R49, R50) -/

/-- A change that locks out the dead states: the tag hold, HANDLE or NONRECLOSE (R49, R50). -/
def State.lockDead (s : State) (c : Cause) : State := if s.sqc.waiting then s.toLockout c else s

/-- The reserve class becomes CUTOFF: the close-demand timer stops, and ENERGY_WAIT locks out (R45, R50,
R53). -/
def State.classCutoff (s : State) : State :=
  let t := s.demandOver
  if s.sqc.state = some .energyWait then t.toLockout .energy else t

/-! ### The start state (R61) -/

/-- The start state taken from the first position (R61). -/
def State.startState (s : State) (p : Position) : State :=
  match p with
  | .closed => s.enter .closed none
  | .opened => s.enter .lockout (some (if s.stl.image.role = .tie then .tieOpen else .restart))
  | .unknown => s.enterStuck .position

end Sys2Proof.Machine
end

