-- ==== Sys2Proof/Machine/Battery.lean ====
section
/-! DEFINITION. The Battery Care Unit (chapter 5): the charger, the coulomb counter, the reserve class,
the load test and the health attributes. -/

namespace Sys2Proof.Machine

/-! ### Health attributes (R99 to R101) -/

/-- The value of RESISTANCE (R99). -/
def resistanceValue (rRef raw : Nat) : Nat :=
  if raw ≤ rRef then 200 else max 1 (200 - 100 * (raw - rRef) / rRef)

/-- The value of TEST_FAILS (R99). -/
def testFailsValue (raw : Nat) : Nat := max 1 (200 - 60 * raw)

/-- The value of DEEP_DISCHARGE (R99). -/
def deepDischargeValue (raw : Nat) : Nat := max 1 (200 - 20 * raw)

/-- The value of ABSORB_LIMIT (R99). -/
def absorbLimitValue (raw : Nat) : Nat := max 1 (200 - 25 * raw)

/-- An attribute whose raw has changed: its value anew, the worst the lower of the two (R100). -/
def Attribute.renew (a : Attribute) (raw value : Nat) : Attribute := ⟨raw, value, min a.worst value⟩

/-- DEEP_DISCHARGE after one more entry to CUTOFF (R89, R99). -/
def addDeepDischarge (h : Health Attribute) : Health Attribute :=
  let raw := min 65535 (h.deepDischarge.raw + 1)
  { h with deepDischarge := h.deepDischarge.renew raw (deepDischargeValue raw) }

/-- ABSORB_LIMIT after one more limit end of ABSORB (R83, R99). -/
def addAbsorbLimit (h : Health Attribute) : Health Attribute :=
  let raw := min 65535 (h.absorbLimit.raw + 1)
  { h with absorbLimit := h.absorbLimit.renew raw (absorbLimitValue raw) }

/-- The attributes after a test result: RESISTANCE takes R where there is one, TEST_FAILS counts (R99). -/
def afterResult (rRef : Nat) (t : TestResult) (h : Health Attribute) : Health Attribute :=
  let fails := if t.outcome = .pass then 0 else min 255 (h.testFails.raw + 1)
  { h with
    resistance := match t.r with
      | some r => h.resistance.renew r (resistanceValue rRef r)
      | none => h.resistance
    testFails := h.testFails.renew fails (testFailsValue fails) }

/-- Attributes changed and written; BATTERY_POOR changing from clear to set asks for a BATTERY_REPORT
(R100, R101). -/
def State.changeHealth (s : State) (f : Health Attribute → Health Attribute) : State :=
  let t := s.retain fun r => { r with health := f r.health }
  if !s.poor && t.poor then t.askBattery else t

/-! ### The charger (R82 to R84) -/

/-- The duty D after the step of a mode (R82). -/
def dutyStep (c : Settings) (mode : ChargerMode) (mV mA : Int) (d : Nat) : Nat :=
  match mode with
  | .off => 0
  | .test => 0
  | .bulk =>
    if mA < c.iBulk ∧ mV < c.vAbs then min 255 (d + 1) else if mA > c.iBulk + 200 then d - 1 else d
  | .absorb =>
    if mV < (c.vAbs : Int) - 50 then min 255 (d + 1) else if mV > c.vAbs then d - 1 else d
  | .float =>
    if mV < (c.vFloat : Int) - 50 then min 255 (d + 1) else if mV > c.vFloat then d - 1 else d

/-- A charger mode entered: the counts of the mode left are cleared, and OFF and TEST set D to 0 (R83). -/
def Bcu.enterMode (b : Bcu) (m : ChargerMode) : Bcu :=
  { b with
    mode := m, duty := if m = .off || m = .test then 0 else b.duty, absorbSeconds := 0, tailRun := 0,
    floatSeconds := 0, lowFloatRun := 0 }

/-- The counts of a mode after an update (R83). -/
def Bcu.count (b : Bcu) (c : Settings) (mV mA : Int) : Bcu :=
  match b.mode with
  | .absorb =>
    { b with
      absorbSeconds := min 14400 (b.absorbSeconds + 1),
      tailRun := if mA < c.iTail then min 60 (b.tailRun + 1) else 0 }
  | .float =>
    { b with
      floatSeconds := min 65535 (b.floatSeconds + 1),
      lowFloatRun := if mV < (c.vFloat : Int) - 500 then min 60 (b.lowFloatRun + 1) else 0 }
  | .off => b
  | .bulk => b
  | .test => b

/-- A change of the charger mode in the state. -/
def State.charger (s : State) (m : ChargerMode) : State := { s with bcu := s.bcu.enterMode m }

/-- The exit of the mode after its counts (R83).  At a limit end that sets BATTERY_POOR the charger enters FLOAT
before the BATTERY_REPORT of R101 is asked for, which so carries FLOAT (DESIGN CHOICE, log entry 52). -/
def State.chargerExit (s : State) (mV : Int) : State :=
  match s.bcu.mode with
  | .bulk => if mV ≥ s.stl.image.vAbs then s.charger .absorb else s
  | .absorb =>
    if s.bcu.tailRun = 60 then
      (s.charger .float).retain fun r => { r with q := s.stl.tables.qcap, qUncertain := false }
    else if s.bcu.absorbSeconds = 14400 then (s.charger .float).changeHealth addAbsorbLimit
    else s
  | .float => if s.bcu.lowFloatRun = 60 then s.charger .bulk else s
  | .off => s
  | .test => s

/-- Step 1 of R81: the duty step and the mode exit (R82, R83). -/
def State.chargerStep (s : State) (m : Mean) : State :=
  let b := { s.bcu with duty := dutyStep s.stl.image s.bcu.mode m.mV m.mA s.bcu.duty }
  { s with bcu := b.count s.stl.image m.mV m.mA }.chargerExit m.mV

/-! ### The coulomb counter (R86, R87) -/

/-- The charge after a second's mean current (R86). -/
def chargeAfter (qcap q : Nat) (mA : Int) : Nat := (clamp 0 qcap (q + mA)).toNat

/-- Step 2 of R81; Q is written at every update whose current is not 0 (R79, R86). -/
def State.countCharge (s : State) (m : Mean) : State :=
  if m.mA = 0 then s
  else s.retain fun r => { r with q := chargeAfter s.stl.tables.qcap r.q m.mA }

/-- The state of charge in per cent (R87). -/
def stateOfCharge (qcap q : Nat) (poor : Bool) : Nat :=
  min 100 (100 * q / (if poor then qcap / 2 else qcap))

/-! ### The load test (R92 to R98) -/

/-- The first precondition of R93 that fails, as the outcome a crew request gets (R94). -/
def State.testBar (s : State) : Option RequestOutcome :=
  if s.bcu.test.isSome then some .refusedState
  else if !s.bcu.supplyOk then some .refusedState
  else if s.bcu.mode ≠ .float ∨ s.bcu.floatSeconds < 3600 then some .refusedState
  else if s.sqc.state ≠ some .closed then some .refusedState
  else if s.peu.anyPickup then some .refusedState
  else if s.bcu.cls ≠ some .normal then some .refusedEnergy
  else if !(s.mdu.trip.isReady && s.mdu.close.isReady) then some .refusedEnergy
  else if s.mdu.chargerBusy then some .refusedState
  else none

/-- A mean read by a rule: the one delivered, or a free value where none has been (log entry 4). -/
def State.meanOr (s : State) : Option Mean → (Int × Int) × State
  | some m => ((m.mV, m.mA), s)
  | none => s.drawMean

/-- A test begins (R93): V0 from the latest mean, the charger in TEST, the load on, the load timer at 10 s. -/
def State.beginTest (s : State) (src : TestSource) : State :=
  let v := s.meanOr s.bcu.latestMean
  { v.2 with
    bcu := { v.2.bcu.enterMode .test with
      test := some ⟨src, v.1.1, s.now, none⟩, loadTimer := some (s.timer 10000),
      retryTimer := none } }

/-- A scheduled attempt (R93): the test, or the retry timer at 60 s. -/
def State.scheduledAttempt (s : State) : State :=
  if s.testBar.isNone then s.beginTest .scheduled
  else { s with bcu := { s.bcu with retryTimer := some (s.timer 60000) } }

/-- The charger after a test: BULK, or OFF without supply, with D at 0; no test, the load timer stopped
(R95, R97). -/
def Bcu.leaveTest (b : Bcu) : Bcu :=
  { b.enterMode (if b.supplyOk then .bulk else .off) with duty := 0, test := none, loadTimer := none }

/-- The abort of a test in progress (R97, R98). -/
def State.abortTest (s : State) : State :=
  { s with
    bcu := { s.bcu.leaveTest with
      latestAttempt := some .aborted, testDue := true,
      retryTimer := some (s.timer 3600000) } }.askBattery

/-- Whether a condition of R97 stands that ends a test in progress. -/
def State.abortHolds (s : State) : Bool :=
  s.peu.anyPickup || s.sqc.state ≠ some .closed || !s.bcu.supplyOk || s.bcu.cls ≠ some .normal ||
    !(s.mdu.trip.isReady && s.mdu.close.isReady)

/-- The end of every event that may abort a test: the preconditions of R93 keep these conditions from
standing at a begin, so one that stands has come about at this event (R97). -/
def State.abortReview (s : State) : State :=
  if s.bcu.test.isSome && s.abortHolds then s.abortTest else s

/-- The internal resistance measured by a test, clamped to 0..65,535 mΩ (R96). -/
def measuredR (v0 v1 i1 : Int) : Nat := (clamp 0 65535 ((v0 - v1) * 1000 / i1)).toNat

/-- The result judged from V0, V1 and I1 (R96). -/
def judge (rMax vTestMin : Nat) (v0 v1 i1 : Int) : TestResult :=
  if i1 < 100 then ⟨.invalid, v0, v1, i1, none⟩
  else
    ⟨if measuredR v0 v1 i1 ≤ rMax ∧ v1 ≥ vTestMin then .pass else .fail, v0, v1, i1,
      some (measuredR v0 v1 i1)⟩

/-- The outcome of a result as the latest attempt (R98). -/
def TestOutcome.attempt : TestOutcome → AttemptOutcome
  | .pass => .pass
  | .fail => .fail
  | .invalid => .invalid

/-- What follows a result: the record, the attempt, the attributes, the days, the report (R92, R98).  The charger
leaves TEST before the reports are asked for (DESIGN CHOICE, log entry 52). -/
def State.applyResult (s : State) (t : TestResult) : State :=
  let s := s.retain fun r => { r with lastResult := some t }
  let s := { s with
    bcu := { s.bcu.leaveTest with latestAttempt := some t.outcome.attempt } }
  let s := s.changeHealth (afterResult s.stl.image.rRef t)
  let s := s.retain fun r => { r with daysSinceTest := 0 }
  { s with bcu := { s.bcu with daySeconds := 0, testDue := false } }.askBattery

/-- The end of a test at the expiry of its load timer (R95). -/
def State.endTest (s : State) (t : RunningTest) : State :=
  let v := s.meanOr t.loaded
  v.2.applyResult (judge s.stl.image.rMax s.stl.image.vTestMin t.v0 v.1.1 (-v.1.2))

/-- The test keeps an update as its latest loaded mean (R95). -/
def Bcu.keepLoaded (b : Bcu) (m : Mean) : Bcu :=
  { b with test := b.test.map fun t => { t with loaded := some m } }

/-- The day rollover (R92): the days since test rise, a test may fall due, and the attempt is made.  A
test begun so keeps the update of the rollover as step 5 of R81 does. -/
def State.rollDay (s : State) : State :=
  let days := min 65535 (s.rtm.items.daysSinceTest + 1)
  let t := { s with bcu := { s.bcu with daySeconds := 0 } }.retain fun r =>
    { r with daysSinceTest := days }
  if s.stl.image.testInterval ≤ days && !s.bcu.testDue then
    let u := { t with bcu := { t.bcu with testDue := true } }.scheduledAttempt
    match s.bcu.latestMean with
    | some m => { u with bcu := u.bcu.keepLoaded m }
    | none => u
  else t

/-- An event of another block that asks for frames and may abort a test: its askings and the BCU's report
join in either order (R97, R124). -/
def withAbort (f : State → State) (s : State) : State :=
  if (f s).bcu.test.isSome && (f s).abortHolds then eitherOrder State.abortTest f s else f s

/-! ### The reserve class (R88 to R91) -/

/-- What the class is evaluated from (R88, R91). -/
structure ClassInputs where
  soc : Nat
  uncertain : Bool
  mV : Int
  supplyOk : Bool
  cutoffReached : Bool
deriving DecidableEq, Repr

/-- The worst class whose entry condition holds, or NORMAL (R88). -/
def worstEntered (c : Settings) (i : ClassInputs) : ReserveClass :=
  if i.cutoffReached then .cutoff
  else if (!i.uncertain && i.soc < 30) || i.mV < c.vProt then .protectOnly
  else if (!i.uncertain && i.soc < 60) || i.mV < c.vEcon then .economy
  else .normal

/-- Whether the leave condition of a class holds (R88). -/
def leaves (c : Settings) (i : ClassInputs) : ReserveClass → Bool
  | .normal => false
  | .economy => (i.uncertain || 70 ≤ i.soc) && i.mV ≥ c.vEcon + 200
  | .protectOnly => (i.uncertain || 40 ≤ i.soc) && i.mV ≥ c.vProt + 200
  | .cutoff => i.mV ≥ c.vCut + 500 && i.supplyOk

/-- The next better class (R88). -/
def ReserveClass.better : ReserveClass → ReserveClass
  | .normal => .normal
  | .economy => .normal
  | .protectOnly => .economy
  | .cutoff => .protectOnly

/-- The class after an evaluation; a first decision takes the worst entered (R88, R90). -/
def classAfter (c : Settings) (i : ClassInputs) : Option ReserveClass → ReserveClass
  | none => worstEntered c i
  | some p =>
    if p.code < (worstEntered c i).code then worstEntered c i
    else if leaves c i p then p.better
    else p

/-- Whether the SoC terms take the class out of NORMAL and so end a running test at this update (R88, R91, R97;
DEDUCED, log entry 44). -/
def socEndsTest (soc : Nat) (uncertain : Bool) : Bool := !uncertain && soc < 60

/-- The cutoff run after an update; a running test leaves it as it stands (R89, R91). -/
def cutoffRunAfter (vCut : Nat) (testing : Bool) (mV : Int) (run : Nat) : Nat :=
  if testing then run else if mV < vCut then min 10 (run + 1) else 0

/-- A change of class published to the BCU's test, the LNK and the TXQ (R90, R97, R112, R132).  The SQC
acts on CUTOFF alone (`evaluateClass`); the MDU and the RSL act when the event settles. -/
def State.publishClass (s : State) (c : ReserveClass) : State :=
  let s := { s with bcu := { s.bcu with cls := some c } }
  let s := s.abortReview
  let s := s.takePower (radioOf c)
  { s with txq := { s.txq with period := none } }.startPeriod

/-- Step 3 of R81: SoC, the cutoff run, the class and DEEP_DISCHARGE (R87 to R91).  The class becomes CUTOFF
exactly where the cutoff run reaches 10 outside it; the BCU's report and the SQC's lockout of ENERGY_WAIT
are then asked for in either order (R45, R101, R124), and the report carries CUTOFF (DESIGN CHOICE, log entry
52).  A test stands in for the voltage with its V0 and holds the cutoff run, but at the update at which the SoC
terms end it the evaluation is on that update's mV (R91). -/
def State.evaluateClass (s : State) (m : Mean) : State :=
  let soc := stateOfCharge s.stl.tables.qcap s.rtm.items.q s.poor
  let shield := if socEndsTest soc s.rtm.items.qUncertain then none else s.bcu.test
  let mV := match shield with
    | some t => t.v0
    | none => m.mV
  let run := cutoffRunAfter s.stl.image.vCut shield.isSome m.mV s.bcu.cutoffRun
  let i : ClassInputs :=
    { soc, uncertain := s.rtm.items.qUncertain, mV, supplyOk := s.bcu.supplyOk,
      cutoffReached := run = 10 && s.bcu.cutoffRun ≠ 10 && s.bcu.cls ≠ some .cutoff }
  let c := classAfter s.stl.image i s.bcu.cls
  let t := { s with bcu := { s.bcu with soc := some soc, cutoffRun := run } }
  let t := if s.bcu.cls = some c then t else t.publishClass c
  if i.cutoffReached then eitherOrder (·.changeHealth addDeepDischarge) State.classCutoff t else t

/-! ### Supply and the update (R80, R81) -/

/-- The five steps of R81 at a one-second update; the rollover of step 4 is the row DAY_ROLLOVER. -/
def State.batterySecond (s : State) (m : Mean) : State :=
  let s := { s with bcu := { s.bcu with latestMean := some m } }
  let s := ((s.chargerStep m).countCharge m).evaluateClass m
  { s with bcu := { s.bcu with daySeconds := s.bcu.daySeconds + 1 }.keepLoaded m }

/-- A change of SUPPLY_OK (R80). -/
def State.supplyChanged (s : State) (active : Bool) : State :=
  let t := { s with bcu := { s.bcu with supplyOk := active } }
  if active then
    if t.bcu.mode = .off then t.charger .bulk else t
  else if t.bcu.test.isSome then t.abortTest
  else t.charger .off

/-- A debounced reading of SUPPLY_OK: a first reading of inactive is no change (R80). -/
def State.supplyReading (s : State) (active : Bool) : State :=
  let t := { s with bcu := { s.bcu with supplyRead := true } }
  if active = s.bcu.supplyOk then t else t.supplyChanged active

end Sys2Proof.Machine
end

