-- ==== Sys2Proof/Machine/Peers.lean ====
section
/-! DEFINITION. The Peer Table (chapter 8): arrivals, admission, ageing, and the questions the PEU, the
RSL and the TGT ask of it. -/

namespace Sys2Proof.Machine

/-! ### Age and standing (R142) -/

/-- Whether an entry is FRESH (R142). -/
def PeerEntry.fresh (e : PeerEntry) (now : Uptime) (silenceLimit : Nat) : Bool :=
  ageOf now e.lastHeard ≤ 1000 * silenceLimit

/-- A time field at the ageing pass: kept from ever appearing young again (R142). -/
def agedTime (now t : Uptime) : Uptime :=
  if ageCap ≤ ageOf now t then now - BitVec.ofNat 32 ageCap else t

/-- The ageing pass over one entry (R142). -/
def PeerEntry.aged (now : Uptime) (e : PeerEntry) : PeerEntry :=
  { e with
    lastHeard := agedTime now e.lastHeard,
    lastPickup := e.lastPickup.map (agedTime now),
    lastEvent := e.lastEvent.map fun v => { v with time := agedTime now v.time } }

/-- The ageing pass at a second of the time base (R142). -/
def State.agePeers (s : State) : State := { s with pvt := s.pvt.map (PeerEntry.aged s.now) }

/-! ### Adjacency (R143) -/

/-- Whether a segment of a peer is one of this station's, segment 0 not counted (R143). -/
def Settings.touches (c : Settings) (segment : Nat) : Bool :=
  segment ≠ 0 && (segment = c.sUp || segment = c.sDn)

/-- Whether segments make a peer adjacent; absent segments do not (R143). -/
def Settings.adjacent (c : Settings) : Option Segments → Bool
  | some g => c.touches g.up || c.touches g.dn
  | none => false

/-! ### Admission (R144) -/

/-- The one of two entries that is evicted first: greater age of last heard, then higher id (R144). -/
def olderEntry (now : Uptime) (a b : PeerEntry) : PeerEntry :=
  if ageOf now a.lastHeard < ageOf now b.lastHeard ∨
    (ageOf now a.lastHeard = ageOf now b.lastHeard ∧ a.id < b.id) then b else a

/-- The entry of a row of R144 that is evicted. -/
def oldestEntry (now : Uptime) : List PeerEntry → Option PeerEntry
  | [] => none
  | e :: es => some (es.foldl (olderEntry now) e)

/-- The entry a newcomer evicts from a full table: the first row of R144 that finds one. -/
def State.evictedPeer (s : State) (newcomerAdjacent : Bool) : Option PeerEntry :=
  let fresh := fun e : PeerEntry => e.fresh s.now s.stl.image.silenceLimit
  let adjacent := fun e : PeerEntry => s.stl.image.adjacent e.segments
  let row1 := oldestEntry s.now (s.pvt.filter fun e => !fresh e && !adjacent e)
  let row2 := oldestEntry s.now (s.pvt.filter fun e => !fresh e && adjacent e)
  let row3 := oldestEntry s.now (s.pvt.filter fun e => fresh e && !adjacent e)
  row1 <|> row2 <|> (if newcomerAdjacent then row3 else none)

/-! ### Arrivals (R137 to R141) -/

/-- The entry of a newcomer: every optional field absent (R137). -/
def PeerEntry.blank (id : Nat) (arrival : Uptime) : PeerEntry :=
  { id, lastHeard := arrival, segments := none, role := none, state := none, cause := none,
    position := none, tags := none, lastPickup := none, lastEvent := none }

/-- What a STATUS sets (R138). -/
def PeerEntry.takeStatus (c : StatusInfo) (e : PeerEntry) : PeerEntry :=
  { e with
    segments := some c.segments, role := some c.role, state := c.state, cause := c.cause,
    position := c.position, tags := some c.tags }

/-- What a PICKUP sets (R139). -/
def PeerEntry.takePickup (g : Segments) (arrival : Uptime) (e : PeerEntry) : PeerEntry :=
  { e with segments := some g, lastPickup := some arrival }

/-- What a SEQ_EVENT sets (R140). -/
def PeerEntry.takeSeqEvent (c : SeqEventInfo) (arrival : Uptime) (e : PeerEntry) : PeerEntry :=
  { e with
    lastEvent := some ⟨c.kind, arrival⟩, state := c.state, cause := c.cause, position := c.position }

/-- What a TAG_NOTICE sets (R141). -/
def PeerEntry.takeTags (t : PeerTags) (e : PeerEntry) : PeerEntry := { e with tags := some t }

/-- The table after a frame of a station, or none where the frame is refused (R137, R144). -/
def State.pvtAfter (s : State) (id : Nat) (arrival : Uptime) (segments : Option Segments)
    (f : PeerEntry → PeerEntry) : Option (List PeerEntry) :=
  if s.pvt.any fun e => e.id = id then
    some (s.pvt.map fun e => if e.id = id then f { e with lastHeard := arrival } else e)
  else if s.pvt.length < 12 then some (s.pvt ++ [f (PeerEntry.blank id arrival)])
  else match s.evictedPeer (s.stl.image.adjacent segments) with
    | some v => some (s.pvt.filter (fun e => e.id ≠ v.id) ++ [f (PeerEntry.blank id arrival)])
    | none => none

/-! ### What the PEU asks (R145) -/

/-- The later of two downstream pickups; among equal times the lower station id (R145). -/
def laterPickup (now : Uptime) (a b : Nat × Uptime) : Nat × Uptime :=
  if ageOf now b.2 < ageOf now a.2 ∨ (ageOf now b.2 = ageOf now a.2 ∧ b.1 < a.1) then b else a

/-- The downstream peers with a pickup no more than 250 ms old, with its time (R145). -/
def State.downstreamPickups (s : State) : List (Nat × Uptime) :=
  s.pvt.filterMap fun e =>
    match e.segments, e.lastPickup with
    | some g, some t =>
      if g.up = s.stl.image.sDn ∧ ageOf s.now t ≤ 250 then some (e.id, t) else none
    | _, _ => none

/-- The downstream pickup the PEU asks for (R145). -/
def State.downstreamPickup (s : State) : Option Nat :=
  match s.downstreamPickups with
  | [] => none
  | p :: ps => some (ps.foldl (laterPickup s.now) p).1

/-- Whether the held peer's last sequence event is a TRIP younger than the hold (R145). -/
def State.peerTripSince (s : State) (peer : Nat) (start : Uptime) : Bool :=
  s.pvt.any fun e =>
    e.id = peer && e.lastEvent.any fun v => v.kind = .trip && ageOf s.now v.time < ageOf s.now start

/-! ### What the RSL and the TGT ask (R146, R147) -/

/-- The answer on a feeding peer (R146). -/
inductive Feeding where
  | fresh (e : PeerEntry)
  | silent (id : Nat)
  | absent
deriving DecidableEq, Repr

/-- The later heard of two candidates; among equal ages the lower station id (R146). -/
def laterHeard (now : Uptime) (a b : PeerEntry) : PeerEntry :=
  if ageOf now b.lastHeard < ageOf now a.lastHeard ∨
    (ageOf now b.lastHeard = ageOf now a.lastHeard ∧ b.id < a.id) then b else a

/-- The candidate heard last (R146). -/
def latestHeard (now : Uptime) : List PeerEntry → Option PeerEntry
  | [] => none
  | e :: es => some (es.foldl (laterHeard now) e)

/-- The candidates to feed a segment (R146). -/
def State.candidates (s : State) (segment : Nat) : List PeerEntry :=
  s.pvt.filter fun e =>
    e.segments.any (fun g => g.dn = segment) && e.role ≠ some .tie && s.stl.image.stationId ≠ some e.id

/-- The feeding peer of a segment (R146). -/
def State.feedingPeer (s : State) (segment : Nat) : Feeding :=
  let fresh := fun e : PeerEntry => e.fresh s.now s.stl.image.silenceLimit
  match latestHeard s.now ((s.candidates segment).filter fresh) with
  | some e => .fresh e
  | none =>
    match latestHeard s.now (s.candidates segment) with
    | some e => .silent e.id
    | none => .absent

/-- Whether an entry tags a segment: a bounding peer with a tag, TAG_UNKNOWN or no tags heard, or any
peer with a SEGMENT tag on it (R147). -/
def PeerEntry.tagsSegment (e : PeerEntry) (segment : Nat) : Bool :=
  (e.segments.any (fun g => g.up = segment || g.dn = segment) &&
    (match e.tags with
     | some t => !t.records.isEmpty || t.tagUnknown
     | none => true)) ||
    e.tags.any fun t => t.records.any fun r => r.scope = .segment segment

/-- The FRESH peers that tag a segment; "clear" when there are none (R147). -/
def State.taggingPeers (s : State) (segment : Nat) : List Nat :=
  (s.pvt.filter fun e => e.fresh s.now s.stl.image.silenceLimit && e.tagsSegment segment).map (·.id)

end Sys2Proof.Machine
end

