-- ==== Sys2Proof/Machine/Link.lean ====
section
/-! DEFINITION. The events of the Link Controller and of the Transmit Queue's own timers (chapters 6 and
7): receptions, listening, channel access, and the receive filter's counts. -/

namespace Sys2Proof.Machine

/-! ### Reception (R107) -/

/-- A reception after one more byte: at most 64 bytes kept, every byte counted, the gap timer restarted. -/
def Reception.take (r : Reception) (b : Byte) (now : Uptime) : Reception :=
  { bytes := if r.bytes.length < 64 then r.bytes ++ [b] else r.bytes, count := r.count + 1,
    gap := ⟨now, 5⟩ }

/-- Whether a reception has the bytes its length byte announces (R107). -/
def Reception.whole (r : Reception) : Bool :=
  2 ≤ r.count && 8 ≤ nat1 r.bytes 1 && nat1 r.bytes 1 ≤ 64 && nat1 r.bytes 1 ≤ r.count

/-- A byte taken into the reception in progress, or beginning one (R107). -/
def Lnk.takeByte (l : Lnk) (b : Byte) (now : Uptime) : Lnk :=
  { l with reception := some ((l.reception.getD ⟨[], 0, ⟨now, 5⟩⟩).take b now) }

/-- A byte arrives: taken only while the listen enable is on (R103, R107). -/
def State.serialByte (s : State) (b : Byte) : State :=
  if s.lnk.listenEnable then
    let t := { s with lnk := s.lnk.takeByte b s.now }
    if t.lnk.reception.any Reception.whole then t.endReception else t
  else s

/-! ### Listening (R113) -/

/-- A window opens (R113). -/
def State.openWindow (s : State) : State :=
  match s.lnk.cycle with
  | some c => if c.windowOpen then s else { s with lnk := { s.lnk with cycle := some ⟨true, s.now⟩ } }
  | none => s

/-- A window closes; a reception in progress with no other reason to listen is held for at most 70 ms
(R113). -/
def State.closeWindow (s : State) : State :=
  match s.lnk.cycle with
  | some c =>
    if c.windowOpen then
      { s with
        lnk := { s.lnk with
          cycle := some { c with windowOpen := false },
          holdLimit :=
            if s.lnk.reception.isSome && !s.lnk.access.listens then some (s.timer 70)
            else s.lnk.holdLimit } }
    else s
  | none => s

/-- The hold reaches its limit (R113). -/
def State.endHold (s : State) : State := { s with lnk := { s.lnk with holdLimit := none } }

/-! ### Channel access (R112, R115, R118, R120, R121) -/

/-- The end of a deferral: a draw and BACKOFF, or the return of an entry of priority 2 or 3 that a
priority-0 frame waits behind (R115, R118, R120).  A priority-0 frame that joined during the deferral and
has left again does not count (DESIGN CHOICE, log entry 47). -/
def State.endDeferral (s : State) : State :=
  match s.selectedEntry with
  | some e =>
    if 2 ≤ e.priority && s.urgentWaits then s.returnSelected
    else (s.drawBackoff e.priority e.attempts).passZeroBackoff
  | none => s.returnSelected

/-- A new level of BUSY: going inactive in SENSE ends the deferral (R115). -/
def State.busyLevel (s : State) (active : Bool) : State :=
  let t := { s with lnk := { s.lnk with busy := active } }
  if s.lnk.access = .sense && !active then t.endDeferral else t

/-- The expiry of GAP (R115). -/
def State.gapOver (s : State) : State := if s.lnk.access = .gap then s.sense else s

/-- The expiry of BACKOFF (R118). -/
def State.backoffOver (s : State) : State := if s.lnk.access = .backoff then s.sense else s

/-- COLLIDE active: latched in SENDING alone (R103).  No level of COLLIDE is held, so a sender whose COLLIDE
is active as a send begins gives it again within the send (DESIGN CHOICE, log entry 48). -/
def State.collided (s : State) : State :=
  if s.lnk.access = .sending then { s with lnk := { s.lnk with collide := true } } else s

/-- The last byte of a send has gone out (R116). -/
def State.sendOver (s : State) : State := if s.lnk.access = .sending then s.endSend else s

/-- The end of the warm-up: the listening of the state begins, and the search is made (R112, R113). -/
def State.warmUpOver (s : State) : State :=
  { s with
    lnk := { s.lnk with warmUp := none, cycle := listenCycleOf s.now s.lnk.power } }.search

/-- The expiry of the quiet timer (R121). -/
def State.quietOver (s : State) : State := { s with lnk := { s.lnk with quiet := none } }.search

/-- The expiry of the link timer (R111). -/
def State.linkOver (s : State) : State := { s with lnk := { s.lnk with link := none } }

/-! ### The TXQ's timers (R128, R132) -/

/-- The PICKUP entry whose life expires first: the oldest whose life still runs (R128). -/
def Txq.ageingPickup (q : Txq) : Option Entry := q.entries.find? fun e => e.isPickup && !e.lifeOver

/-- The life of a PICKUP entry expires: it leaves as stale, or, in flight, at the end of its send (R128). -/
def State.pickupLifeOver (s : State) : State :=
  match s.txq.ageingPickup with
  | some e =>
    if e.inFlight then { s with txq := s.txq.change e.order fun x => { x with lifeOver := true } }
    else s.dropEntry e.order
  | none => s

/-- The expiry of the status period timer: the PERIOD demand, then a new period (R132). -/
def State.periodOver (s : State) : State :=
  ({ s with txq := { s.txq with period := none } }.statusDemand .period).startPeriod

/-! ### The receive filter (R108 to R110) -/

/-- A saturating frame count one higher (R108). -/
def countUp (n : Nat) : Nat := min 255 (n + 1)

/-- The class of an ended reception at this station (R108). -/
def State.classOf (s : State) (r : EndedReception) : FrameClass :=
  classify s.stl.image.groupCode s.stl.image.stationId r

/-- The effect of a class on the counts and on ID_CLASH (R108, R110); an ACCEPTED frame also starts the
link timer at 300 s, at its arrival time (R107, R109). -/
def State.filterEffect (s : State) (arrival : Uptime) : FrameClass → State
  | .runt => { s with lnk := { s.lnk with bad := countUp s.lnk.bad } }
  | .long => { s with lnk := { s.lnk with bad := countUp s.lnk.bad } }
  | .badCrc => { s with lnk := { s.lnk with bad := countUp s.lnk.bad } }
  | .foreign => s
  | .unknown => { s with lnk := { s.lnk with good := countUp s.lnk.good } }
  | .clash => { s with lnk := { s.lnk with good := countUp s.lnk.good, idClash := true } }
  | .accepted _ =>
    { s with lnk := { s.lnk with good := countUp s.lnk.good, link := some ⟨arrival, 300000⟩ } }

/-- The oldest ended reception taken by the filter. -/
def State.dropReception (s : State) : State :=
  { s with transit := { s.transit with receptions := s.transit.receptions.drop 1 } }

/-- The row of an ACCEPTED frame: the oldest ended reception, when it is a frame the row takes, is
counted and handed on with its arrival time (R108, R109).  With another frame, or none, in front
there is no such arrival, and nothing changes (log entry 3). -/
def onFrame {α : Type} (pick : Frame → Option α) (f : α → Uptime → State → State) (s : State) : State :=
  match s.transit.receptions with
  | r :: _ =>
    (match s.classOf r with
     | .accepted m =>
       (match pick m with
        | some a => f a r.arrival (s.dropReception.filterEffect r.arrival (.accepted m))
        | none => s)
     | _ => s)
  | [] => s

/-- The row of a frame that is not ACCEPTED (R108). -/
def State.rejectFrame (s : State) : State :=
  match s.transit.receptions with
  | r :: _ =>
    (match s.classOf r with
     | .accepted _ => s
     | c => s.dropReception.filterEffect r.arrival c)
  | [] => s

end Sys2Proof.Machine
end

