-- ==== Sys2Proof/Machine/Tags.lean ====
section
/-! DEFINITION. Crew Tags (chapter 9): the panel slot, the radio tags, TAG_UNKNOWN, and the request
handling. -/

namespace Sys2Proof.Machine

/-! ### Tag changes (R154) -/

/-- A tag change: the tags written whole, the result of a request (`answer`) and the TAG_NOTICE asked for,
and a tag hold that becomes set handed to the SQC.  Where the SQC locks out a dead state, its askings and
the TGT's join in either order (R49, R154). -/
def State.changeTags (s : State) (on : Bool) (answer : State → State) (f : Retained → Retained) : State :=
  let t := { s with tgt := { s.tgt with hotlineOn := on } }.retain f
  let ask := fun u => (answer u).askTagNotice
  if !s.tagHold && t.tagHold && t.sqc.waiting then eitherOrder ask (·.lockDead .tag) t else ask t

/-! ### The panel slot (R151, R162) -/

/-- A debounced change of the HOTLINE switch after its first reading (R151, R162). -/
def State.hotlineChanged (s : State) (on : Bool) : State :=
  if on then
    { s with tgt := { s.tgt with ackTimer := some (s.timer 5000) } }.changeTags true id id
  else
    { s with tgt := { s.tgt with ackTimer := none } }.changeTags false id fun r =>
      { r with tagUnknown := r.tagUnknown && s.tgt.ackTimer.isNone }

/-- A debounced reading of the HOTLINE switch: a first reading of off frees the slot with no tag change
(R151). -/
def State.hotlineReading (s : State) (on : Bool) : State :=
  if !s.tgt.hotlineRead then { s with tgt := { s.tgt with hotlineRead := true, hotlineOn := on } }
  else if on = s.tgt.hotlineOn then s
  else s.hotlineChanged on

/-! ### Radio tags (R158 to R160) -/

/-- The scope a target gives (R158). -/
def Target.scope : Target → Scope
  | .station _ => .station
  | .segment s => .segment s

/-- The record of a crew. -/
def tagOf (crew : Nat) (ts : List TagRecord) : Option TagRecord := ts.find? fun t => t.crew = crew

/-- TAG_PLACE on a list: the list after it, where it changes, and the outcome (R158). -/
def placeTag (t : TagRecord) (ts : List TagRecord) : Option (List TagRecord) × RequestOutcome :=
  match tagOf t.crew ts with
  | some u => if u = t then (none, .accepted) else (some (ts.map fun x => if x.crew = t.crew then t else x), .accepted)
  | none => if ts.length < 4 then (some (ts ++ [t]), .accepted) else (none, .refusedFull)

/-- The result of a request, and the tag change that follows it where there is one (R154). -/
def State.answerTags (s : State) (r : CrewRequest) (o : RequestOutcome)
    (change : Option (Retained → Retained)) : State :=
  let answer := fun u : State => u.askResult r.crew r.kind o
  match change with
  | some f => s.changeTags s.tgt.hotlineOn answer f
  | none => answer s

/-- A TAG_PLACE acted on; crew id 0 is answered REFUSED_BAD (R156, R158). -/
def State.placeRequest (s : State) (r : CrewRequest) : State :=
  if r.crew = 0 then s.answerTags r .refusedBad none
  else
    let p := placeTag ⟨r.crew, r.tagKind, r.target.scope⟩ s.rtm.items.tags
    s.answerTags r p.2 (p.1.map fun ts => fun m => { m with tags := ts })

/-- A TAG_REMOVE acted on (R159). -/
def State.removeRequest (s : State) (r : CrewRequest) : State :=
  if (tagOf r.crew s.rtm.items.tags).isSome then
    s.answerTags r .accepted (some fun m => { m with tags := m.tags.filter fun t => t.crew ≠ r.crew })
  else s.answerTags r .refusedNotOwner none

/-- A CLEAR_UNKNOWN acted on (R160). -/
def State.clearRequest (s : State) (r : CrewRequest) : State :=
  if s.rtm.items.tagUnknown then
    s.answerTags r .accepted (some fun m => { m with tagUnknown := false })
  else s.answerTags r .refusedState none

/-! ### The request handling (R156, R157) -/

/-- Whether a request names this station by its target (R156). -/
def CrewRequest.addressed (r : CrewRequest) (c : Settings) : Bool :=
  match r.target with
  | .station id => c.stationId = some id
  | .segment g =>
    g ≠ 0 && (g = c.sUp || g = c.sDn) && (r.kind = .tagPlace || r.kind = .tagRemove)

/-- Whether a request is acted on: addressed, and of a crew; crew id 0 passes for TAG_PLACE alone (R156). -/
def CrewRequest.actedOn (r : CrewRequest) (c : Settings) : Bool :=
  r.addressed c && (r.crew ≠ 0 || r.kind = .tagPlace)

/-- The request of a frame that a row takes: of its kind and acted on (R156, R157). -/
def State.pickRequest (s : State) (k : RequestKind) : Frame → Option CrewRequest
  | .request r => if r.kind = k && r.actedOn s.stl.image then some r else none
  | _ => none

/-- The request of a frame that is not acted on (R156). -/
def State.pickIgnored (s : State) : Frame → Option CrewRequest
  | .request r => if r.actedOn s.stl.image then none else some r
  | _ => none

/-- The result of an operation asked for by a crew, queued at the event that handles it (R55, R94). -/
def State.answer (p : State × RequestOutcome) (r : CrewRequest) : State :=
  p.1.askResult r.crew r.kind p.2

end Sys2Proof.Machine
end

