-- ==== Sys2Proof/Machine/Restoration.lean ====
section
/-! DEFINITION. Loop Restoration (chapter 10): the midpoint, the tie, and what ends an event.

`State.settle` is the last part of every event: the RSL, the BCU's test, the charger of the stores and
the listen enable look at what the event has changed. -/

namespace Sys2Proof.Machine

/-! ### Changes of the restoration state (R164) -/

/-- Entry to WATCH: timers stopped, marks cleared (R164). -/
def Rsl.toWatch (r : Rsl) : Rsl :=
  { r with state := .watch, timer := none, expired := false, fallbackDue := false, storeWait := none }

/-- The RSL in WATCH. -/
def State.watch (s : State) : State := { s with rsl := s.rsl.toWatch }

/-- A state that stops the timers: OPENED, RESTORED or an INHIBITED state (R168, R172, R173). -/
def State.rest (s : State) (r : RestState) : State :=
  { s with rsl := { s.rsl with state := r, timer := none, storeWait := none } }

/-- The store wait stopped (R171). -/
def State.stopWait (s : State) : State := { s with rsl := { s.rsl with storeWait := none } }

/-! ### The questions (R146, R147, R163) -/

/-- The answer on a feeding peer; segment 0 is fed by no peer (R168, R172). -/
def State.feedingAnswer (s : State) (segment : Nat) : Feeding :=
  if segment = 0 then .absent else s.feedingPeer segment

/-- The TGT's answer on a segment: CLEAR, or TAGGED with the mark OWN and the station ids of the peers that
tag it, either or both (R163). -/
inductive TagAnswer where
  | clear
  | tagged (own : Bool) (peers : List Nat)
deriving DecidableEq, Repr

/-- The peers that the peer table names for a segment; it is not asked for segment 0 (R163). -/
def State.askedTags (s : State) (segment : Nat) : List Nat :=
  if segment = 0 then [] else s.taggingPeers segment

/-- The answer that the RSL gets when it asks the TGT about a segment (R163). -/
def State.tagAnswer (s : State) (segment : Nat) : TagAnswer :=
  if s.tagHold || !(s.askedTags segment).isEmpty then .tagged s.tagHold (s.askedTags segment) else .clear

/-! ### The midpoint (R167, R168) -/

/-- Whether a midpoint opens on the answer of the PVT (R168). -/
def midpointOpens (fallback : Bool) : Feeding → Bool
  | .fresh e => e.state = some .lockout && e.cause = some .protection
  | .silent _ => fallback
  | .absent => fallback

/-- A check of a midpoint (R168). -/
def State.midpointCheck (s : State) : State :=
  if midpointOpens s.stl.image.fallbackVoltage (s.feedingAnswer s.stl.image.sUp) && s.bcu.cls.isSome &&
    s.bcu.cls ≠ some .cutoff then
    match s.restoreOpen with
    | (t, .accepted) => t.rest .opened
    | (t, _) => t
  else s

/-- Whether a midpoint may be in TIMING, but for its own state (R167). -/
def State.midpointHolds (s : State) : Bool :=
  s.sqc.state = some .closed && s.sfe.vs.state = .dead && !s.peu.anyPickup && s.rsl.inhibit.isNone

/-- The entry of a midpoint to TIMING: t_mid less the age of VS; at 0 it expires at the entry (R167). -/
def State.midpointEnter (s : State) : State :=
  let ms := 1000 * s.stl.image.tMid - s.sfe.vs.age s.now
  let r := { s.rsl with state := .timing none }
  if ms = 0 then { s with rsl := { r with timer := none, expired := true } }.midpointCheck
  else { s with rsl := { r with timer := some (s.timer ms), expired := false } }

/-! ### The tie (R170 to R173) -/

/-- The findings of R172. -/
inductive Finding where
  | faulted
  | consent
  | noConsent
deriving DecidableEq, Repr

/-- The finding on the answer of the PVT (R172). -/
def tieFinding (fallback due : Bool) : Feeding → Finding
  | .fresh e =>
    if e.state = some .lockout ∧ e.cause = some .protection then .faulted
    else if e.state = some .lockout ∧ e.cause = some .restoreOpen ∧ e.position = some .opened then .consent
    else .noConsent
  | .silent _ => if fallback && due then .consent else .noConsent
  | .absent => if fallback && due then .consent else .noConsent

/-- The dead segment of a side (R171). -/
def deadSegment (c : Settings) : Side → Nat
  | .up => c.sUp
  | .dn => c.sDn

/-- Step 5 of a check of a tie: the close asked for, or the store wait (R173). -/
def State.tieClose (s : State) : State :=
  if s.mdu.close.isReady then
    match s.restoreClose with
    | (t, .accepted) => t.rest .restored
    | (t, _) => t
  else if s.rsl.storeWait.isSome then s
  else if s.stl.image.tEwait = 0 then s.rest (.inhibited .store)
  else { s with rsl := { s.rsl with storeWait := some (s.timer (1000 * s.stl.image.tEwait)) } }

/-- A check of a tie with a dead side (R171). -/
def State.tieCheck (s : State) (side : Side) : State :=
  let segment := deadSegment s.stl.image side
  match tieFinding s.stl.image.fallbackVoltage s.rsl.fallbackDue (s.feedingAnswer segment) with
  | .faulted => s.rest (.inhibited .faultedSegment)
  | .noConsent => s.stopWait
  | .consent =>
    if s.tagAnswer segment = .clear && !s.mdu.handleDown && s.classAllowsRestore then s.tieClose else s.stopWait

/-- The dead side of a tie with one side DEAD and the other LIVE (R170). -/
def State.deadSide (s : State) : Option Side :=
  if s.sfe.vs.state = .dead ∧ s.sfe.vl.state = .live then some .up
  else if s.sfe.vl.state = .dead ∧ s.sfe.vs.state = .live then some .dn
  else none

/-- Whether a tie may be in TIMING with a side (R170). -/
def State.tieHolds (s : State) (side : Side) : Bool :=
  s.sqc.state = some .lockout && s.deadSide = some side && s.rsl.inhibit.isNone

/-- The entry of a tie to TIMING (R170). -/
def State.tieEnter (s : State) (side : Side) : State :=
  { s with
    rsl := { s.rsl with
      state := .timing (some side), timer := some (s.timer (1000 * s.stl.image.tTie)),
      expired := false, fallbackDue := false } }

/-! ### Checks and timers (R166, R168, R171, R173) -/

/-- A decision check, made in TIMING with the expired mark set (R166). -/
def State.rslCheck (s : State) : State :=
  match s.rsl.state with
  | .timing none => if s.rsl.expired then s.midpointCheck else s
  | .timing (some side) => if s.rsl.expired then s.tieCheck side else s
  | .watch => s
  | .opened => s
  | .restored => s
  | .inhibited _ => s

/-- The expiry of the restoration timer of a midpoint (R167, R168). -/
def State.midpointOver (s : State) : State :=
  if s.rsl.state = .timing none then
    { s with rsl := { s.rsl with timer := none, expired := true } }.rslCheck
  else s

/-- The expiry of the restoration timer of a tie: first t_tie, then t_mid for the fallback (R171). -/
def State.tieOver (s : State) : State :=
  match s.rsl.state with
  | .timing (some _) =>
    (if s.rsl.expired then { s with rsl := { s.rsl with timer := none, fallbackDue := true } }
     else
       { s with
         rsl := { s.rsl with
           expired := true, timer := some (s.timer (1000 * s.stl.image.tMid)) } }).rslCheck
  | _ => s

/-- The expiry of the store wait (R173). -/
def State.storeWaitOver (s : State) : State := s.rest (.inhibited .store)

/-- The close store READY while the store wait runs (R173). -/
def State.rslStoreReady (s : State) : State := if s.rsl.storeWait.isSome then s.rslCheck else s

/-! ### What people do (R169, R175) -/

/-- A return of a tie from an INHIBITED state to WATCH (R175). -/
def State.rearm (s : State) : State :=
  match s.rsl.state with
  | .inhibited _ => s.watch
  | _ => s

/-- A return of a midpoint from OPENED to WATCH (R169). -/
def State.reopenWatch (s : State) : State := if s.rsl.state = .opened then s.watch else s

/-- A STATUS_NOW acted on, while both sides are LIVE (R175). -/
def State.rearmLive (s : State) : State :=
  if s.sfe.vs.state = .live && s.sfe.vl.state = .live then s.rearm else s

/-! ### What the RSL sees at the end of an event (R165 to R167, R170, R171, R174) -/

/-- What ends or changes a state at the event that brings it about. -/
def State.rslExits (s : State) : State :=
  match s.rsl.state with
  | .timing none => if s.midpointHolds then s else s.watch
  | .timing (some side) => if s.tieHolds side then s else s.watch
  | .restored => if s.sqc.state = some .lockout then s.rest (.inhibited .afterRestore) else s
  | .inhibited .start =>
    if s.sfe.vs.state ≠ .unknown && s.sfe.vl.state ≠ .unknown then s.watch else s
  | .inhibited _ => s
  | .watch => s
  | .opened => s

/-- The entry test of WATCH (R166, R167, R170). -/
def State.rslEntry (s : State) : State :=
  match s.rsl.state, s.stl.image.role with
  | .watch, .midpoint => if s.midpointHolds && s.sfe.vl.state = .dead then s.midpointEnter else s
  | .watch, .tie =>
    (match s.deadSide with
     | some side => if s.tieHolds side then s.tieEnter side else s
     | none => s)
  | _, _ => s

/-- The RSL at the end of an event: the inhibit reason, the exits, the store wait of a class that allows
no restoration, and the entry test where an input of it changed or a second of the time base fell
(R165, R166, R171). -/
def State.rslReview (s : State) (before : RslInputs) (second : Bool) : State :=
  let t := { s with rsl := { s.rsl with inhibit := s.formInhibit } }.rslExits
  let t := if t.classAllowsRestore then t else t.stopWait
  if second || t.rslInputs ≠ before then t.rslEntry else t

/-- The end of every event: the RSL, the test in progress, the charger, the listen enable (R97, R75,
R107, R166). -/
def State.settle (s : State) (before : RslInputs) (second : Bool) : State :=
  (((s.rslReview before second).abortReview).chargerReview).listenReview

/-- An event: its own effect, and what settles after it. -/
def event (f : State → State) (s : State) : State := (f s).settle s.rslInputs false

/-- An event of the link, which can change nothing but the listen enable outside it. -/
def linkEvent (f : State → State) (s : State) : State := (f s).listenReview

end Sys2Proof.Machine
end

