-- ==== Sys2Proof/Machine/CmdBattery.lean ====
section
/-! DEFINITION. The commands of the Battery Care Unit (chapter 5): SUPPLY_OK and the test's timers. -/

namespace Sys2Proof.Machine

/-- SUPPLY_OK_CHANGE (R80). -/
def execSupplyOkChange (active : Bool) (s : State) : Host.Outcome State Fault Refusal :=
  whenUp (event (·.supplyReading active)) s

/-- The retry timer expires: an attempt while test due is set (R93). -/
def State.testRetryOver (s : State) : State :=
  let t := { s with bcu := { s.bcu with retryTimer := none } }
  if s.bcu.testDue then t.scheduledAttempt else t

/-- TEST_RETRY_EXPIRY (R93). -/
def execTestRetryExpiry (s : State) : Host.Outcome State Fault Refusal :=
  whenUp (event (ifRuns (·.bcu.retryTimer) State.testRetryOver)) s

/-- The load timer expires: the running test ends with its result (R95). -/
def State.loadOver (s : State) : State :=
  match s.bcu.test with
  | some t => s.endTest t
  | none => s

/-- LOAD_TIMER_EXPIRY (R95, R96, R98). -/
def execLoadTimerExpiry (s : State) : Host.Outcome State Fault Refusal :=
  whenUp (event (ifRuns (·.bcu.loadTimer) State.loadOver)) s

end Sys2Proof.Machine
end

