-- ==== Sys2Proof/Machine/CmdSequence.lean ====
section
/-! DEFINITION. The commands of the Sequence Controller (chapter 3): the hand-offs that reach it, its
timers, the panel buttons and the NONRECLOSE switch. -/

namespace Sys2Proof.Machine

/-! ### Hand-offs picked from transit -/

/-- The trip request of a hand-off. -/
def Report.asTrip : Report → Option TripRequest
  | .tripRequest r => some r
  | _ => none

/-- The update time of a sequence step. -/
def Report.asStep : Report → Option Uptime
  | .sequenceStep t => some t
  | _ => none

/-- The operating time of an open confirmation. -/
def Report.asOpen : Report → Option Nat
  | .openConfirmation t => some t
  | _ => none

/-- HANDLE at an unsolicited open. -/
def Report.asUnsolicitedOpen : Report → Option Bool
  | .unsolicitedOpen h => some h
  | _ => none

/-- Whether a hand-off is a given one that carries nothing. -/
def Report.asPlain (k r : Report) : Option Unit := if r = k then some () else none

/-! ### The hand-offs -/

/-- TRIP_REQUEST (R41). -/
def execTripRequest (s : State) : Host.Outcome State Fault Refusal :=
  whenUp (event (onArrival Report.asTrip fun r s => s.takeTripRequest r)) s

/-- SEQUENCE_STEP (R47). -/
def execSequenceStep (s : State) : Host.Outcome State Fault Refusal :=
  whenUp (event (onArrival Report.asStep fun _ s => s.takeStep)) s

/-- OPEN_CONFIRMATION (R43, R58). -/
def execOpenConfirmation (s : State) : Host.Outcome State Fault Refusal :=
  whenUp (event (onArrival Report.asOpen fun t s => s.takeOpen t)) s

/-- TRIP_FAIL (R58). -/
def execTripFail (s : State) : Host.Outcome State Fault Refusal :=
  whenUp (event (onArrival (Report.asPlain .tripFail) fun _ s => s.takeTripFail)) s

/-- CLOSE_CONFIRMATION (R46). -/
def execCloseConfirmation (s : State) : Host.Outcome State Fault Refusal :=
  whenUp (event (onArrival (Report.asPlain .closeConfirmation) fun _ s => s.takeClosed)) s

/-- CLOSE_FAIL (R46). -/
def execCloseFail (s : State) : Host.Outcome State Fault Refusal :=
  whenUp (event (onArrival (Report.asPlain .closeFail) fun _ s => s.takeCloseFail)) s

/-- UNSOLICITED_OPEN (R56). -/
def execUnsolicitedOpen (s : State) : Host.Outcome State Fault Refusal :=
  whenUp (event (withAbort (onArrival Report.asUnsolicitedOpen fun h s => s.takeUnsolicitedOpen h))) s

/-- An unsolicited close that the SQC reports as EXTERNAL_CLOSE returns a midpoint to WATCH (R57, R169). -/
def State.externalClose (s : State) : State :=
  if s.sqc.waiting || s.sqc.state = some .lockout then s.takeUnsolicitedClose.reopenWatch
  else s.takeUnsolicitedClose

/-- UNSOLICITED_CLOSE (R57). -/
def execUnsolicitedClose (s : State) : Host.Outcome State Fault Refusal :=
  whenUp (event (onArrival (Report.asPlain .unsolicitedClose) fun _ s => s.externalClose)) s

/-- POSITION_FAULT (R58). -/
def execPositionFault (s : State) : Host.Outcome State Fault Refusal :=
  whenUp (event (withAbort (onArrival (Report.asPlain .positionFault) fun _ s => s.takePositionFault))) s

/-! ### The timers -/

/-- DEAD_TIMER_EXPIRY (R44). -/
def execDeadTimerExpiry (s : State) : Host.Outcome State Fault Refusal :=
  whenUp (event (ifRuns (·.sqc.deadTimer) State.deadOver)) s

/-- ENERGY_WAIT_EXPIRY (R45). -/
def execEnergyWaitExpiry (s : State) : Host.Outcome State Fault Refusal :=
  whenUp (event (ifRuns (·.sqc.ewaitTimer) State.ewaitOver)) s

/-- RECLAIM_EXPIRY (R47). -/
def execReclaimExpiry (s : State) : Host.Outcome State Fault Refusal :=
  whenUp (event (ifRuns (·.sqc.reclaimTimer) State.reclaimOver)) s

/-- CLOSE_DEMAND_EXPIRY (R53). -/
def execCloseDemandExpiry (s : State) : Host.Outcome State Fault Refusal :=
  whenUp (event (ifRuns (·.sqc.demandTimer) State.demandOver)) s

/-! ### The panel -/

/-- A manual or crew close as the SQC and the RSL take it: the RSL is told of the press first (R175; DESIGN
CHOICE, log entry 31), and a close that is taken returns a midpoint from OPENED to WATCH (R169). -/
def State.closeAsked (s : State) (src : CloseSource) : State × RequestOutcome :=
  let p := s.rearm.manualClose src
  (if p.2 = .accepted then p.1.reopenWatch else p.1, p.2)

/-- PANEL_TRIP (R51, R58, R175). -/
def execPanelTrip (s : State) : Host.Outcome State Fault Refusal :=
  whenUp (event fun s => (s.rearm.manualTrip .manual).1) s

/-- PANEL_CLOSE (R52, R175). -/
def execPanelClose (s : State) : Host.Outcome State Fault Refusal :=
  whenUp (event fun s => (s.closeAsked .manual).1) s

/-- A debounced reading of the NONRECLOSE switch (R50, R59). -/
def State.nonrecloseReading (s : State) (on : Bool) : State :=
  let t := { s with sqc := { s.sqc with nonreclose := on, nonrecloseRead := true } }
  if on && !s.sqc.nonreclose then t.lockDead .manual else t

/-- NONRECLOSE_CHANGE (R50, R59). -/
def execNonrecloseChange (on : Bool) (s : State) : Host.Outcome State Fault Refusal :=
  whenUp (event (·.nonrecloseReading on)) s

end Sys2Proof.Machine
end

