-- ==== Sys2Proof/Machine/CmdCrew.lean ====
section
/-! DEFINITION. The commands of the Tag Table and the request handling (chapter 9): crew requests, the
HOTLINE switch and the acknowledgement timer. -/

namespace Sys2Proof.Machine

/-- CREW_TAG_PLACE (R156, R158). -/
def execCrewTagPlace (s : State) : Host.Outcome State Fault Refusal :=
  whenUp (event fun s => onFrame (s.pickRequest .tagPlace) (fun r _ s => s.placeRequest r) s) s

/-- CREW_TAG_REMOVE (R159). -/
def execCrewTagRemove (s : State) : Host.Outcome State Fault Refusal :=
  whenUp (event fun s => onFrame (s.pickRequest .tagRemove) (fun r _ s => s.removeRequest r) s) s

/-- CREW_CLEAR_UNKNOWN (R160). -/
def execCrewClearUnknown (s : State) : Host.Outcome State Fault Refusal :=
  whenUp (event fun s => onFrame (s.pickRequest .clearUnknown) (fun r _ s => s.clearRequest r) s) s

/-- CREW_TRIP (R51, R55, R58, R175). -/
def execCrewTrip (s : State) : Host.Outcome State Fault Refusal :=
  whenUp (event (withAbort fun s => onFrame (s.pickRequest .trip)
    (fun r _ s => State.answer (s.rearm.manualTrip .crew) r) s)) s

/-- CREW_CLOSE (R52, R55, R175). -/
def execCrewClose (s : State) : Host.Outcome State Fault Refusal :=
  whenUp (event fun s => onFrame (s.pickRequest .close)
    (fun r _ s => State.answer (s.closeAsked .crew) r) s) s

/-- A STATUS_NOW acted on: the result, then the demand, and the RSL's reading of it (R133, R175). -/
def State.statusNow (s : State) (r : CrewRequest) : State :=
  ((s.askResult r.crew r.kind .accepted).statusDemand .crew).rearmLive

/-- CREW_STATUS_NOW (R133, R175). -/
def execCrewStatusNow (s : State) : Host.Outcome State Fault Refusal :=
  whenUp (event fun s => onFrame (s.pickRequest .statusNow) (fun r _ s => s.statusNow r) s) s

/-- A BATTERY_TEST acted on (R94). -/
def State.testAsked (s : State) : State × RequestOutcome :=
  match s.testBar with
  | some o => (s, o)
  | none => (s.beginTest .crew, .accepted)

/-- CREW_BATTERY_TEST (R94). -/
def execCrewBatteryTest (s : State) : Host.Outcome State Fault Refusal :=
  whenUp (event fun s => onFrame (s.pickRequest .batteryTest)
    (fun r _ s => State.answer s.testAsked r) s) s

/-- CREW_REQUEST_NOT_ACTED_ON (R156): counted as received, and nothing else. -/
def execCrewRequestNotActedOn (s : State) : Host.Outcome State Fault Refusal :=
  whenUp (event fun s => onFrame s.pickIgnored (fun _ _ s => s) s) s

/-- HOTLINE_SWITCH_CHANGE (R151, R162). -/
def execHotlineSwitchChange (on : Bool) (s : State) : Host.Outcome State Fault Refusal :=
  whenUp (event (·.hotlineReading on)) s

/-- ACK_TIMER_EXPIRY (R162). -/
def execAckTimerExpiry (s : State) : Host.Outcome State Fault Refusal :=
  whenUp (event (ifRuns (·.tgt.ackTimer) fun s => { s with tgt := { s.tgt with ackTimer := none } })) s

end Sys2Proof.Machine
end

