-- ==== Sys2Proof/Machine/CmdLink.lean ====
section
/-! DEFINITION. The commands of the Link Controller and of the Transmit Queue's timers (chapters 6 and 7). -/

namespace Sys2Proof.Machine

/-! ### The modem's lines -/

/-- SERIAL_BYTE_ARRIVAL (R103, R107). -/
def execSerialByteArrival (b : Byte) (s : State) : Host.Outcome State Fault Refusal :=
  whenUp (linkEvent (·.serialByte b)) s

/-- RECEPTION_GAP_EXPIRY (R107). -/
def execReceptionGapExpiry (s : State) : Host.Outcome State Fault Refusal :=
  whenUp (linkEvent State.endReception) s

/-- BUSY_CHANGE (R103, R115).  Before BRING-UP the line alone takes its level. -/
def execBusyChange (active : Bool) (s : State) : Host.Outcome State Fault Refusal :=
  .next (if s.up then linkEvent (·.busyLevel active) s
    else { s with lnk := { s.lnk with busy := active } })

/-- COLLIDE_ACTIVE (R103). -/
def execCollideActive (s : State) : Host.Outcome State Fault Refusal :=
  whenUp (linkEvent State.collided) s

/-! ### Channel access -/

/-- GAP_EXPIRY (R115). -/
def execGapExpiry (s : State) : Host.Outcome State Fault Refusal := whenUp (linkEvent State.gapOver) s

/-- BACKOFF_EXPIRY (R118). -/
def execBackoffExpiry (s : State) : Host.Outcome State Fault Refusal :=
  whenUp (linkEvent State.backoffOver) s

/-- SEND_END (R116). -/
def execSendEnd (s : State) : Host.Outcome State Fault Refusal := whenUp (linkEvent State.sendOver) s

/-! ### Listening -/

/-- WARM_UP_EXPIRY (R112). -/
def execWarmUpExpiry (s : State) : Host.Outcome State Fault Refusal :=
  whenUp (linkEvent (ifRuns (·.lnk.warmUp) State.warmUpOver)) s

/-- LISTEN_WINDOW_OPEN (R113). -/
def execListenWindowOpen (s : State) : Host.Outcome State Fault Refusal :=
  whenUp (linkEvent State.openWindow) s

/-- LISTEN_WINDOW_CLOSE (R113). -/
def execListenWindowClose (s : State) : Host.Outcome State Fault Refusal :=
  whenUp (linkEvent State.closeWindow) s

/-- LISTEN_HOLD_LIMIT (R113). -/
def execListenHoldLimit (s : State) : Host.Outcome State Fault Refusal :=
  whenUp (linkEvent (ifRuns (·.lnk.holdLimit) State.endHold)) s

/-! ### Timers -/

/-- QUIET_TIMER_EXPIRY (R121). -/
def execQuietTimerExpiry (s : State) : Host.Outcome State Fault Refusal :=
  whenUp (linkEvent (ifRuns (·.lnk.quiet) State.quietOver)) s

/-- LINK_TIMER_EXPIRY (R111). -/
def execLinkTimerExpiry (s : State) : Host.Outcome State Fault Refusal :=
  whenUp (linkEvent (ifRuns (·.lnk.link) State.linkOver)) s

/-- PICKUP_LIFE_EXPIRY (R128). -/
def execPickupLifeExpiry (s : State) : Host.Outcome State Fault Refusal :=
  whenUp (linkEvent State.pickupLifeOver) s

/-- STATUS_PERIOD_EXPIRY (R132). -/
def execStatusPeriodExpiry (s : State) : Host.Outcome State Fault Refusal :=
  whenUp (linkEvent (ifRuns (·.txq.period) State.periodOver)) s

end Sys2Proof.Machine
end

