-- ==== Sys2Proof/Machine/Protection.lean ====
section
/-! DEFINITION. The Protection Element Unit (chapter 2): the eight elements at an update record, the
downstream-pickup hold, the trip request, the pickup episode and sequence coordination. -/

namespace Sys2Proof.Machine

/-! ### Pickup, rates and the selection (R21 to R26) -/

/-- The multiple of pickup in sixteenths, clamped to 0..639 (R21). -/
def multiple (rms pickup : Nat) : Nat := min 639 (16 * rms / pickup)

/-- The picked-up flag of a TOC element after an update (R21). -/
def tocFlag (flag : Bool) (rms pickup : Nat) : Bool :=
  if pickup ≤ rms then true else if 16 * rms < 15 * pickup then false else flag

/-- The picked-up flag of an INST element after an update; a pickup of 0 disables it (R22). -/
def instFlag (flag clip : Bool) (rms pickup : Nat) : Bool :=
  if pickup = 0 then false
  else if clip || pickup ≤ rms then true
  else if 16 * rms < 15 * pickup then false
  else flag

/-- The nine breakpoints of both curves, in sixteenths of the pickup (R23). -/
def breakpoints : List Nat := [16, 24, 32, 48, 64, 96, 128, 192, 320]

/-- The rate at the highest breakpoint not above `mq`; rate_0 below them all (R24). -/
def rateAt (rates : List Nat) (mq : Nat) : Nat :=
  (breakpoints.zip rates).foldl (fun r b => if b.1 ≤ mq then b.2 else r) (rates.headD 0)

/-- The selection for the trip to come: the curve and the INST enable (R26). -/
structure Selection where
  curve : Curve
  inst : Bool
deriving DecidableEq, Repr

/-- The selection of R26; the trip number is the shot plus 1, and so L + 1 in a CLOSING whose shot is L (DESIGN
CHOICE, log entry 53). -/
def State.selection (s : State) : Selection :=
  if s.hotlineHeld then ⟨.fast, true⟩
  else
    ⟨if s.sqc.shot + 1 ≤ s.stl.image.fastShots then .fast else .delayed,
      s.stl.image.instMask.testBit s.sqc.shot⟩

/-- The rates of a curve (R23). -/
def Tables.rates (t : Tables) : Curve → List Nat
  | .fast => t.fastRates
  | .delayed => t.delayedRates

/-! ### The accumulator (R24, R25, R32) -/

/-- The accumulator of a picked-up element: it rises, clamped at 65,536, or capped at 65,535 while a
hold is in force (R24, R32). -/
def rise (held : Bool) (acc rate : Nat) : Nat := min (if held then 65535 else 65536) (acc + rate)

/-- The accumulator of an element that is not picked up: it falls by the decrement, or to 0 at once
where the reset time is 0 (R25). -/
def fall (acc : Nat) : Option Nat → Nat
  | some d => acc - d
  | none => 0

/-! ### The hold (R31, R33) -/

/-- Whether a hold in force ends at this update for a cause other than dropout (R33). -/
def State.holdEnds (s : State) (curve : Curve) (h : Hold) : Bool :=
  10 * s.stl.image.holdTime ≤ ageOf s.now h.start || s.peerTripSince h.peer h.start ||
    curve ≠ .fast || s.lnk.power ≠ .active || s.hotlineHeld

/-- The hold that an element may start at this update (R31). -/
def State.holdOffered (s : State) (curve : Curve) : Option Hold :=
  if curve = .fast && s.stl.image.holdTime ≠ 0 && s.lnk.power = .active && !s.hotlineHeld then
    s.downstreamPickup.map fun id => ⟨id, s.now⟩
  else none

/-- An element after its flag is decided and the standing of its hold is settled (R31, R33).  A dropout
clears the hold-spent mark. -/
def Toc.settleHold (t : Toc) (flag : Bool) (ends : Hold → Bool) (offered : Option Hold) : Toc :=
  if !flag then { t with pickedUp := false, hold := none, spent := false }
  else
    match t.hold with
    | some h =>
      if ends h then { t with pickedUp := true, hold := none, spent := true }
      else { t with pickedUp := true }
    | none => { t with pickedUp := true, hold := if t.spent then none else offered }

/-- An element after its accumulator has moved (R24, R25, R32). -/
def Toc.move (t : Toc) (rate : Nat) (reset : Option Nat) : Toc :=
  { t with acc := if t.pickedUp then rise t.hold.isSome t.acc rate else fall t.acc reset }

/-- Whether a TOC element trips at this update (R24). -/
def Toc.trips (t : Toc) : Bool := t.pickedUp && t.acc = 65536

/-- One TOC element at an evaluated update, steps 2 and 3 of R19. -/
def State.tocUpdate (s : State) (curve : Curve) (pickup : Nat) (reset : Option Nat) (rms : Nat)
    (t : Toc) : Toc :=
  (t.settleHold (tocFlag t.pickedUp rms pickup) (s.holdEnds curve) (s.holdOffered curve)).move
    (rateAt (s.stl.tables.rates curve) (multiple rms pickup)) reset

/-! ### The update (R19) -/

/-- Whether the elements evaluate at a record (R19). -/
def State.evaluates (s : State) (r : UpdateRecord) : Bool :=
  !r.warming && !s.peu.outstanding &&
    (s.sqc.state = some .closed || s.sqc.state = some .reclaim || s.sqc.state = some .closing)

/-- The TOC elements after steps 2 and 3 of R19. -/
def State.tocUpdates (s : State) (r : UpdateRecord) : Ch4 Toc :=
  let c := s.stl.image
  let curve := s.selection.curve
  let phase := s.tocUpdate curve c.pPu s.stl.tables.resetP
  ⟨phase r.rms.ia s.peu.toc.ia, phase r.rms.ib s.peu.toc.ib, phase r.rms.ic s.peu.toc.ic,
    s.tocUpdate curve c.gPu s.stl.tables.resetG r.rms.ig s.peu.toc.ig⟩

/-- The INST elements' flags after step 2 of R19. -/
def State.instUpdates (s : State) (r : UpdateRecord) : Ch4 Bool :=
  let c := s.stl.image
  ⟨instFlag s.peu.inst.ia r.clip.ia r.rms.ia c.pInst, instFlag s.peu.inst.ib r.clip.ib r.rms.ib c.pInst,
    instFlag s.peu.inst.ic r.clip.ic r.rms.ic c.pInst, instFlag s.peu.inst.ig r.clip.ig r.rms.ig c.gInst⟩

/-- The picked-up elements. -/
def Peu.pickedUp (p : Peu) : ElementSet := ⟨p.toc.map Toc.pickedUp, p.inst⟩

/-- Whether some element of a set is in it. -/
def ElementSet.any (e : ElementSet) : Bool := e.toc.any || e.inst.any

/-- The elements that trip at this update (R22, R24). -/
def Peu.tripped (p : Peu) (inst : Bool) : ElementSet :=
  ⟨p.toc.map Toc.trips, p.inst.map (· && inst)⟩

/-- The pickup episode after an update; a new one is eligible outside CLOSING (R29). -/
def episodeAfter (before after closing : Bool) (e : Option Episode) : Option Episode :=
  if !after then none
  else if before then e.map fun x => { x with length := min 65535 (x.length + 1) }
  else some ⟨1, !closing⟩

/-- Whether a sequence step is reported when an episode ends (R34). -/
def State.stepDue (s : State) (r : UpdateRecord) (e : Option Episode) : Bool :=
  s.stl.image.seqCoord && e.any (fun x => x.eligible && 2 ≤ x.length) &&
    (s.sqc.state = some .closed || s.sqc.state = some .reclaim) && r.vs = .live &&
    s.sqc.shot + 1 < s.effectiveL

/-- Steps 2 to 4 of R19: the elements, and the trip request where one trips (R27). -/
def State.evaluateElements (s : State) (r : UpdateRecord) : State :=
  let p := { s.peu with toc := s.tocUpdates r, inst := s.instUpdates r }
  let tripped := p.tripped s.selection.inst
  if tripped.any then
    { s with peu := { p with outstanding := true } }.report
      (.tripRequest ⟨r.time, tripped, r.rms.currents⟩)
  else { s with peu := p }

/-- Step 5 of R19: the episode, the pickup notice and the sequence step (R29, R30, R34). -/
def State.evaluateEpisode (s : State) (r : UpdateRecord) (before : Bool) : State :=
  let after := s.peu.anyPickup
  let e := s.peu.episode
  let t := { s with
    peu := { s.peu with episode := episodeAfter before after (s.sqc.state = some .closing) e } }
  if after && !before && s.sqc.state ≠ some .closing then t.askPickup s.peu.pickedUp
  else if before && !after && s.stepDue r e then t.report (.sequenceStep r.time)
  else t

/-- The arrival of an update record at the PEU (R19). -/
def State.evaluate (s : State) (r : UpdateRecord) : State :=
  if s.evaluates r then (s.evaluateElements r).evaluateEpisode r s.peu.anyPickup else s

end Sys2Proof.Machine
end

