-- ==== Sys2Proof/Machine/CmdMeasure.lean ====
section
/-! DEFINITION. The commands of the measurement chain (chapters 1 and 2): the modulator bit, the decimated
sample, the half-cycle update, the one-second update, and the day rollover it counts toward. -/

namespace Sys2Proof.Machine

/-! ### What is due (log entry 10) -/

/-- Whether 256 bits have been taken and the sample they complete has not (R1). -/
def State.sampleDue (s : State) : Bool := 256 ≤ s.sfe.bitCount

/-- Whether W/2 samples have been used and the half-cycle update has not been taken (R9). -/
def State.halfDue (s : State) : Bool := s.stl.tables.w / 2 ≤ s.sfe.halfCount

/-- Whether 2,400 samples have been used and the one-second update has not been taken (R15). -/
def State.secondDue (s : State) : Bool := 2400 ≤ s.sfe.batCount

/-- Whether 86,400 day seconds have been counted and the rollover has not been taken (R92). -/
def State.dayDue (s : State) : Bool := 86400 ≤ s.bcu.daySeconds

/-- An event taken where it is due. -/
def whenDue (due : State → Bool) (f : State → State) (s : State) : State := if due s then f s else s

/-! ### The events -/

/-- The half-cycle update at the SFE, and its record at the PEU (R9, R19). -/
def State.halfCycle (s : State) : State :=
  let f := s.sfe.halfCycle s.stl.tables.w s.stl.image.vLive s.stl.image.vDead s.now
  let t := { s with sfe := f }
  match f.latest with
  | some r => t.evaluate r
  | none => t

/-- The one-second update at the SFE, and its means at the BCU (R16, R81). -/
def State.oneSecond (s : State) : State :=
  { s with sfe := s.sfe.oneSecond s.now }.batterySecond
    (s.sfe.means s.stl.image.vbGain s.stl.image.ibGain s.now)

/-- The half-cycle update as an event; its PICKUP and the report of a test it aborts join in either order. -/
def State.halfCycleEvent (s : State) : State := event (withAbort State.halfCycle) s

/-- The day rollover as an event. -/
def State.dayEvent (s : State) : State := event State.rollDay s

/-- The one-second update as an event; a rollover the last one left due is taken first. -/
def State.secondEvent (s : State) : State := event State.oneSecond (whenDue State.dayDue State.dayEvent s)

/-- A decimated sample; the updates that the last one left due are taken first (R3). -/
def State.sampleEvent (s : State) : State :=
  let t := whenDue State.secondDue State.secondEvent (whenDue State.halfDue State.halfCycleEvent s)
  { t with sfe := t.sfe.sample t.stl.image.aI t.stl.image.aV }

/-- The bits of a clock period; a sample that the last one left due is taken first (R1, R2). -/
def State.bitsEvent (s : State) (bits : Byte) : State :=
  let t := whenDue State.sampleDue State.sampleEvent s
  { t with sfe := t.sfe.takeBits bits }

/-! ### The commands -/

/-- MODULATOR_BIT (R1, R2). -/
def execModulatorBit (bits : Byte) (s : State) : Host.Outcome State Fault Refusal :=
  whenUp (·.bitsEvent bits) s

/-- DECIMATED_SAMPLE (R3 to R5, R7, R8). -/
def execDecimatedSample (s : State) : Host.Outcome State Fault Refusal :=
  whenUp (whenDue State.sampleDue State.sampleEvent) s

/-- HALF_CYCLE_UPDATE (R9 to R13, R19 to R34). -/
def execHalfCycleUpdate (s : State) : Host.Outcome State Fault Refusal :=
  whenUp (whenDue State.halfDue State.halfCycleEvent) s

/-- ONE_SECOND_UPDATE (R14, R16, R81). -/
def execOneSecondUpdate (s : State) : Host.Outcome State Fault Refusal :=
  whenUp (whenDue State.secondDue State.secondEvent) s

/-- DAY_ROLLOVER (R92). -/
def execDayRollover (s : State) : Host.Outcome State Fault Refusal :=
  whenUp (whenDue State.dayDue State.dayEvent) s

end Sys2Proof.Machine
end

