-- ==== Sys2Proof/Machine/CmdMechanism.lean ====
section
/-! DEFINITION. The commands of the Mechanism Drive Unit (chapter 4): contacts, coil limits, HANDLE, the
ready inputs and the stores' timers. -/

namespace Sys2Proof.Machine

/-! ### Operations -/

/-- OPEN_SEEN (R68). -/
def execOpenSeen (s : State) : Host.Outcome State Fault Refusal := whenUp (event State.openSeen) s

/-- PULSE_LIMIT_EXPIRY (R68). -/
def execPulseLimitExpiry (s : State) : Host.Outcome State Fault Refusal :=
  whenUp (event (ifRuns (·.mdu.opTimer) State.pulseEnd)) s

/-- STORE_WAIT_EXPIRY (R67, R68). -/
def execStoreWaitExpiry (s : State) : Host.Outcome State Fault Refusal :=
  whenUp (event (ifRuns (·.mdu.opTimer) State.storeWaitEnd)) s

/-- CLOSED_SEEN (R70). -/
def execClosedSeen (s : State) : Host.Outcome State Fault Refusal := whenUp (event State.closedSeen) s

/-- CLOSE_PULSE_LIMIT_EXPIRY (R70). -/
def execClosePulseLimitExpiry (s : State) : Host.Outcome State Fault Refusal :=
  whenUp (event (ifRuns (·.mdu.opTimer) State.closePulseEnd)) s

/-! ### Position -/

/-- POSITION_CHANGE (R63 to R65, R69). -/
def execPositionChange (openC closedC : Bool) (s : State) : Host.Outcome State Fault Refusal :=
  whenUp (event (·.contacts openC closedC)) s

/-- The position-fault timer expires: a report, unless the present stay in UNKNOWN has had its one (R64; a
timer started again within a reported stay reports nothing: DEDUCED, log entry 19). -/
def State.faultTimerOver (s : State) : State :=
  let t := { s with mdu := { s.mdu with faultTimer := none, faultReported := true } }
  if s.mdu.faultReported then t else t.report .positionFault

/-- POSITION_FAULT_TIMER_EXPIRY (R64). -/
def execPositionFaultTimerExpiry (s : State) : Host.Outcome State Fault Refusal :=
  whenUp (event (ifRuns (·.mdu.faultTimer) State.faultTimerOver)) s

/-- The first position, decided once, and the SQC's start state from it (R61, R63).  A first position of
UNKNOWN is itself the position fault of its stay (R63, R64). -/
def State.firstPosition (s : State) (p : Position) : State :=
  if s.mdu.position.isNone then
    { s with mdu := { s.mdu.publish p with faultReported := decide (p = Position.unknown) } }.startState p
  else s

/-- The first position from the contacts (R61, R63). -/
def State.firstContacts (s : State) (openC closedC : Bool) : State :=
  if s.mdu.position.isNone then
    { s with mdu := { s.mdu with openC := some openC, closedC := some closedC } }.firstPosition
      (positionFrom openC closedC)
  else s

/-- FIRST_POSITION (R61, R63). -/
def execFirstPosition (openC closedC : Bool) (s : State) : Host.Outcome State Fault Refusal :=
  whenUp (event (·.firstContacts openC closedC)) s

/-- FIRST_POSITION_TIMEOUT (R61, R63). -/
def execFirstPositionTimeout (s : State) : Host.Outcome State Fault Refusal :=
  whenUp (event (·.firstPosition .unknown)) s

/-! ### HANDLE -/

/-- A debounced reading of HANDLE; only a change after the first reading reaches the SQC (R50, R66). -/
def State.handleReading (s : State) (down : Bool) : State :=
  let t := { s with mdu := { s.mdu with handleDown := down, handleRead := true } }
  if down && !s.mdu.handleDown then t.lockDead .handle else t

/-- HANDLE_CHANGE (R50, R66). -/
def execHandleChange (down : Bool) (s : State) : Host.Outcome State Fault Refusal :=
  whenUp (event (·.handleReading down)) s

/-! ### The stores -/

/-- A debounced reading of a ready input: the store, a trip operation waiting for it, and at the close
store the SQC's and the RSL's waits (R45, R67, R74, R173). -/
def State.readyReading (s : State) (id : StoreId) (active : Bool) : State :=
  if (s.mdu.store id).ready = some active then s
  else
    let t := { s with mdu := (s.mdu.withStore id (·.readInput active)).driveWhenReady s.now }
    if id = .close && active then t.closeStoreReady.rslStoreReady else t

/-- READY_INPUT_CHANGE (R74, R75). -/
def execReadyInputChange (id : StoreId) (active : Bool) (s : State) :
    Host.Outcome State Fault Refusal :=
  whenUp (event (·.readyReading id active)) s

/-- A charge limit expires (R77). -/
def State.chargeOver (s : State) (id : StoreId) : State :=
  { s with mdu := s.mdu.withStore id (·.overLimit s.now) }

/-- CHARGE_LIMIT_EXPIRY (R77). -/
def execChargeLimitExpiry (id : StoreId) (s : State) : Host.Outcome State Fault Refusal :=
  whenUp (event (ifRuns (fun s => (s.mdu.store id).limit) (·.chargeOver id))) s

/-- A retry timer expires: a retry charge is due (R77). -/
def State.retryOver (s : State) (id : StoreId) : State :=
  { s with mdu := s.mdu.withStore id fun t => { t with retry := none } }

/-- RETRY_TIMER_EXPIRY (R77). -/
def execRetryTimerExpiry (id : StoreId) (s : State) : Host.Outcome State Fault Refusal :=
  whenUp (event (ifRuns (fun s => (s.mdu.store id).retry) (·.retryOver id))) s

end Sys2Proof.Machine
end

