-- ==== Sys2Proof/Machine/CmdPeers.lean ====
section
/-! DEFINITION. The commands of the receive filter and the Peer Table (chapters 6.3 and 8.2): a frame that
is not ACCEPTED, and the frames of peers. -/

namespace Sys2Proof.Machine

/-- FRAME_REJECTED (R108, R110). -/
def execFrameRejected (s : State) : Host.Outcome State Fault Refusal :=
  whenUp (event State.rejectFrame) s

/-- A peer's frame at the PVT: the table changed and the RSL told of it, or the frame refused (R137,
R148). -/
def State.peerFrame (s : State) (id : Nat) (arrival : Uptime) (segments : Option Segments)
    (f : PeerEntry → PeerEntry) : State :=
  match s.pvtAfter id arrival segments f with
  | some t => { s with pvt := t }.rslCheck
  | none => s

/-- A STATUS, with its sender. -/
def Frame.asStatus : Frame → Option (Nat × StatusInfo)
  | .status id c => some (id, c)
  | _ => none

/-- A PICKUP, with its sender. -/
def Frame.asPickup : Frame → Option (Nat × Segments × Nat)
  | .pickup id g q => some (id, g, q)
  | _ => none

/-- A SEQ_EVENT, with its sender. -/
def Frame.asSeqEvent : Frame → Option (Nat × SeqEventInfo)
  | .seqEvent id c => some (id, c)
  | _ => none

/-- A TAG_NOTICE, with its sender. -/
def Frame.asTagNotice : Frame → Option (Nat × PeerTags)
  | .tagNotice id t => some (id, t)
  | _ => none

/-- The sender of a REQUEST_RESULT or a BATTERY_REPORT. -/
def Frame.asReport : Frame → Option Nat
  | .report id => some id
  | _ => none

/-- RECEIVE_STATUS (R137, R138). -/
def execReceiveStatus (s : State) : Host.Outcome State Fault Refusal :=
  whenUp (event (onFrame Frame.asStatus fun p arrival s =>
    s.peerFrame p.1 arrival (some p.2.segments) (PeerEntry.takeStatus p.2))) s

/-- RECEIVE_PICKUP (R121, R137, R139). -/
def execReceivePickup (s : State) : Host.Outcome State Fault Refusal :=
  whenUp (event (onFrame Frame.asPickup fun p arrival s =>
    (s.peerFrame p.1 arrival (some p.2.1) (PeerEntry.takePickup p.2.1 arrival)).startQuiet arrival
      (10 * p.2.2))) s

/-- RECEIVE_SEQ_EVENT (R137, R140). -/
def execReceiveSeqEvent (s : State) : Host.Outcome State Fault Refusal :=
  whenUp (event (onFrame Frame.asSeqEvent fun p arrival s =>
    s.peerFrame p.1 arrival none (PeerEntry.takeSeqEvent p.2 arrival))) s

/-- RECEIVE_TAG_NOTICE (R137, R141). -/
def execReceiveTagNotice (s : State) : Host.Outcome State Fault Refusal :=
  whenUp (event (onFrame Frame.asTagNotice fun p arrival s =>
    s.peerFrame p.1 arrival none (PeerEntry.takeTags p.2))) s

/-- RECEIVE_PEER_REPORT (R137). -/
def execReceivePeerReport (s : State) : Host.Outcome State Fault Refusal :=
  whenUp (event (onFrame Frame.asReport fun id arrival s => s.peerFrame id arrival none fun e => e)) s

end Sys2Proof.Machine
end

