-- ==== Sys2Proof/Machine/CmdRestore.lean ====
section
/-! DEFINITION. The commands of the Restoration Logic's timers (chapter 10) and the second of the time
base (R184). -/

namespace Sys2Proof.Machine

/-- The second of the time base: the second count, the PVT's ageing pass and the RSL's checks (R142, R166,
R184). -/
def State.second (s : State) : State :=
  ({ s with clock := { s.clock with seconds := s.clock.seconds + 1, lastSecond := s.now } }.agePeers.rslCheck).settle
    s.rslInputs true

/-- TIME_BASE_SECOND (R142, R166, R184). -/
def execTimeBaseSecond (s : State) : Host.Outcome State Fault Refusal := whenUp State.second s

/-- MIDPOINT_TIMER_EXPIRY (R167, R168). -/
def execMidpointTimerExpiry (s : State) : Host.Outcome State Fault Refusal :=
  whenUp (event (ifRuns (·.rsl.timer) State.midpointOver)) s

/-- TIE_TIMER_EXPIRY (R171). -/
def execTieTimerExpiry (s : State) : Host.Outcome State Fault Refusal :=
  whenUp (event (ifRuns (·.rsl.timer) State.tieOver)) s

/-- RSL_STORE_WAIT_EXPIRY (R173). -/
def execRslStoreWaitExpiry (s : State) : Host.Outcome State Fault Refusal :=
  whenUp (event (ifRuns (·.rsl.storeWait) State.storeWaitOver)) s

end Sys2Proof.Machine
end

