-- ==== Sys2Proof/Machine/Start.lean ====
section
/-! DEFINITION. Settings, Start-Up and Retained Memory (chapter 11, and the block of chapter 12.6): the
read, the check, the safe settings, the derived tables, and the state every block takes at BRING-UP. -/

namespace Sys2Proof.Machine

/-! ### The block (R179 to R181, R194) -/

/-- Word `i` of a block as a number. -/
def wordAt (b : List Word16) (i : Nat) : Nat := (b.getD i 0).toNat

/-- The high byte of a word: the first of two fields that share it (R194). -/
def hiByte (n : Nat) : Nat := n / 256

/-- The low byte of a word: the second of two fields that share it (R194). -/
def loByte (n : Nat) : Nat := n % 256

/-- Whether a number lies in a range, both ends included. -/
def within (lo hi n : Nat) : Bool := lo ≤ n && n ≤ hi

/-- Whether the fields of word `i` lie in their ranges; words 0, 1, 34, 35, 39, 48, 49, 60, 66 and 95 hold
nothing that RANGE can fail (R194). -/
def wordFits (i n : Nat) : Bool :=
  if i = 2 then within 1 15 n
  else if i = 3 then n = 50 || n = 60
  else if i = 4 then within 0 2 n
  else if i = 5 || i = 6 then within 0 31 n
  else if i = 7 then within 0 7 (hiByte n) && within 0 7 (loByte n)
  else if i = 8 || i = 12 || i = 13 || i = 51 || i = 53 then within 1 32767 n
  else if i = 9 then within 0 32766 n
  else if i = 14 || i = 15 then within 0 32767 n
  else if within 16 33 i || within 10 11 i || i = 52 || within 55 57 i || i = 59 || i = 61 then 1 ≤ n
  else if i = 36 then within 1 4 n
  else if i = 37 then within 0 4 n
  else if i = 38 then within 0 15 n
  else if i = 40 || i = 71 then within 0 1 n
  else if within 41 43 i then within 10 18000 n
  else if i = 44 then within 1 180 n
  else if i = 45 || i = 46 then within 0 60 n
  else if i = 47 then within 0 100 n
  else if i = 50 then within 1 200 n
  else if i = 54 then 501 ≤ n
  else if i = 58 then within 1 30 n
  else if within 62 65 i then within 1 199 n
  else if i = 67 then within 10 600 n
  else if i = 68 then within 30 3600 n
  else if i = 69 || i = 70 then within 1 3600 n
  else if within 72 94 i then n = 0
  else true

/-- The first word, in word order, whose fields fail RANGE (R180). -/
def rangeFault (b : List Word16) : Option Nat :=
  (List.range 96).find? fun i => !wordFits i (wordAt b i)

/-- The first word of a curve, from word `first` on, that holds a time greater than the one before (R181). -/
def curveFault (b : List Word16) (first : Nat) : Option Nat :=
  (List.range' (first + 1) 8).find? fun i => wordAt b (i - 1) < wordAt b i

/-- A word index where a condition holds. -/
def faultIf (p : Bool) (i : Nat) : Option Nat := if p then some i else none

/-- The first conflict of R181, as the word it records. -/
def conflictFault (b : List Word16) : Option Nat :=
  faultIf (wordAt b 8 ≤ wordAt b 9) 9 <|> curveFault b 16 <|> curveFault b 25 <|>
    faultIf (wordAt b 36 < wordAt b 37) 37 <|>
    faultIf (wordAt b 4 = 2 && wordAt b 5 = wordAt b 6) 6 <|>
    faultIf (wordAt b 56 ≤ wordAt b 57) 56 <|> faultIf (wordAt b 55 ≤ wordAt b 56) 55

/-- The sum of the words of a block, modulo 65,536 (R180). -/
def blockSum (b : List Word16) : Word16 := b.foldl (· + ·) 0

/-- The CHECK of a block: the first failure, or none for a good block (R180). -/
def checkBlock (b : List Word16) : Option SettingsFault :=
  if blockSum b ≠ 0 then some ⟨95, .checksum⟩
  else if wordAt b 0 ≠ 0xE701 then some ⟨0, .format⟩
  else match rangeFault b with
    | some i => some ⟨i, .range⟩
    | none => (conflictFault b).map fun i => ⟨i, .conflict⟩

/-- Words `first` to `first + n - 1` as numbers. -/
def wordsFrom (b : List Word16) (first n : Nat) : List Nat := (List.range' first n).map (wordAt b)

/-- The image made from the fields of a good block (R180, R194). -/
def imageOf (b : List Word16) : Settings :=
  { groupCode := wordAt b 1, stationId := some (wordAt b 2), lineHz := wordAt b 3,
    role := roleOf (wordAt b 4), sUp := wordAt b 5, sDn := wordAt b 6, aI := hiByte (wordAt b 7),
    aV := loByte (wordAt b 7), vLive := wordAt b 8, vDead := wordAt b 9, vbGain := wordAt b 10,
    ibGain := wordAt b 11, pPu := wordAt b 12, gPu := wordAt b 13, pInst := wordAt b 14,
    gInst := wordAt b 15, fast := wordsFrom b 16 9, delayed := wordsFrom b 25 9,
    tResetP := wordAt b 34, tResetG := wordAt b 35, l := wordAt b 36, fastShots := wordAt b 37,
    instMask := wordAt b 38, holdTime := hiByte (wordAt b 39), qQuiet := loByte (wordAt b 39),
    seqCoord := wordAt b 40 = 1, dt1 := wordAt b 41, dt2 := wordAt b 42, dt3 := wordAt b 43,
    tReclaim := wordAt b 44, tEwait := wordAt b 45, tSlow := wordAt b 46, tSlowClose := wordAt b 47,
    wearLimit := 65536 * wordAt b 48 + wordAt b 49, capacityAh := wordAt b 50, iBulk := wordAt b 51,
    vAbs := wordAt b 52, iTail := wordAt b 53, vFloat := wordAt b 54, vEcon := wordAt b 55,
    vProt := wordAt b 56, vCut := wordAt b 57, testInterval := wordAt b 58, rMax := wordAt b 59,
    vTestMin := wordAt b 60, rRef := wordAt b 61,
    thresholds := ⟨wordAt b 62, wordAt b 63, wordAt b 64, wordAt b 65⟩, priorityMap := wordAt b 66,
    statusPeriod := wordAt b 67, silenceLimit := wordAt b 68, tMid := wordAt b 69, tTie := wordAt b 70,
    fallbackVoltage := wordAt b 71 = 1 }

/-! ### The safe settings (R182) -/

/-- A field of the block when its own word passes RANGE, otherwise a stand-in (R182). -/
def ownWord (b : List Word16) (i standIn : Nat) : Nat :=
  if wordFits i (wordAt b i) then wordAt b i else standIn

/-- The image made from the safe settings and the five fields taken from the block (R182). -/
def safeImage (b : List Word16) : Settings :=
  { groupCode := wordAt b 1,
    stationId := if wordFits 2 (wordAt b 2) then some (wordAt b 2) else none,
    lineHz := ownWord b 3 50, role := .none, sUp := ownWord b 5 0, sDn := ownWord b 6 0, aI := 3,
    aV := 3, vLive := 2000, vDead := 600, vbGain := 4096, ibGain := 4096, pPu := 4000, gPu := 2000,
    pInst := 0, gInst := 0, fast := List.replicate 9 120, delayed := List.replicate 9 120,
    tResetP := 120, tResetG := 120, l := 1, fastShots := 0, instMask := 0, holdTime := 0, qQuiet := 0,
    seqCoord := false, dt1 := 500, dt2 := 500, dt3 := 500, tReclaim := 30, tEwait := 10, tSlow := 0,
    tSlowClose := 0, wearLimit := 0, capacityAh := 20, iBulk := 2000, vAbs := 14400, iTail := 200,
    vFloat := 13600, vEcon := 12200, vProt := 11800, vCut := 10800, testInterval := 30, rMax := 150,
    vTestMin := 11500, rRef := 50, thresholds := ⟨100, 100, 100, 100⟩, priorityMap := 0x0E50,
    statusPeriod := 60, silenceLimit := 300, tMid := 60, tTie := 120, fallbackVoltage := false }

/-! ### FREEZE (R183) -/

/-- The reset decrement of a reset time; none for 0 (R23, R183). -/
def resetOf (t : Nat) : Option Nat := if t = 0 then none else some (ceilDiv 65536 t)

/-- The derived tables of an image, with the checksum word as read (R183). -/
def tablesOf (c : Settings) (checksum : Word16) : Tables :=
  { w := if c.lineHz = 60 then 40 else 48, fastRates := c.fast.map (ceilDiv 65536),
    delayedRates := c.delayed.map (ceilDiv 65536), resetP := resetOf c.tResetP,
    resetG := resetOf c.tResetG, qcap := c.capacityAh * 3600000, checksum := checksum }

/-- The STL after CHECK and FREEZE, the part up (R180 to R183). -/
def freeze (b : List Word16) : Stl :=
  let fault := checkBlock b
  let image := if fault.isNone then imageOf b else safeImage b
  { phase := .up, image := image, tables := tablesOf image (b.getD 95 0), fault := fault }

/-! ### RETAIN (R186) -/

/-- The retained items taken against a new image: Q clamped, MECH_WEAR set by a lowered limit (R73, R85). -/
def Retained.against (r : Retained) (qcap wearLimit : Nat) : Retained :=
  { r with
    q := min qcap r.q, qUncertain := r.qUncertain || qcap < r.q,
    mechWear := r.mechWear || (wearLimit ≠ 0 && wearLimit ≤ r.wearTotal) }

/-- The Retained Memory after RETAIN and what the owners change at BRING-UP (R186). -/
def retainTest (m : Rtm) (qcap wearLimit : Nat) : Rtm :=
  .written ((if m.agrees then m.items else .cold qcap).against qcap wearLimit)

/-! ### BRING-UP (R187) -/

/-- The BCU's start state, test due formed from the days since test (R79, R93). -/
def Bcu.bringUp (days interval : Nat) : Bcu :=
  { Bcu.start with
    testDue := interval ≤ days, retryTimer := if interval ≤ days then some ⟨0, 3600000⟩ else none }

/-- The RSL's start state for a role (R164). -/
def Rsl.bringUp (role : Role) : Rsl :=
  { Rsl.start with state := if role = .tie then .inhibited .start else .watch }

/-- Every block in its start state, the queues, tables and timers lost (R178).  The BUSY line is an input
and keeps its level. -/
def State.cleared (s : State) : State :=
  { s with
    sfe := Sfe.start, peu := Peu.start, sqc := Sqc.start, mdu := Mdu.start, bcu := Bcu.start,
    lnk := { Lnk.start with busy := s.lnk.busy }, txq := Txq.start, pvt := [], tgt := Tgt.start,
    rsl := Rsl.start, clock := ⟨0, 0, 0⟩, transit := ⟨[], []⟩ }

/-- CHECK, FREEZE, RETAIN and BRING-UP with the 96 words read (R178, R187): the START demand is the
TXQ's first event. -/
def State.bringUp (s : State) (b : List Word16) : State :=
  let stl := freeze b
  let rtm := retainTest s.rtm stl.tables.qcap stl.image.wearLimit
  let s := s.cleared
  let s := { s with
    stl := stl, rtm := rtm, bcu := Bcu.bringUp rtm.items.daysSinceTest stl.image.testInterval,
    lnk := { s.lnk with rng := rngSeed stl.tables.checksum stl.image.stationId },
    rsl := Rsl.bringUp stl.image.role }
  { s with rsl := { s.rsl with inhibit := s.formInhibit } }.statusDemand .start

/-! ### The start (R178, R179) -/

/-- The beginning of a start: every output off, everything but the Retained Memory lost.  A battery
disconnected since the last start leaves contents that fail the test of R186 (R185). -/
def State.startOver (s : State) (batteryKept : Bool) : State :=
  { s.cleared with
    stl := ⟨.read [], Settings.unloaded, Tables.unloaded, none⟩,
    rtm := if batteryKept then s.rtm else ⟨s.rtm.items, ~~~s.rtm.items.check⟩ }

/-- The next word of the block (R179); the 96th brings the part up. -/
def State.takeWord (s : State) (w : Word16) : State :=
  match s.stl.phase with
  | .read ws =>
    if ws.length < 95 then { s with stl := { s.stl with phase := .read (ws ++ [w]) } }
    else s.bringUp (ws ++ [w])
  | .up => s

end Sys2Proof.Machine
end

