-- ==== Sys2Proof/Machine/CmdStart.lean ====
section
/-! DEFINITION. The commands of a start (chapter 11): the two start events and the words of the block. -/

namespace Sys2Proof.Machine

/-- RESTART_INPUT (R178). -/
def execRestartInput (batteryKept : Bool) (s : State) : Host.Outcome State Fault Refusal :=
  .next (s.startOver batteryKept)

/-- SUPPLY_RETURN (R178). -/
def execSupplyReturn (batteryKept : Bool) (s : State) : Host.Outcome State Fault Refusal :=
  .next (s.startOver batteryKept)

/-- SETTINGS_WORD_READ (R179 to R187). -/
def execSettingsWordRead (w : Word16) (s : State) : Host.Outcome State Fault Refusal :=
  .next (s.takeWord w)

/-- SETTINGS_WORD_TIMEOUT: the word is taken as 0xFFFF (R179). -/
def execSettingsWordTimeout (s : State) : Host.Outcome State Fault Refusal :=
  .next (s.takeWord 0xFFFF#16)

end Sys2Proof.Machine
end

