-- ==== Sys2Proof/Machine/Dispatch.lean ====
section
/-! DEFINITION. One arm per command: its meaning. -/

namespace Sys2Proof.Machine

def exec (i : Instr) (s : State) : Host.Outcome State Fault Refusal :=
  match i with
  | .decimatedSample => Sys2Proof.Machine.execDecimatedSample s
  | .halfCycleUpdate => Sys2Proof.Machine.execHalfCycleUpdate s
  | .oneSecondUpdate => Sys2Proof.Machine.execOneSecondUpdate s
  | .tripRequest => Sys2Proof.Machine.execTripRequest s
  | .sequenceStep => Sys2Proof.Machine.execSequenceStep s
  | .openSeen => Sys2Proof.Machine.execOpenSeen s
  | .openConfirmation => Sys2Proof.Machine.execOpenConfirmation s
  | .pulseLimitExpiry => Sys2Proof.Machine.execPulseLimitExpiry s
  | .storeWaitExpiry => Sys2Proof.Machine.execStoreWaitExpiry s
  | .tripFail => Sys2Proof.Machine.execTripFail s
  | .closedSeen => Sys2Proof.Machine.execClosedSeen s
  | .closePulseLimitExpiry => Sys2Proof.Machine.execClosePulseLimitExpiry s
  | .closeConfirmation => Sys2Proof.Machine.execCloseConfirmation s
  | .closeFail => Sys2Proof.Machine.execCloseFail s
  | .positionChange openC closedC => Sys2Proof.Machine.execPositionChange openC closedC s
  | .unsolicitedOpen => Sys2Proof.Machine.execUnsolicitedOpen s
  | .unsolicitedClose => Sys2Proof.Machine.execUnsolicitedClose s
  | .positionFaultTimerExpiry => Sys2Proof.Machine.execPositionFaultTimerExpiry s
  | .positionFault => Sys2Proof.Machine.execPositionFault s
  | .firstPosition openC closedC => Sys2Proof.Machine.execFirstPosition openC closedC s
  | .firstPositionTimeout => Sys2Proof.Machine.execFirstPositionTimeout s
  | .handleChange down => Sys2Proof.Machine.execHandleChange down s
  | .readyInputChange id active => Sys2Proof.Machine.execReadyInputChange id active s
  | .chargeLimitExpiry id => Sys2Proof.Machine.execChargeLimitExpiry id s
  | .retryTimerExpiry id => Sys2Proof.Machine.execRetryTimerExpiry id s
  | .deadTimerExpiry => Sys2Proof.Machine.execDeadTimerExpiry s
  | .energyWaitExpiry => Sys2Proof.Machine.execEnergyWaitExpiry s
  | .reclaimExpiry => Sys2Proof.Machine.execReclaimExpiry s
  | .closeDemandExpiry => Sys2Proof.Machine.execCloseDemandExpiry s
  | .panelTrip => Sys2Proof.Machine.execPanelTrip s
  | .panelClose => Sys2Proof.Machine.execPanelClose s
  | .nonrecloseChange on => Sys2Proof.Machine.execNonrecloseChange on s
  | .supplyOkChange active => Sys2Proof.Machine.execSupplyOkChange active s
  | .dayRollover => Sys2Proof.Machine.execDayRollover s
  | .testRetryExpiry => Sys2Proof.Machine.execTestRetryExpiry s
  | .loadTimerExpiry => Sys2Proof.Machine.execLoadTimerExpiry s
  | .frameRejected => Sys2Proof.Machine.execFrameRejected s
  | .receptionGapExpiry => Sys2Proof.Machine.execReceptionGapExpiry s
  | .receiveStatus => Sys2Proof.Machine.execReceiveStatus s
  | .receivePickup => Sys2Proof.Machine.execReceivePickup s
  | .receiveSeqEvent => Sys2Proof.Machine.execReceiveSeqEvent s
  | .receiveTagNotice => Sys2Proof.Machine.execReceiveTagNotice s
  | .receivePeerReport => Sys2Proof.Machine.execReceivePeerReport s
  | .crewTagPlace => Sys2Proof.Machine.execCrewTagPlace s
  | .crewTagRemove => Sys2Proof.Machine.execCrewTagRemove s
  | .crewClearUnknown => Sys2Proof.Machine.execCrewClearUnknown s
  | .crewTrip => Sys2Proof.Machine.execCrewTrip s
  | .crewClose => Sys2Proof.Machine.execCrewClose s
  | .crewStatusNow => Sys2Proof.Machine.execCrewStatusNow s
  | .crewBatteryTest => Sys2Proof.Machine.execCrewBatteryTest s
  | .hotlineSwitchChange on => Sys2Proof.Machine.execHotlineSwitchChange on s
  | .ackTimerExpiry => Sys2Proof.Machine.execAckTimerExpiry s
  | .gapExpiry => Sys2Proof.Machine.execGapExpiry s
  | .busyChange active => Sys2Proof.Machine.execBusyChange active s
  | .backoffExpiry => Sys2Proof.Machine.execBackoffExpiry s
  | .collideActive => Sys2Proof.Machine.execCollideActive s
  | .sendEnd => Sys2Proof.Machine.execSendEnd s
  | .warmUpExpiry => Sys2Proof.Machine.execWarmUpExpiry s
  | .listenWindowOpen => Sys2Proof.Machine.execListenWindowOpen s
  | .listenWindowClose => Sys2Proof.Machine.execListenWindowClose s
  | .listenHoldLimit => Sys2Proof.Machine.execListenHoldLimit s
  | .quietTimerExpiry => Sys2Proof.Machine.execQuietTimerExpiry s
  | .linkTimerExpiry => Sys2Proof.Machine.execLinkTimerExpiry s
  | .pickupLifeExpiry => Sys2Proof.Machine.execPickupLifeExpiry s
  | .statusPeriodExpiry => Sys2Proof.Machine.execStatusPeriodExpiry s
  | .timeBaseSecond => Sys2Proof.Machine.execTimeBaseSecond s
  | .midpointTimerExpiry => Sys2Proof.Machine.execMidpointTimerExpiry s
  | .tieTimerExpiry => Sys2Proof.Machine.execTieTimerExpiry s
  | .rslStoreWaitExpiry => Sys2Proof.Machine.execRslStoreWaitExpiry s
  | .restartInput batteryKept => Sys2Proof.Machine.execRestartInput batteryKept s
  | .supplyReturn batteryKept => Sys2Proof.Machine.execSupplyReturn batteryKept s
  | .settingsWordRead word => Sys2Proof.Machine.execSettingsWordRead word s
  | .settingsWordTimeout => Sys2Proof.Machine.execSettingsWordTimeout s
  | .modulatorBit bits => Sys2Proof.Machine.execModulatorBit bits s
  | .serialByteArrival byte => Sys2Proof.Machine.execSerialByteArrival byte s
  | .crewRequestNotActedOn => Sys2Proof.Machine.execCrewRequestNotActedOn s

end Sys2Proof.Machine
end

