-- ==== Sys2Proof/Machine/Idle.lean ====
section
/-! DEFINITION. What the part does with no command waiting (DESIGN CHOICE, log entry 11).

The block has a clock, and the table has no row for its tick.  With no command waiting, an event of
the part that has fallen due is put in front of the queue as the row that names it; where none is
due, one ms of uptime passes (R184). -/

namespace Sys2Proof.Machine

/-! ### Events that fall due -/

/-- A row that is due when its timer has run its length. -/
def dueTimer (now : Uptime) (t : Option Timer) (c : Instr) : Option Instr :=
  match t with
  | some x => if x.over now then some c else none
  | none => none

/-- A row that is due when a condition holds. -/
def dueIf (p : Bool) (c : Instr) : Option Instr := if p then some c else none

/-- The row that takes a hand-off. -/
def Report.row : Report → Instr
  | .tripRequest _ => .tripRequest
  | .sequenceStep _ => .sequenceStep
  | .openConfirmation _ => .openConfirmation
  | .tripFail => .tripFail
  | .closeConfirmation => .closeConfirmation
  | .closeFail => .closeFail
  | .unsolicitedOpen _ => .unsolicitedOpen
  | .unsolicitedClose => .unsolicitedClose
  | .positionFault => .positionFault

/-- The row of a crew request that is acted on (R157). -/
def RequestKind.row : RequestKind → Instr
  | .tagPlace => .crewTagPlace
  | .tagRemove => .crewTagRemove
  | .clearUnknown => .crewClearUnknown
  | .trip => .crewTrip
  | .close => .crewClose
  | .statusNow => .crewStatusNow
  | .batteryTest => .crewBatteryTest

/-- The row of an ACCEPTED frame (R109, R156). -/
def Frame.row (c : Settings) : Frame → Instr
  | .status _ _ => .receiveStatus
  | .pickup _ _ _ => .receivePickup
  | .seqEvent _ _ => .receiveSeqEvent
  | .tagNotice _ _ => .receiveTagNotice
  | .report _ => .receivePeerReport
  | .request r => if r.actedOn c then r.kind.row else .crewRequestNotActedOn

/-- The row that takes an ended reception. -/
def State.receptionRow (s : State) (r : EndedReception) : Instr :=
  match s.classOf r with
  | .accepted f => f.row s.stl.image
  | _ => .frameRejected

/-- The row of the operation timer, by the operation in flight (R67, R68, R70). -/
def Operation.timerRow : Operation → Instr
  | .trip .drive _ => .pulseLimitExpiry
  | .trip .storeWait _ => .storeWaitExpiry
  | .close => .closePulseLimitExpiry
  | .idle => .pulseLimitExpiry

/-- The row of the slot timer, by the access state (R115, R118). -/
def Access.slotRow : Access → Option Instr
  | .gap => some .gapExpiry
  | .backoff => some .backoffExpiry
  | .idle => none
  | .sense => none
  | .sending => none

/-- The row of the restoration timer, by the restoration state (R167, R171). -/
def RestState.timerRow : RestState → Option Instr
  | .timing none => some .midpointTimerExpiry
  | .timing (some _) => some .tieTimerExpiry
  | .watch => none
  | .opened => none
  | .restored => none
  | .inhibited _ => none

/-- How long after a window opened the listen cycle has its next event (R113). -/
def windowMs (p : RadioPower) (isOpen : Bool) : Nat :=
  if isOpen then 250 else if p = .sparse then 30000 else 2000

/-- The listen cycle's event, when it is due (R113). -/
def dueWindow (now : Uptime) (p : RadioPower) : Option ListenCycle → Option Instr
  | some c =>
    dueIf (windowMs p c.windowOpen ≤ ageOf now c.openedAt)
      (if c.windowOpen then .listenWindowClose else .listenWindowOpen)
  | none => none

/-- What is on its way and what the SFE has completed. -/
def State.dueArrivals (s : State) : List (Option Instr) :=
  [s.transit.reports.head?.map Report.row, s.transit.receptions.head?.map s.receptionRow,
    dueIf s.sampleDue .decimatedSample, dueIf s.halfDue .halfCycleUpdate,
    dueIf s.secondDue .oneSecondUpdate, dueIf s.dayDue .dayRollover]

/-- The timers of the mechanism, the sequence, the battery and the tags. -/
def State.dueTimers (s : State) : List (Option Instr) :=
  let now := s.now
  [dueIf (s.mdu.position.isNone && 1000 ≤ now.toNat) .firstPositionTimeout,
    dueTimer now s.mdu.opTimer s.mdu.op.timerRow,
    dueTimer now s.mdu.faultTimer .positionFaultTimerExpiry,
    dueTimer now s.mdu.trip.limit (.chargeLimitExpiry .trip),
    dueTimer now s.mdu.close.limit (.chargeLimitExpiry .close),
    dueTimer now s.mdu.trip.retry (.retryTimerExpiry .trip),
    dueTimer now s.mdu.close.retry (.retryTimerExpiry .close),
    dueTimer now s.sqc.deadTimer .deadTimerExpiry, dueTimer now s.sqc.ewaitTimer .energyWaitExpiry,
    dueTimer now s.sqc.reclaimTimer .reclaimExpiry,
    dueTimer now s.sqc.demandTimer .closeDemandExpiry,
    dueTimer now s.bcu.loadTimer .loadTimerExpiry, dueTimer now s.bcu.retryTimer .testRetryExpiry,
    dueTimer now s.tgt.ackTimer .ackTimerExpiry]

/-- The timers of the link, the queue, the restoration logic and the time base. -/
def State.dueLink (s : State) : List (Option Instr) :=
  let now := s.now
  [s.lnk.access.slotRow.bind (dueTimer now s.lnk.slot),
    dueTimer now s.lnk.sendTimer .sendEnd, dueTimer now s.lnk.warmUp .warmUpExpiry,
    dueTimer now (s.lnk.reception.map Reception.gap) .receptionGapExpiry,
    dueWindow now s.lnk.power s.lnk.cycle, dueTimer now s.lnk.holdLimit .listenHoldLimit,
    dueTimer now s.lnk.quiet .quietTimerExpiry, dueTimer now s.lnk.link .linkTimerExpiry,
    dueTimer now (s.txq.ageingPickup.map fun e => ⟨e.joinTime, 1000⟩) .pickupLifeExpiry,
    dueTimer now s.txq.period .statusPeriodExpiry,
    s.rsl.state.timerRow.bind (dueTimer now s.rsl.timer),
    dueTimer now s.rsl.storeWait .rslStoreWaitExpiry,
    dueIf (1000 ≤ ageOf now s.clock.lastSecond) .timeBaseSecond]

/-- The first event that has fallen due. -/
def State.due (s : State) : Option Instr := (s.dueArrivals ++ s.dueTimers ++ s.dueLink).findSome? id

/-! ### The idle step -/

/-- One ms of uptime passes (R184). -/
def State.tick (s : State) : State := { s with clock := { s.clock with uptime := s.clock.uptime + 1 } }

/-- What the part does with no command waiting: nothing before BRING-UP, otherwise the first due event
comes to the front of the queue, or a ms passes (log entry 11). -/
def State.idle (s : State) : State :=
  if s.up then
    match s.due with
    | some c => { s with pending := [c] }
    | none => s.tick
  else s

end Sys2Proof.Machine
end

