-- ==== Sys2Proof/Safety.lean ====
section
/-! DEFINITION. What a sound state is: the laws the chapters state over every event.

Each predicate is a law that the manual states, or the consistency that its steps leave behind them.
Claims take them as premises and as conclusions. -/

namespace Sys2Proof.Safety

open Sys2Proof.Machine

/-! ### What every event leaves settled -/

/-- The blocks that look at the end of an event have nothing left to do: the inhibit reason is formed
(R165), no exit of the restoration state is open (R167, R170, R174), the store wait stands only in a
class that allows it (R171), no test runs on past an abort condition (R97), the charger is assigned
(R75, R76), and a reception is in progress only while the part listens (R107). -/
def Settled (s : State) : Prop :=
  s.rsl.inhibit = s.formInhibit ∧ s.rslExits = s ∧
    (s.classAllowsRestore = true ∨ s.rsl.storeWait = none) ∧
    (s.bcu.test = none ∨ s.abortHolds = false) ∧ s.chargerReview = s ∧
    (s.lnk.listenEnable = true ∨ s.lnk.reception = none)

/-- A part that is up is settled; before BRING-UP nothing is asked. -/
def SettledWhenUp (s : State) : Prop := s.up = true → Settled s

/-! ### The transmit queue (R122, R124) -/

/-- The order of the list: by priority, and within one priority by join order (R124). -/
def before (a b : Entry) : Prop := a.priority < b.priority ∨ (a.priority = b.priority ∧ a.order < b.order)

/-- The transmit queue holds at most 8 entries, at most one STATUS and at most one BATTERY_REPORT, in its
order, each with a place of its own among the joins (R122, R124). -/
def QueueSound (s : State) : Prop :=
  s.txq.entries.length ≤ 8 ∧ (s.txq.entries.filter Entry.isStatus).length ≤ 1 ∧
    (s.txq.entries.filter Entry.isBattery).length ≤ 1 ∧ s.txq.entries.Pairwise before ∧
    (s.txq.entries.map Entry.order).Nodup ∧ ∀ e ∈ s.txq.entries, e.order < s.txq.nextOrder

/-! ### Tags and peers (R137, R152) -/

/-- Whether a scope is the station or a segment of 1..31 (R152). -/
def scopeFits : Scope → Bool
  | .station => true
  | .segment g => 1 ≤ g && g ≤ 31

/-- Whether a tag record holds what R152 gives it. -/
def TagSound (t : TagRecord) : Prop := 1 ≤ t.crew ∧ t.crew ≤ 4095 ∧ scopeFits t.scope = true

/-- At most 4 radio tags, at most one per crew id, each a record of R152. -/
def TagsSound (s : State) : Prop :=
  s.rtm.items.tags.length ≤ 4 ∧ (s.rtm.items.tags.map TagRecord.crew).Nodup ∧
    ∀ t ∈ s.rtm.items.tags, TagSound t

/-- At most 12 peers, one entry per station id, ids 1..15, and none with the own id (R137). -/
def PeersSound (s : State) : Prop :=
  s.pvt.length ≤ 12 ∧ (s.pvt.map PeerEntry.id).Nodup ∧
    ∀ e ∈ s.pvt, 1 ≤ e.id ∧ e.id ≤ 15 ∧ s.stl.image.stationId ≠ some e.id

/-! ### Retained Memory, charge and shots (R38, R86, R185) -/

/-- While the part is up, the check over the retained items agrees with the integrity word (R185, R186). -/
def RetainedSound (s : State) : Prop := s.up = true → s.rtm.agrees = true

/-- While the part is up, Q lies in 0..Qcap (R86). -/
def ChargeSound (s : State) : Prop := s.up = true → s.rtm.items.q ≤ s.stl.tables.qcap

/-- The shot lies in 0..L (R38). -/
def ShotSound (s : State) : Prop := s.sqc.shot ≤ s.stl.image.l

/-! ### Accumulators (R32) -/

/-- An accumulator lies in 0..65,536, and in 0..65,535 while a hold is in force (R32). -/
def AccumulatorSound (t : Toc) : Prop := t.acc ≤ 65536 ∧ (t.hold ≠ none → t.acc ≤ 65535)

/-- All four accumulators (R32). -/
def AccumulatorsSound (s : State) : Prop :=
  AccumulatorSound s.peu.toc.ia ∧ AccumulatorSound s.peu.toc.ib ∧ AccumulatorSound s.peu.toc.ic ∧
    AccumulatorSound s.peu.toc.ig

/-! ### The radio (R112, R114, R119) -/

/-- The radio is OFF until a class is decided and in CUTOFF, a radio that is OFF has no access and no
pending power state, a power state is pending only while a send runs, and a send runs only with the
selected entry in flight (R112, R114, R119). -/
def RadioSound (s : State) : Prop :=
  ((s.bcu.cls = none ∨ s.bcu.cls = some .cutoff) → s.lnk.power = .off) ∧
    (s.lnk.power = .off → s.lnk.access = .idle ∧ s.lnk.pendingPower = none) ∧
    s.lnk.pendingPower ≠ some .off ∧ (s.lnk.pendingPower ≠ none → s.lnk.access = .sending) ∧
    (s.lnk.access = .sending → s.selectedEntry.any Entry.inFlight = true)

/-! ### The battery and the stores (R75, R84) -/

/-- The duty is a byte, and 0 in OFF and in TEST, where the test load is on (R82 to R84); the charger is in
OFF exactly without supply, and in TEST exactly while a test runs, with its load timer (R80, R83, R93,
R95). -/
def ChargerSound (s : State) : Prop :=
  s.bcu.duty ≤ 255 ∧ (s.bcu.mode = .off ∨ s.bcu.testLoad = true → s.bcu.duty = 0) ∧
    (s.bcu.mode = .off ↔ s.bcu.supplyOk = false) ∧ (s.bcu.mode = .test ↔ s.bcu.test.isSome = true) ∧
    (s.bcu.loadTimer.isSome = true ↔ s.bcu.test.isSome = true)

/-- A store whose enable is on has been read and is in CHARGING or in a retry charge (R74, R75, R77). -/
def StoreSound (t : Store) : Prop :=
  t.enable = true →
    t.ready.isSome = true ∧ (t.state = .charging ∨ (t.state = .fault ∧ t.retry = none))

/-- The capacitor charger serves at most one store (R75), and a trip operation waits in STORE_WAIT only
while the trip store is not READY (R67, R68). -/
def StoresSound (s : State) : Prop :=
  StoreSound s.mdu.trip ∧ StoreSound s.mdu.close ∧
    ¬(s.mdu.trip.enable = true ∧ s.mdu.close.enable = true) ∧
    ((s.mdu.op = .trip .storeWait .first ∨ s.mdu.op = .trip .storeWait .second) →
      s.mdu.trip.state ≠ .ready)

/-! ### The position (R64) -/

/-- The position-fault timer runs only outside an operation and in UNKNOWN, and a stay counts as reported
only in UNKNOWN (R64). -/
def PositionSound (s : State) : Prop :=
  (s.mdu.faultTimer ≠ none → s.mdu.op = .idle ∧ s.mdu.position = some .unknown) ∧
    (s.mdu.faultReported = true → s.mdu.position = some .unknown)

/-! ### All of them -/

/-- Every law above. -/
structure Sound (s : State) : Prop where
  settled : SettledWhenUp s
  queue : QueueSound s
  tags : TagsSound s
  peers : PeersSound s
  retained : RetainedSound s
  charge : ChargeSound s
  shot : ShotSound s
  accumulators : AccumulatorsSound s
  radio : RadioSound s
  charger : ChargerSound s
  stores : StoresSound s
  position : PositionSound s

end Sys2Proof.Safety
end

