-- ==== Sys2Proof/Certificates/Slice0/Obligations.lean ====
section
/-! DEFINITION. The statements for the provers.

Each says what a command, an operation or every step does, in the manual's terms.  The file is in six
parts: the shape of the machine, the laws every step keeps, the rules over the whole part, and then the
commands block by block.  What a command does is given as the whole next state, so that its frame is
part of the statement: what the next state does not name is unchanged. -/

namespace Sys2Proof.Claims

open Sys2Proof.Machine Sys2Proof.Safety

/-! ### Premises -/

/-- The part is up, and the last event has left it settled: `SettledHolds` says that every step keeps
this. -/
def Calm (s : State) : Prop := s.up = true ∧ Settled s

/-- A calm station without a restoration role, with no test in progress and no byte of a frame half
received: nothing but the command's own block acts. -/
def Plain (s : State) : Prop :=
  Calm s ∧ s.stl.image.role = .none ∧ s.rsl.state = .watch ∧ s.rsl.storeWait = none ∧
    s.bcu.test = none ∧ s.lnk.reception = none

/-- Close-store charging does not hang on the close demand now: none is set, or the class is not
PROTECT_ONLY (R76). -/
def Indifferent (s : State) : Prop := s.closeDemand = false ∨ s.bcu.cls ≠ some .protectOnly

/-- A trip of the SQC can be taken: CLOSED, RECLAIM or CLOSING, and no trip operation in flight (R41, R51). -/
def MayTrip (s : State) : Prop :=
  (s.sqc.state = some .closed ∨ s.sqc.state = some .reclaim ∨ s.sqc.state = some .closing) ∧
    s.mdu.tripping = false ∧ s.sqc.demandTimer = none

/-- The eight preconditions of a test (R93): none running, SUPPLY_OK, FLOAT for 3,600 s or more, CLOSED, no pickup,
the class NORMAL, both stores READY, the capacitor charger not busy. -/
abbrev TestMayBegin (s : State) : Prop :=
  s.bcu.test = none ∧ s.bcu.supplyOk = true ∧ s.bcu.mode = .float ∧ 3600 ≤ s.bcu.floatSeconds ∧
    s.sqc.state = some .closed ∧ s.peu.anyPickup = false ∧ s.bcu.cls = some .normal ∧
    s.mdu.trip.state = .ready ∧ s.mdu.close.state = .ready ∧ s.mdu.trip.enable = false ∧
    s.mdu.close.enable = false

/-- DEAD or ENERGY_WAIT (R49, R50). -/
abbrev Waiting (s : State) : Prop := s.sqc.state = some .dead ∨ s.sqc.state = some .energyWait

/-- Whether a command is part of a start (R178, R179). -/
def ofStart : Instr → Bool
  | .restartInput _ => true
  | .supplyReturn _ => true
  | .settingsWordRead _ => true
  | .settingsWordTimeout => true
  | _ => false

/-! ### Next states that several statements name -/

/-- The hand-offs on their way to the SQC, replaced. -/
def withReports (s : State) (rs : List Report) : State :=
  { s with transit := { s.transit with reports := rs } }

/-- LOCKOUT entered with a cause: the timers of the dead states and of RECLAIM stopped, the close source
removed, the element state cleared, and then the SEQ_EVENT LOCKOUT asked for (R20, R40). -/
def lockedOut (s : State) (c : Cause) : State :=
  State.askSeqEvent
    { s with
      sqc := { s.sqc with
        state := some .lockout, cause := some c, closeSource := none, deadTimer := none,
        ewaitTimer := none, reclaimTimer := none },
      peu := Peu.start } .lockout

/-- STUCK entered with a cause: every timer stopped, the close source and the operation cause removed, the
element state cleared, the SEQ_EVENT STUCK asked for, and the inhibit reason formed anew (R58, R165). -/
def stuckIn (s : State) (c : Cause) : State :=
  let t := State.askSeqEvent
    { s with
      sqc := { s.sqc with
        state := some .stuck, cause := some c, closeSource := none, opCause := none,
        deadTimer := none, ewaitTimer := none, reclaimTimer := none, demandTimer := none },
      peu := Peu.start } .stuck
  { t with
    rsl := { t.rsl with
      inhibit := some (if s.stl.fault.isSome then .settings
        else if s.lnk.idClash then .idClash else .stuck) } }

/-- RECLAIM entered with a shot: the cause and the close source removed, the reclaim timer started at
t_reclaim (R46, R47, R57). -/
def reclaiming (s : State) (shot : Nat) : State :=
  { s with
    sqc := { s.sqc with
      state := some .reclaim, cause := none, shot := shot, closeSource := none, deadTimer := none,
      ewaitTimer := none, demandTimer := none,
      reclaimTimer := some ⟨s.now, 1000 * s.stl.image.tReclaim⟩ } }

/-- CLOSING entered with a source and the close coil driven: the 100 ms pulse limit and the drive start at
the present uptime (R44, R52, R70).  The shot stands, at L too where the close is taken in a LOCKOUT whose shot is
L (DESIGN CHOICE, log entry 53). -/
def closing (s : State) (src : CloseSource) : State :=
  { s with
    sqc := { s.sqc with
      state := some .closing, cause := none, closeSource := some src, deadTimer := none,
      ewaitTimer := none, reclaimTimer := none, demandTimer := none },
    mdu := { s.mdu with
      op := .close, opTimer := some ⟨s.now, 100⟩, driveStart := some s.now, faultTimer := none } }

/-- TRIPPING entered with a cause and a shot, the record formed, and the trip operation taken: DRIVE with
the trip store READY, otherwise STORE_WAIT (R41, R42, R67). -/
def tripTaken (s : State) (cause : OpCause) (shot : Nat) (elements : ElementSet) (rms : Ch4 Nat) : State :=
  { s with
    sqc := { s.sqc with
      state := some .tripping, cause := none, shot := shot, opCause := some cause,
      record := some ⟨shot, cause, elements, rms, s.now, none⟩, closeSource := none,
      deadTimer := none, ewaitTimer := none, reclaimTimer := none, demandTimer := none },
    mdu := { s.mdu with
      op := .trip (if s.mdu.trip.isReady then .drive else .storeWait) .first,
      opTimer := some ⟨s.now, if s.mdu.trip.isReady then 60 else 2000⟩,
      driveStart := if s.mdu.trip.isReady then some s.now else none,
      opCause := some cause,
      wear := if cause = .protection then some (max rms.ia (max rms.ib rms.ic)) else none,
      faultTimer := none } }

/-- The first position taken, the contacts as given in `m`: the start state and its cause, the element state
cleared outside CLOSED, and in STUCK every timer stopped (R20, R58, R61, R63, R64). -/
def firstTaken (s : State) (m : Mdu) (p : Position) : State :=
  let stuck : Bool := p = .unknown
  { s with
    mdu := { m with
      position := some p,
      lastEnd := if p = .opened then some .opened else if p = .closed then some .closed else m.lastEnd,
      faultTimer := if stuck then m.faultTimer else none, faultReported := stuck },
    sqc := { s.sqc with
      state := some (if p = .opened then .lockout else if p = .closed then .closed else .stuck),
      cause := if p = .opened then some (if s.stl.image.role = .tie then .tieOpen else .restart)
        else if p = .closed then none else some .position,
      deadTimer := if stuck then none else s.sqc.deadTimer,
      ewaitTimer := if stuck then none else s.sqc.ewaitTimer,
      reclaimTimer := if stuck then none else s.sqc.reclaimTimer,
      demandTimer := if p = .opened then s.sqc.demandTimer else none,
      closeSource := if stuck then none else s.sqc.closeSource,
      opCause := if stuck then none else s.sqc.opCause },
    peu := if p = .closed then s.peu else Peu.start }

/-- An ACCEPTED frame taken from the receptions in transit: counted as good, and the link timer started at
300 s at its arrival time (R108, R109). -/
def heard (s : State) (r : EndedReception) (rest : List EndedReception) : State :=
  { s with
    lnk := { s.lnk with good := min 255 (s.lnk.good + 1), link := some ⟨r.arrival, 300000⟩ },
    transit := { s.transit with receptions := rest } }

/-- The oldest reception in transit is an ACCEPTED crew request of a kind, acted on (R108, R156). -/
def RequestArrives (s : State) (k : RequestKind) (q : CrewRequest) (r : EndedReception)
    (rest : List EndedReception) : Prop :=
  s.transit.receptions = r :: rest ∧ s.classOf r = .accepted (.request q) ∧ q.kind = k ∧
    q.actedOn s.stl.image = true

/-- The oldest reception in transit is an ACCEPTED frame (R108). -/
def FrameArrives (s : State) (f : Frame) (r : EndedReception) (rest : List EndedReception) : Prop :=
  s.transit.receptions = r :: rest ∧ s.classOf r = .accepted f

/-- The oldest reception in transit is an ACCEPTED frame of a kind (R108). -/
def heardFrame (s : State) (p : Frame → Prop) : Prop :=
  ∃ r ∈ s.transit.receptions.head?, ∃ f, s.classOf r = .accepted f ∧ p f

/-- The oldest reception in transit is an ACCEPTED crew request of a kind, acted on (R108, R156). -/
def heardRequest (s : State) (k : RequestKind) : Prop :=
  heardFrame s fun f => ∃ q, f = .request q ∧ q.kind = k ∧ q.actedOn s.stl.image = true

/-- A timer runs and has run its length by the present uptime. -/
def hasRun (s : State) (t : Option Timer) : Prop := ∃ x ∈ t, x.ms ≤ ageOf s.now x.start

/-- The peer table after a frame of a station the table knows or has room for (R137). -/
def peersAfter (s : State) (id : Nat) (arrival : Uptime) (f : PeerEntry → PeerEntry) : List PeerEntry :=
  if s.pvt.any (fun e => e.id = id) then
    s.pvt.map fun e => if e.id = id then f { e with lastHeard := arrival } else e
  else
    s.pvt ++ [f ⟨id, arrival, none, none, none, none, none, none, none, none⟩]


/-- The row that takes a station's frame, its sender's station id, and what the frame sets in the sender's
entry at its arrival (R137 to R141). -/
def carries (arrival : Uptime) : Frame → Option (Instr × Nat × (PeerEntry → PeerEntry))
  | .status id c => some (.receiveStatus, id, fun e =>
      { e with
        segments := some c.segments, role := some c.role, state := c.state, cause := c.cause,
        position := c.position, tags := some c.tags })
  | .pickup id g _ => some (.receivePickup, id, fun e =>
      { e with segments := some g, lastPickup := some arrival })
  | .seqEvent id c => some (.receiveSeqEvent, id, fun e =>
      { e with
        lastEvent := some ⟨c.kind, arrival⟩, state := c.state, cause := c.cause,
        position := c.position })
  | .tagNotice id x => some (.receiveTagNotice, id, fun e => { e with tags := some x })
  | .report id => some (.receivePeerReport, id, fun e => e)
  | .request _ => none

/-- The LNK senses with an entry selected: with BUSY active it defers in SENSE with a pacing counter of 15, else
the entry goes in flight with its frame formed, for b × 1.0417 ms rounded up to a whole ms (R115, R103;
the rounding is the model's choice, log entry 50). -/
def sensing (s : State) (e : Entry) : State :=
  if s.lnk.busy then
    { s with lnk := { s.lnk with access := .sense, slot := none, pacing := 15 } }
  else
    { s with
      txq := { s.txq with
        entries := s.txq.entries.map fun x =>
          if x.order = e.order then { x with inFlight := true } else x },
      lnk := { s.lnk with
        access := .sending, slot := none, collide := false, outFrame := s.frameFor e.content,
        sendTimer := some ⟨s.now, ((s.frameFor e.content).length * 25 + 23) / 24⟩,
        good := if e.isStatus then 0 else s.lnk.good,
        bad := if e.isStatus then 0 else s.lnk.bad } }

/-- The LNK without an access. -/
def freed (l : Lnk) : Lnk := { l with access := .idle, selected := none, slot := none }

/-- The quiet timer after a PICKUP: a quiet time larger than the remaining time starts it at the frame's arrival,
and a selected entry of priority 2 or 3 in GAP, SENSE or BACKOFF is returned at that event, the search made;
otherwise it runs on as it is (R121). -/
def quietStarted (s : State) (arrival : Uptime) (ms : Nat) : State :=
  let left := match s.lnk.quiet with
    | some q => q.ms - ageOf arrival q.start
    | none => 0
  let held : Bool := (s.lnk.access = .gap || s.lnk.access = .sense || s.lnk.access = .backoff) &&
    s.selectedEntry.any fun e => 2 ≤ e.priority
  let started := { s.lnk with quiet := some ⟨arrival, ms⟩ }
  if ms ≤ left then s
  else if held then State.search { s with lnk := freed started }
  else { s with lnk := started }

/-- The status period timer started with a new draw: P + j in NORMAL, 4P + j in ECONOMY, j from the register after
its advance; in the other classes there is no period (R132, R117). -/
def periodStarted (s : State) : State :=
  let p := if s.bcu.cls = some .normal then s.stl.image.statusPeriod else 4 * s.stl.image.statusPeriod
  if s.bcu.cls = some .normal ∨ s.bcu.cls = some .economy then
    { s with
      lnk := { s.lnk with rng := rngNext s.lnk.rng },
      txq := { s.txq with
        period := some ⟨s.now, 1000 * (p + (rngNext s.lnk.rng).toNat % (p / 10 + 1))⟩ } }
  else s

/-- An entry that its send leaves in the list, with its attempt count: no longer in flight, a STATUS with the
reasons owed added to its own, a BATTERY_REPORT with the pending report as its content (R116, R126, R127). -/
def staying (s : State) (e : Entry) (attempts : Nat) : Entry :=
  { e with
    inFlight := false, attempts := attempts,
    content := match e.content, s.txq.owed, s.txq.pendingReport with
      | .status q, some o, _ => .status
          { period := q.period || o.period, start := q.start || o.start,
            seqEvent := q.seqEvent || o.seqEvent, tagChange := q.tagChange || o.tagChange,
            crew := q.crew || o.crew, overflow := q.overflow || o.overflow }
      | .battery _, _, some b => .battery b
      | c, _, _ => c }

/-- The queue with that entry in its place, what it took in being owed no longer (R126, R127). -/
def keeping (s : State) (e : Entry) (attempts : Nat) : Txq :=
  { s.txq with
    entries := s.txq.entries.map fun x => if x.order = e.order then staying s e attempts else x,
    owed := if e.isStatus then none else s.txq.owed,
    pendingReport := if e.isBattery then none else s.txq.pendingReport }

/-- The queue without an entry whose send has ended, the LNK given: the reasons owed join after a STATUS, the
pending report after a BATTERY_REPORT (R126, R127). -/
def departed (s : State) (e : Entry) (l : Lnk) : State :=
  let gone : State := { s with
    txq := { s.txq with entries := s.txq.entries.filter fun x => x.order ≠ e.order }, lnk := l }
  match e.content, s.txq.owed, s.txq.pendingReport with
  | .status _, some q, _ => { gone with txq := { gone.txq with owed := none } }.join (.status q)
  | .battery _, _, some b => { gone with txq := { gone.txq with pendingReport := none } }.join (.battery b)
  | _, _, _ => gone

/-- The handling of a send that ends (R116): a clean one leaves, a STATUS starting the period anew; a collided one
leaves at its attempt limit, and else stays, returned with no draw where the quiet timer holds its priority, or
with its backoff drawn: a PICKUP whose life is over leaves, an entry of priority 2 or 3 behind a priority-0
frame is returned, and any other waits in BACKOFF (R118, R120, R121, R128, R132; the returns and the leaving
after the draw are DEDUCED, log entries 25 and 26). -/
def sendHandled (s : State) (e : Entry) : State :=
  let n := e.attempts + 1
  let w := if e.priority = 0 then min n 2 else min (n + 2) 6
  let k := (rngNext s.lnk.rng).toNat % 2 ^ w
  let spent : State := { s with lnk := { s.lnk with sendTimer := none, outFrame := [], pacing := 15 } }
  let drawn := { spent.lnk with rng := rngNext s.lnk.rng }
  let free := fun t : State => { t with lnk := freed t.lnk }
  if s.lnk.collide = false then
    let t := if e.isStatus then periodStarted s else s
    free (departed t e { t.lnk with
      sendTimer := none, outFrame := [], pacing := s.lnk.pacing - 1 })
  else if (if e.priority = 0 then 8 else 5) ≤ n then free (departed s e spent.lnk)
  else if s.lnk.quiet ≠ none ∧ 2 ≤ e.priority then free { spent with txq := keeping s e n }
  else if e.lifeOver then
    free { spent with
      txq := { keeping s e n with entries := s.txq.entries.filter fun x => x.order ≠ e.order },
      lnk := drawn }
  else if 2 ≤ e.priority ∧ ∃ x ∈ s.txq.entries, x.priority = 0 then
    free { spent with txq := keeping s e n, lnk := drawn }
  else
    { spent with
      txq := keeping s e n, lnk := { drawn with access := .backoff, slot := some ⟨s.now, 10 * k⟩ } }

/-- The pending radio power state applied after a send, the radio on and warm: a state other than the one in force
begins its listening, with a window open in DUTY and SPARSE, and an entry in BACKOFF that SPARSE does not select
is returned; the state in force leaves its listen cycle as it stands (R112, R113, R116, R119; that it does is
DESIGN CHOICE, log entry 45). -/
def powered (s : State) : State :=
  let p := s.lnk.pendingPower.getD s.lnk.power
  let l := { s.lnk with pendingPower := none }
  let changed := { l with
    power := p, holdLimit := none,
    cycle := if p = .duty ∨ p = .sparse then some ⟨true, s.now⟩ else none }
  if p = s.lnk.power then { s with lnk := l }
  else if p = .sparse ∧ s.selectedEntry.any (fun e => 2 ≤ e.priority) = true then
    { s with lnk := freed changed }
  else { s with lnk := changed }

/-- The RSL returned to WATCH (R164, R175). -/
def rearmed (r : Rsl) : Rsl :=
  { r with state := .watch, timer := none, expired := false, fallbackDue := false, storeWait := none }

/-- The dead segment of a side of a tie (R171). -/
def segmentOf (c : Settings) (side : Side) : Nat := if side = .up then c.sUp else c.sDn

/-- The answer on the feeding peer of a segment; segment 0 is the substation bus (R168, R172). -/
def feeding (s : State) (g : Nat) : Feeding := if g = 0 then .absent else s.feedingPeer g

/-- R172's finding of consent: the feeding peer in LOCKOUT(RESTORE_OPEN), open; or SILENT or ABSENT with the
fallback on and due. -/
def consents (fallback due : Bool) : Feeding → Bool
  | .fresh e => e.state = some .lockout && e.cause = some .restoreOpen && e.position = some .opened
  | .silent _ => fallback && due
  | .absent => fallback && due

/-- A FRESH feeding peer in LOCKOUT(PROTECTION) (R168, R172). -/
def faulted : Feeding → Bool
  | .fresh e => e.state = some .lockout && e.cause = some .protection
  | .silent _ => false
  | .absent => false

/-- Steps 2 to 4 of R171: no tag of its own or of a FRESH peer of the segment, HANDLE up, and the class NORMAL
or ECONOMY. -/
def passes (s : State) (g : Nat) : Bool :=
  !s.tagHold && (g = 0 || s.taggingPeers g = []) && !s.mdu.handleDown &&
    (s.bcu.cls = some .normal || s.bcu.cls = some .economy)

/-- The number of the highest breakpoint that does not exceed `mq`, breakpoint 0 below them all (R23, R24). -/
def breakpointOf (mq : Nat) : Nat :=
  if mq < 24 then 0 else if mq < 32 then 1 else if mq < 48 then 2 else if mq < 64 then 3
  else if mq < 96 then 4 else if mq < 128 then 5 else if mq < 192 then 6 else if mq < 320 then 7 else 8

/-- While the part is up both curves have nine rates of 1..65,536, none below the one before it (R23, R183). -/
def RatesSound (s : State) : Prop :=
  s.up = true → ∀ l ∈ [s.stl.tables.fastRates, s.stl.tables.delayedRates],
    l.length = 9 ∧ (∀ r ∈ l, 1 ≤ r ∧ r ≤ 65536) ∧ l.Pairwise (· ≤ ·)

/-- The end of a dead time: LOCKOUT with the cause of the first condition that shuts the gate, else the automatic
close with the store READY, LOCKOUT with ENERGY at t_ewait 0, and ENERGY_WAIT otherwise (R44, R48). -/
def deadTimeEnded (s : State) : State :=
  if s.tagHold then lockedOut s .tag
  else if s.mdu.handleDown then lockedOut s .handle
  else if s.bcu.cls = some .cutoff then lockedOut s .energy
  else if s.mdu.close.state = .ready then closing s .auto
  else if s.stl.image.tEwait = 0 then lockedOut s .energy
  else
    { s with
      sqc := { s.sqc with
        state := some .energyWait, cause := none, deadTimer := none,
        ewaitTimer := some ⟨s.now, 1000 * s.stl.image.tEwait⟩ },
      peu := Peu.start }

/-- The one trip operation that a TRIP asks for in STUCK: the attempt set, the record formed, the operation taken
(R58). -/
def stuckTrip (s : State) (c : OpCause) (rms : Ch4 Nat) : State :=
  { s with
    sqc := { s.sqc with
      stuckAttempt := true, opCause := some c,
      record := some ⟨s.sqc.shot, c, ⟨Ch4.all false, Ch4.all false⟩, rms, s.now, none⟩ },
    mdu := (tripTaken s c s.sqc.shot ⟨Ch4.all false, Ch4.all false⟩ rms).mdu }

/-- The close-demand timer started at 60 s (R53). -/
def demandStarted (s : State) : State :=
  { s with sqc := { s.sqc with demandTimer := some ⟨s.now, 60000⟩ } }

/-- The check of a midpoint in TIMING with the expired mark set, the table as it stands after the event `t`: it
opens on a FRESH feeding peer in LOCKOUT(PROTECTION) and on silence with the fallback on, with the class decided
and not CUTOFF, and else stays as it is (R168). -/
def MidpointChecked (s t : State) : Prop :=
  let answer := feeding t s.stl.image.sUp
  let opens : Bool := (match answer with
    | .fresh _ => faulted answer
    | .silent _ => s.stl.image.fallbackVoltage
    | .absent => s.stl.image.fallbackVoltage) && s.bcu.cls ≠ none && s.bcu.cls ≠ some .cutoff
  if opens then
    t.rsl = { s.rsl with state := .opened, timer := none, storeWait := none } ∧
      t.sqc.state = some .tripping ∧ t.sqc.opCause = some .restoreOpen
  else t.rsl = s.rsl ∧ t.sqc = s.sqc

/-- The check of a tie in TIMING with the expired mark set, the table as it stands after the event `t`: a faulted
finding inhibits; a check that passes closes with the store READY, and else goes on with its store wait, starts
one, or inhibits at t_ewait 0; one that does not pass stops the store wait (R171 to R173). -/
def TieChecked (s t : State) (side : Side) : Prop :=
  let g := segmentOf s.stl.image side
  let goes := consents s.stl.image.fallbackVoltage s.rsl.fallbackDue (feeding t g) &&
    passes { s with pvt := t.pvt } g
  let begins := !faulted (feeding t g) && goes && s.mdu.close.state = .ready
  t.sqc = (if begins then (closing s .restore).sqc else s.sqc) ∧
  (begins = true → t.mdu.op = .close) ∧
  t.rsl =
    (if faulted (feeding t g) then
      { s.rsl with state := .inhibited .faultedSegment, timer := none, storeWait := none }
    else if goes then
      if s.mdu.close.state = .ready then
        { s.rsl with state := .restored, timer := none, storeWait := none }
      else if s.rsl.storeWait ≠ none then s.rsl
      else if s.stl.image.tEwait = 0 then
        { s.rsl with state := .inhibited .store, timer := none }
      else { s.rsl with storeWait := some ⟨s.now, 1000 * s.stl.image.tEwait⟩ }
    else { s.rsl with storeWait := none })

/-- What follows an event of the sequence at a station of any role, beside a test or none: the sequence, the
operation, the elements, the hand-offs and the retained items are those of `x`, which the event alone would
leave; a test in progress whose conditions have gone is ABORTED (R97); without one the queue is that of `x`
too, and with no byte of a frame half received so are the link and the receptions on their way.  What the
restoration logic makes of the new state, and how the charger of the stores is assigned, is said by other
statements. -/
def SameSequence (s t x : State) : Prop :=
  t.sqc = x.sqc ∧ t.mdu = { x.mdu with trip := t.mdu.trip, close := t.mdu.close } ∧ t.peu = x.peu ∧
    t.transit.reports = x.transit.reports ∧ t.sfe = s.sfe ∧ t.pvt = s.pvt ∧ t.tgt = s.tgt ∧
    t.stl = s.stl ∧ t.rtm = s.rtm ∧ t.clock = s.clock ∧
    (s.bcu.test = none → t.txq = x.txq ∧ t.bcu = s.bcu ∧
      (s.lnk.reception = none → t.lnk = x.lnk ∧ t.transit = x.transit)) ∧
    (s.bcu.test ≠ none → x.sqc.state ≠ some .closed →
      t.bcu.test = none ∧ t.bcu.latestAttempt = some .aborted ∧
        t.bcu.retryTimer = some ⟨s.now, 3600000⟩ ∧ t.bcu.mode = .bulk ∧ t.bcu.duty = 0)

/-! ### The shape of the machine -/

/-- A step runs the command at the front of the queue on the state with the queue's rest. -/
def StepRunsFrontCommand : Prop :=
  ∀ (c : Instr) (s : State) (rest : List Instr),
    step { s with pending := c :: rest } = exec c { s with pending := rest }

/-- Every command completes in every state, and none touches the queue of waiting commands: the part
"refuses nothing" as a step, and a request it will not grant is answered, not stopped. -/
def EveryCommandCompletes : Prop :=
  ∀ (c : Instr) (s : State), ∃ t, exec c s = .next t ∧ t.pending = s.pending

/-- R178, R187: the blocks take their start state at BRING-UP, so before it a command that is no part of a
start changes nothing but the level of the BUSY line (the line's level is the model's own field, log
entries 3 and 5). -/
def NothingBeforeBringUp : Prop :=
  ∀ (c : Instr) (s : State), s.up = false → ofStart c = false →
    ∃ t, exec c s = .next t ∧ { t with lnk := { t.lnk with busy := s.lnk.busy } } = s ∧
      ((∀ b, c ≠ .busyChange b) → t = s)

/-- The model's own idle step (DESIGN CHOICE, log entry 11): with no command waiting, a part that is up
with nothing due lets 1 ms of uptime pass, an event that has fallen due comes to the front of the
queue, and before BRING-UP nothing happens. -/
def IdleStep : Prop :=
  ∀ s : State, s.pending = [] →
    step s = .next (if s.up then
      (match s.due with
       | some c => { s with pending := [c] }
       | none => { s with clock := { s.clock with uptime := s.clock.uptime + 1 } })
      else s)

/-- When an event of the part falls due: an arrival in front of its way, a count at its limit, a timer that has run
its length, the listen window 250 ms after it opened and the next one 2 s or 30 s after it (R113), the life of
the oldest PICKUP (R128), 1,000 ms without a first position (R63), and 1,000 ms of the time base (R184).  A row
that stands for something from outside never falls due. -/
def FallsDue (s : State) : Instr → Prop
  | .decimatedSample => 256 ≤ s.sfe.bitCount
  | .halfCycleUpdate => s.stl.tables.w / 2 ≤ s.sfe.halfCount
  | .oneSecondUpdate => 2400 ≤ s.sfe.batCount
  | .dayRollover => 86400 ≤ s.bcu.daySeconds
  | .tripRequest => ∃ r, s.transit.reports.head? = some (.tripRequest r)
  | .sequenceStep => ∃ u, s.transit.reports.head? = some (.sequenceStep u)
  | .openConfirmation => ∃ ms, s.transit.reports.head? = some (.openConfirmation ms)
  | .tripFail => s.transit.reports.head? = some .tripFail
  | .closeConfirmation => s.transit.reports.head? = some .closeConfirmation
  | .closeFail => s.transit.reports.head? = some .closeFail
  | .unsolicitedOpen => ∃ h, s.transit.reports.head? = some (.unsolicitedOpen h)
  | .unsolicitedClose => s.transit.reports.head? = some .unsolicitedClose
  | .positionFault => s.transit.reports.head? = some .positionFault
  | .receiveStatus => heardFrame s fun f => ∃ id c, f = .status id c
  | .receivePickup => heardFrame s fun f => ∃ id g q, f = .pickup id g q
  | .receiveSeqEvent => heardFrame s fun f => ∃ id c, f = .seqEvent id c
  | .receiveTagNotice => heardFrame s fun f => ∃ id x, f = .tagNotice id x
  | .receivePeerReport => heardFrame s fun f => ∃ id, f = .report id
  | .crewTagPlace => heardRequest s .tagPlace
  | .crewTagRemove => heardRequest s .tagRemove
  | .crewClearUnknown => heardRequest s .clearUnknown
  | .crewTrip => heardRequest s .trip
  | .crewClose => heardRequest s .close
  | .crewStatusNow => heardRequest s .statusNow
  | .crewBatteryTest => heardRequest s .batteryTest
  | .crewRequestNotActedOn =>
    heardFrame s fun f => ∃ q, f = .request q ∧ q.actedOn s.stl.image = false
  | .frameRejected => ∃ r ∈ s.transit.receptions.head?, ∀ f, s.classOf r ≠ .accepted f
  | .firstPositionTimeout => s.mdu.position = none ∧ 1000 ≤ s.now.toNat
  | .pulseLimitExpiry => hasRun s s.mdu.opTimer ∧ s.mdu.op ≠ .close ∧
      ∀ a, s.mdu.op ≠ .trip .storeWait a
  | .storeWaitExpiry => hasRun s s.mdu.opTimer ∧ ∃ a, s.mdu.op = .trip .storeWait a
  | .closePulseLimitExpiry => hasRun s s.mdu.opTimer ∧ s.mdu.op = .close
  | .positionFaultTimerExpiry => hasRun s s.mdu.faultTimer
  | .chargeLimitExpiry id => hasRun s (s.mdu.store id).limit
  | .retryTimerExpiry id => hasRun s (s.mdu.store id).retry
  | .deadTimerExpiry => hasRun s s.sqc.deadTimer
  | .energyWaitExpiry => hasRun s s.sqc.ewaitTimer
  | .reclaimExpiry => hasRun s s.sqc.reclaimTimer
  | .closeDemandExpiry => hasRun s s.sqc.demandTimer
  | .loadTimerExpiry => hasRun s s.bcu.loadTimer
  | .testRetryExpiry => hasRun s s.bcu.retryTimer
  | .ackTimerExpiry => hasRun s s.tgt.ackTimer
  | .gapExpiry => s.lnk.access = .gap ∧ hasRun s s.lnk.slot
  | .backoffExpiry => s.lnk.access = .backoff ∧ hasRun s s.lnk.slot
  | .sendEnd => hasRun s s.lnk.sendTimer
  | .warmUpExpiry => hasRun s s.lnk.warmUp
  | .receptionGapExpiry => ∃ x ∈ s.lnk.reception, hasRun s (some x.gap)
  | .listenWindowClose => ∃ x ∈ s.lnk.cycle, x.windowOpen = true ∧ 250 ≤ ageOf s.now x.openedAt
  | .listenWindowOpen => ∃ x ∈ s.lnk.cycle, x.windowOpen = false ∧
      (if s.lnk.power = .sparse then 30000 else 2000) ≤ ageOf s.now x.openedAt
  | .listenHoldLimit => hasRun s s.lnk.holdLimit
  | .quietTimerExpiry => hasRun s s.lnk.quiet
  | .linkTimerExpiry => hasRun s s.lnk.link
  | .pickupLifeExpiry => ∃ e ∈ s.txq.entries.find? fun x => x.isPickup && !x.lifeOver,
      1000 ≤ ageOf s.now e.joinTime
  | .statusPeriodExpiry => hasRun s s.txq.period
  | .midpointTimerExpiry => s.rsl.state = .timing none ∧ hasRun s s.rsl.timer
  | .tieTimerExpiry => (∃ side, s.rsl.state = .timing (some side)) ∧ hasRun s s.rsl.timer
  | .rslStoreWaitExpiry => hasRun s s.rsl.storeWait
  | .timeBaseSecond => 1000 ≤ ageOf s.now s.clock.lastSecond
  | _ => False

/-- The event that the model's idle step finds has fallen due, and it finds one whenever one has.  (Which of several
comes first, and that counts at their limit and timers that have run are found so, is the model's choice: log
entries 10, 11 and 13.) -/
def DueEvents : Prop :=
  ∀ (s : State) (c : Instr), (s.due = some c → FallsDue s c) ∧ (FallsDue s c → s.due ≠ none)

/-! ### The laws every step keeps -/

/-- The state after reset has every law. -/
def ResetIsSound : Prop := Sound State.reset

/-- R165, R167, R170, R171, R174, R97, R75, R76, R107: every step leaves the part settled. -/
def SettledHolds : Prop :=
  ∀ s t : State, SettledWhenUp s → step s = .next t → SettledWhenUp t

/-- R124: "The transmit queue holds at most 8 entries, at most one STATUS marker and at most one
BATTERY_REPORT", kept in order of priority and, within one priority, in join order. -/
def QueueHolds : Prop :=
  ∀ s t : State, QueueSound s → step s = .next t → QueueSound t

/-- R152: at most 4 radio tags, one per crew, of crew ids 1..4,095 and scopes of the station or a segment. -/
def TagsHold : Prop :=
  ∀ s t : State, TagsSound s → step s = .next t → TagsSound t

/-- R137: "The peer table holds at most 12 entries, at most one per station id, and none with the station's
own id." -/
def PeersHold : Prop :=
  ∀ s t : State, PeersSound s → step s = .next t → PeersSound t

/-- R185: each write of a retained item is taken with a fresh integrity word, so the check agrees at every
event of a part that is up. -/
def RetainedHolds : Prop :=
  ∀ s t : State, RetainedSound s → step s = .next t → RetainedSound t

/-- R86: "Q stays within 0..Qcap at every event." -/
def ChargeHolds : Prop :=
  ∀ s t : State, ChargeSound s → step s = .next t → ChargeSound t

/-- R38: "The shot counter stays within 0..L at every event."  (That in CLOSING it may be L is DESIGN CHOICE, log
entry 53; that a trip then leaves it there is DEDUCED, log entry 22.) -/
def ShotHolds : Prop :=
  ∀ s t : State, ShotSound s → step s = .next t → ShotSound t

/-- R32: "Every accumulator lies in 0..65,536, and in 0..65,535 while a hold applies to it." -/
def AccumulatorsHold : Prop :=
  ∀ s t : State, AccumulatorsSound s → step s = .next t → AccumulatorsSound t

/-- R112, R114, R119: the radio is OFF without a decided class and in CUTOFF, OFF leaves no access, a power
state is pending only while a send runs, and a send runs only with its entry in flight. -/
def RadioHolds : Prop :=
  ∀ s t : State, QueueSound s → RadioSound s → step s = .next t → RadioSound t

/-- R80, R82 to R84, R95: "While the test load output is on, the charger duty is 0.", the charger is in OFF
exactly without supply, with a duty of 0, and in TEST exactly while a test runs with its load timer. -/
def ChargerHolds : Prop :=
  ∀ s t : State, ChargerSound s → step s = .next t → ChargerSound t

/-- R75, R67, R68: the one capacitor charger is assigned to at most one store, and a trip operation waits in
STORE_WAIT only while the trip store is not READY. -/
def StoresHold : Prop :=
  ∀ s t : State, StoresSound s → step s = .next t → StoresSound t

/-- R64: the position-fault timer runs only outside an operation and in UNKNOWN, and only a stay in UNKNOWN
counts as reported. -/
def PositionHolds : Prop :=
  ∀ s t : State, PositionSound s → step s = .next t → PositionSound t

/-- R60, R84, R101, R103, R111, R113, R155: what the part drives and shows.  The coils and enables of the
mechanism and the charger follow their items; the listen enable stands with the radio powered, no warm-up and
no send, in ACTIVE, in an open window, under a hold or while an access listens; the LOCKOUT lamp is lit in
LOCKOUT and STUCK, the TAGGED lamp for a tag hold, the BATTERY lamp while an attribute's value is at or below
its threshold, and the LINK lamp with the radio powered, no ID_CLASH and the link timer running. -/
def OutputsShown : Prop :=
  ∀ s : State,
    let o := s.outputs
    let h := s.rtm.items.health
    let th := s.stl.image.thresholds
    (o.tripCoil = true ↔ ∃ a, s.mdu.op = .trip .drive a) ∧ (o.closeCoil = true ↔ s.mdu.op = .close) ∧
    o.tripCharge = s.mdu.trip.enable ∧ o.closeCharge = s.mdu.close.enable ∧ o.duty = s.bcu.duty ∧
    (o.testLoad = true ↔ s.bcu.mode = .test) ∧ (o.powerEnable = true ↔ s.lnk.power ≠ .off) ∧
    (o.listenEnable = true ↔ s.lnk.power ≠ .off ∧ s.lnk.warmUp = none ∧ s.lnk.access ≠ .sending ∧
      (s.lnk.power = .active ∨ (∃ u, s.lnk.cycle = some ⟨true, u⟩) ∨ s.lnk.holdLimit ≠ none ∨
        s.lnk.access = .gap ∨ s.lnk.access = .sense ∨ s.lnk.access = .backoff)) ∧
    o.serialOut = s.lnk.outFrame ∧
    (o.lockoutLamp = true ↔ s.sqc.state = some .lockout ∨ s.sqc.state = some .stuck) ∧
    (o.taggedLamp = true ↔ s.up = true ∧
      (s.tgt.hotlineOn = true ∨ s.rtm.items.tags ≠ [] ∨ s.rtm.items.tagUnknown = true)) ∧
    (o.batteryLamp = true ↔ s.up = true ∧
      (h.resistance.value ≤ th.resistance ∨ h.testFails.value ≤ th.testFails ∨
        h.deepDischarge.value ≤ th.deepDischarge ∨ h.absorbLimit.value ≤ th.absorbLimit)) ∧
    (o.linkLamp = true ↔ s.lnk.power ≠ .off ∧ s.lnk.idClash = false ∧ s.lnk.link ≠ none)

/-! ### Rules over the whole part -/

/-- R48: "No close operation begins while any tag is held, TAG_UNKNOWN is set, HANDLE is down, the reserve
class is CUTOFF, or the sequence is in STUCK."  Nor does one begin without a READY close store (R70). -/
def CloseNeedsOpenGate : Prop :=
  ∀ (c : Instr) (s t : State), Calm s → exec c s = .next t → s.mdu.op ≠ .close → t.mdu.op = .close →
    s.tgt.hotlineOn = false ∧ s.rtm.items.tags = [] ∧ s.rtm.items.tagUnknown = false ∧
      s.mdu.handleDown = false ∧ s.bcu.cls ≠ some .cutoff ∧ s.sqc.state ≠ some .stuck ∧
      t.mdu.close.state = .ready

/-- R67: the trip coil is switched on only with the trip store READY. -/
def TripCoilNeedsStore : Prop :=
  ∀ (c : Instr) (s t : State), exec c s = .next t → s.mdu.tripCoil = false → t.mdu.tripCoil = true →
    t.mdu.trip.state = .ready

/-- R183: the image, the derived tables and the settings fault record change at no event between BRING-UP
and the next start. -/
def SettingsFrozen : Prop :=
  ∀ (c : Instr) (s t : State), s.up = true → exec c s = .next t →
    (∀ k, c ≠ .restartInput k) → (∀ k, c ≠ .supplyReturn k) → t.stl = s.stl

/-- R23, R183: the tables of a part that is up have nine rates for each curve, each of 1..65,536 and none below the
one before it; every step keeps this, a bring-up with a good block or a faulty one makes it, and a part in READ
has it. -/
def RatesHold : Prop :=
  RatesSound State.reset ∧
    ∀ s t : State, RatesSound s → step s = .next t → RatesSound t

/-- R110, R72: ID_CLASH and MECH_SLOW, once set, stay set until the next start. -/
def AlarmsLatched : Prop :=
  ∀ (c : Instr) (s t : State), s.up = true → exec c s = .next t →
    (∀ k, c ≠ .restartInput k) → (∀ k, c ≠ .supplyReturn k) →
    (s.lnk.idClash = true → t.lnk.idClash = true) ∧ (s.mdu.mechSlow = true → t.mdu.mechSlow = true) ∧
      (s.rtm.items.mechWear = true → t.rtm.items.mechWear = true)

/-- R161, R158, R159: TAG_UNKNOWN is cleared by a CLEAR_UNKNOWN or by the HOTLINE switch turned off, and by
no other command; the radio tags change at a TAG_PLACE and a TAG_REMOVE alone; a start in its last word
may give both their COLD values (R186).  (That both stand at a start event with the battery disconnected, where R185
says only that the contents fail the check, is the model's choice, DESIGN CHOICE, log entry 15.) -/
def TagsChangeByCrewAlone : Prop :=
  ∀ (c : Instr) (s t : State), s.up = true → exec c s = .next t →
    (s.rtm.items.tagUnknown = true → t.rtm.items.tagUnknown = false →
      c = .crewClearUnknown ∨ c = .hotlineSwitchChange false) ∧
    (t.rtm.items.tags ≠ s.rtm.items.tags → c = .crewTagPlace ∨ c = .crewTagRemove) ∧
    (s.rtm.items.tagUnknown = false → t.rtm.items.tagUnknown = false)

/-- R97: a test in progress stands only with no pickup, the SQC in CLOSED, SUPPLY_OK, the class NORMAL and
both stores READY; a test that ends does so by its load timer or as ABORTED, with a retry in 3,600 s. -/
def TestNeedsItsConditions : Prop :=
  ∀ (c : Instr) (s t : State), Calm s → exec c s = .next t → ofStart c = false →
    (t.bcu.test ≠ none → t.peu.anyPickup = false ∧ t.sqc.state = some .closed ∧
      t.bcu.supplyOk = true ∧ t.bcu.cls = some .normal ∧ t.mdu.trip.state = .ready ∧
      t.mdu.close.state = .ready) ∧
    (s.bcu.test ≠ none → t.bcu.test = none → c ≠ .loadTimerExpiry →
      t.bcu.latestAttempt = some .aborted ∧ t.bcu.testDue = true ∧
      t.bcu.retryTimer = some ⟨t.now, 3600000⟩ ∧ t.bcu.mode ≠ .test)

/-- R75, R76: after every command that is no part of a start, the charger serves the trip store first, and
the close store only with the trip store READY and the class and the close demand allowing it. -/
def ChargerServesByPolicy : Prop :=
  ∀ (c : Instr) (s t : State), Calm s → exec c s = .next t → ofStart c = false →
    (t.mdu.trip.wants = true → t.mdu.trip.enable = true) ∧
    (t.mdu.close.enable = true → t.mdu.trip.state = .ready ∧
      (t.bcu.cls = some .normal ∨ t.bcu.cls = some .economy ∨
        (t.bcu.cls = some .protectOnly ∧
          (t.sqc.state = some .energyWait ∨ t.sqc.demandTimer ≠ none ∨ t.rsl.storeWait ≠ none))))

/-- R163, R171 to R173: a restoration close is begun by a tie alone, in LOCKOUT, with its own tag table empty,
HANDLE up and the class NORMAL or ECONOMY; and at the check that begins it the feeding peer of the dead
segment consents, or is not FRESH with the fallback on and due, and no FRESH peer tags that segment. -/
def RestoreCloseNeedsConsent : Prop :=
  ∀ (c : Instr) (s t : State), Calm s → exec c s = .next t → s.rsl.state ≠ .restored →
    t.rsl.state = .restored →
    s.sqc.state = some .lockout ∧ s.rtm.items.tags = [] ∧ s.tgt.hotlineOn = false ∧
      s.rtm.items.tagUnknown = false ∧ s.mdu.handleDown = false ∧
      (s.bcu.cls = some .normal ∨ s.bcu.cls = some .economy) ∧
      t.sqc.state = some .closing ∧ t.sqc.closeSource = some .restore ∧
      (∃ side, s.rsl.state = .timing (some side) ∧ s.deadSide = some side ∧
        (let g := if side = .up then t.stl.image.sUp else t.stl.image.sDn
         (g ≠ 0 → t.taggingPeers g = []) ∧
         match (if g = 0 then .absent else t.feedingPeer g) with
         | .fresh e => e.state = some .lockout ∧ e.cause = some .restoreOpen ∧
             e.position = some .opened
         | .silent _ => t.stl.image.fallbackVoltage = true ∧ t.rsl.fallbackDue = true
         | .absent => t.stl.image.fallbackVoltage = true ∧ t.rsl.fallbackDue = true))

/-! ### Operations -/

/-- Conventions, Arithmetic: square roots of whole numbers are rounded down. -/
def SquareRootRoundsDown : Prop :=
  ∀ n : Nat, isqrt n * isqrt n ≤ n ∧ n < (isqrt n + 1) * (isqrt n + 1)

/-- R8: at a used sample with A of 1..7 the estimate moves toward 65,536 times the sample and never past
it, stays in its range, and stands still once the error lies in 0..2^(16 − A) − 1; and z lies in the sample
range. -/
def DcEstimateFollows : Prop :=
  ∀ (c : AcChannel) (a : Nat) (x : Int), 1 ≤ a → a ≤ 7 → -32768 ≤ x → x ≤ 32767 →
    -2147483648 ≤ c.d → c.d ≤ 2147483647 →
    (c.d ≤ 65536 * x → c.d ≤ c.estimate a x ∧ c.estimate a x ≤ 65536 * x) ∧
    (65536 * x ≤ c.d → 65536 * x ≤ c.estimate a x ∧ c.estimate a x ≤ c.d) ∧
    (c.estimate a x = c.d ↔ 0 ≤ 65536 * x - c.d ∧ 65536 * x - c.d < 2 ^ (16 - a)) ∧
    -32768 ≤ c.filtered a x ∧ c.filtered a x ≤ 32767

/-- R9: with W of 48 or 40 and half-cycle sums of at most W/2 samples of magnitude 32,768, rms lies in
0..32,768. -/
def RmsInRange : Prop :=
  ∀ (c : AcChannel) (w : Nat), (w = 48 ∨ w = 40) → c.hPrev ≤ w / 2 * 32768 ^ 2 →
    c.hCur ≤ w / 2 * 32768 ^ 2 → c.rms w ≤ 32768

/-- R25, and the rise of R24 under the cap of R32: at an evaluated update each TOC element that is not picked
up falls by its derived decrement, clamped at 0, or to 0 where its reset time is 0, at the update that drops it
out already; a picked-up element goes on from the value left.  The decrements are the derived ones of R183. -/
def AccumulatorFalls : Prop :=
  (∀ (s : State) (r : UpdateRecord), s.evaluates r = true →
    ∀ p ∈ [(s.peu.toc.ia, (s.evaluate r).peu.toc.ia, r.rms.ia, s.stl.image.pPu, s.stl.tables.resetP),
        (s.peu.toc.ib, (s.evaluate r).peu.toc.ib, r.rms.ib, s.stl.image.pPu, s.stl.tables.resetP),
        (s.peu.toc.ic, (s.evaluate r).peu.toc.ic, r.rms.ic, s.stl.image.pPu, s.stl.tables.resetP),
        (s.peu.toc.ig, (s.evaluate r).peu.toc.ig, r.rms.ig, s.stl.image.gPu, s.stl.tables.resetG)],
      let old := p.1
      let new := p.2.1
      let rms := p.2.2.1
      let pickup := p.2.2.2.1
      new.pickedUp = (if pickup ≤ rms then true else if 16 * rms < 15 * pickup then false
        else old.pickedUp) ∧
      (new.pickedUp = false → new.acc =
        match p.2.2.2.2 with
        | none => 0
        | some d => if d ≤ old.acc then old.acc - d else 0) ∧
      (new.pickedUp = true → new.acc = min (if new.hold = none then 65536 else 65535)
        (old.acc + rateAt (s.stl.tables.rates s.selection.curve) (min 639 (16 * rms / pickup))))) ∧
  (∀ (c : Settings) (w : Word16), (tablesOf c w).resetP =
      (if c.tResetP = 0 then none else some ((65536 + c.tResetP - 1) / c.tResetP)) ∧
    (tablesOf c w).resetG =
      (if c.tResetG = 0 then none else some ((65536 + c.tResetG - 1) / c.tResetG)))

/-- R23, R24: the rise of an accumulator.  At an evaluated update a picked-up element rises by the rate of the
selected curve at the highest breakpoint that does not exceed floor(16 · rms / pickup), clamped to 639, and by
rate_0 in the dropout band below 16; to 65,536, or to 65,535 under a hold. -/
def StaircaseRises : Prop :=
  ∀ (s : State) (r : UpdateRecord), s.up = true → RatesSound s → s.evaluates r = true →
    let rates := if s.selection.curve = .fast then s.stl.tables.fastRates else s.stl.tables.delayedRates
    ∀ p ∈ [(s.peu.toc.ia, (s.evaluate r).peu.toc.ia, r.rms.ia, s.stl.image.pPu),
        (s.peu.toc.ib, (s.evaluate r).peu.toc.ib, r.rms.ib, s.stl.image.pPu),
        (s.peu.toc.ic, (s.evaluate r).peu.toc.ic, r.rms.ic, s.stl.image.pPu),
        (s.peu.toc.ig, (s.evaluate r).peu.toc.ig, r.rms.ig, s.stl.image.gPu)],
      let new := p.2.1
      let mq := min 639 (16 * p.2.2.1 / p.2.2.2)
      new.pickedUp = true →
        new.acc = min (if new.hold = none then 65536 else 65535)
          (p.1.acc + rates.getD (breakpointOf mq) 0)

/-- R23, R24: the breakpoints stand at Mq 16, 24, 32, 48, 64, 96, 128, 192 and 320: a multiple is at breakpoint i or
above it exactly when it is not below the i-th of these, and at breakpoint 0 when it is below them all; and the
rate of a multiple in nine rates is the one at its breakpoint. -/
def BreakpointsOfCurves : Prop :=
  ∀ (mq : Nat) (rates : List Nat), rates.length = 9 →
    (∀ i < 9, i ≤ breakpointOf mq ↔
      i = 0 ∨ [16, 24, 32, 48, 64, 96, 128, 192, 320].getD i 0 ≤ mq) ∧
    breakpointOf mq < 9 ∧ rateAt rates mq = rates.getD (breakpointOf mq) 0

/-- R24: "A steady current at one multiple makes the element trip at the ceil(65,536 / rate_i)-th update at
which it is picked up": with rises of one rate and no hold, 65,536 is reached at that update and at none
before it. -/
def TripCountOfSteadyCurrent : Prop :=
  ∀ rate n : Nat, 1 ≤ rate →
    ((Nat.iterate (fun a => rise false a rate) n 0 = 65536) ↔ ceilDiv 65536 rate ≤ n)

/-- R106: the computation of the CRC bit by bit, its check value over the digits 1 to 9, the residue of a frame
run through with its CRC, and the receiver's comparison: a reception long enough for its length byte is
BAD_CRC exactly when its last two bytes are not the CRC of the bytes before them, high byte first. -/
def CrcClosesFrame : Prop :=
  crc [] = 0xFFFF#16 ∧
  (∀ (b : List Byte) (x : Byte), crc (b ++ [x]) =
    [7, 6, 5, 4, 3, 2, 1, 0].foldl (fun (r : Word16) k =>
      if x.getLsbD k != r.getLsbD 15 then (r <<< 1) ^^^ 0x1021#16 else r <<< 1) (crc b)) ∧
  crc [0x31, 0x32, 0x33, 0x34, 0x35, 0x36, 0x37, 0x38, 0x39] = 0x29B1#16 ∧
  (∀ b : List Byte, crc (b ++ crcBytes (crc b)) = 0) ∧
  (∀ b : List Byte, crcBytes (crc b) =
    [(crc b).extractLsb' 8 8, (crc b).extractLsb' 0 8]) ∧
  (∀ (g : Nat) (own : Option Nat) (r : EndedReception), 8 ≤ nat1 r.bytes 1 → nat1 r.bytes 1 ≤ 64 →
    nat1 r.bytes 1 ≤ r.bytes.length → r.bytes.length ≤ r.count →
    (classify g own r = .badCrc ↔
      (r.bytes.take (nat1 r.bytes 1)).drop (nat1 r.bytes 1 - 2) ≠
        crcBytes (crc (r.bytes.take (nat1 r.bytes 1 - 2)))))

/-- R105, R189: a frame is its kind, its length, the group code, the station id, the body and the CRC over
every byte before it; the length byte counts the whole frame. -/
def FrameLayout : Prop :=
  ∀ (k g id : Nat) (b : List Byte), b.length ≤ 57 →
    ∃ front, frameBytes k g id b = front ++ crcBytes (crc front) ∧
      front = [BitVec.ofNat 8 k, BitVec.ofNat 8 (b.length + 7), BitVec.ofNat 8 (g / 256),
        BitVec.ofNat 8 g, BitVec.ofNat 8 id] ++ b ∧
      (frameBytes k g id b).length = b.length + 7

/-- R108, R191, R193, chapter 12: what a station sends, its peers accept and read back: the frame of a
PICKUP, a TAG_NOTICE or a REQUEST_RESULT with fields in their ranges is ACCEPTED by another station of the
group, with the content its receivers keep.  (The segment bytes 32..255 are accepted too: the model's reading,
DEDUCED, log entry 29.) -/
def PeersReadWhatIsSent : Prop :=
  ∀ (g id : Nat) (own : Option Nat) (at_ : Uptime), g < 65536 → 1 ≤ id → id ≤ 15 → own ≠ some id →
    (∀ p : PickupContent, p.elements.any = true → p.shot ≤ 4 → p.quiet < 256 → p.sUp < 256 →
      p.sDn < 256 →
      classify g own ⟨frameBytes 2 g id (pickupBody p), 12, at_⟩ =
        .accepted (.pickup id ⟨p.sUp, p.sDn⟩ p.quiet)) ∧
    (∀ n : TagNoticeContent, n.tags.length ≤ 4 → (∀ x ∈ n.tags, TagSound x) →
      classify g own ⟨frameBytes 4 g id (tagNoticeBody n), 9 + 3 * n.tags.length, at_⟩ =
        .accepted (.tagNotice id
          ⟨if n.panel then ⟨0, .hotline, .station⟩ :: n.tags else n.tags, n.tagUnknown⟩)) ∧
    (∀ x : ResultContent, x.crew ≤ 4095 →
      classify g own ⟨frameBytes 5 g id (resultBody x), 11, at_⟩ = .accepted (.report id))

/-- R192: the codes of the coded fields, in the order of the manual's lists. -/
def CodesOfFields : Prop :=
  [SeqState.closed, .reclaim, .tripping, .dead, .energyWait, .closing, .lockout, .stuck].map
    SeqState.code = [1, 2, 3, 4, 5, 6, 7, 8] ∧
  [Cause.protection, .manual, .crew, .tag, .energy, .closeFail, .handle, .externalOpen, .restart,
    .restoreOpen, .tieOpen, .tripFail, .position].map Cause.code =
      [1, 2, 3, 4, 5, 6, 7, 8, 9, 10, 11, 12, 13] ∧
  [OpCause.protection, .manual, .crew, .restoreOpen].map (fun c => c.cause.code) = [1, 2, 3, 10] ∧
  [Position.opened, .closed, .unknown].map Position.code = [1, 2, 3] ∧
  [VoltageState.unknown, .live, .dead].map VoltageState.code = [0, 1, 2] ∧
  [ReserveClass.normal, .economy, .protectOnly, .cutoff].map ReserveClass.code = [1, 2, 3, 4] ∧
  [ChargerMode.off, .bulk, .absorb, .float, .test].map ChargerMode.code = [0, 1, 2, 3, 4] ∧
  [RadioPower.off, .active, .duty, .sparse].map RadioPower.code = [0, 1, 2, 3] ∧
  [Role.none, .midpoint, .tie].map Role.code = [0, 1, 2] ∧
  [RestState.watch, .timing none, .timing (some .up), .timing (some .dn), .opened, .restored,
    .inhibited .start, .inhibited .faultedSegment, .inhibited .afterRestore,
    .inhibited .store].map (fun r => (r.code, r.qualifier)) =
      [(0, 0), (1, 0), (1, 1), (1, 2), (2, 0), (3, 0), (4, 1), (4, 2), (4, 3), (4, 4)] ∧
  [InhibitReason.settings, .idClash, .stuck, .nonreclose].map InhibitReason.code = [1, 2, 3, 4] ∧
  [FaultReason.checksum, .format, .range, .conflict].map FaultReason.code = [1, 2, 3, 4] ∧
  [EventKind.trip, .deadTime, .reclose, .manualClose, .restoreClose, .externalClose, .lockout,
    .stuck].map EventKind.code = [1, 2, 3, 4, 5, 6, 7, 8] ∧
  [RequestKind.tagPlace, .tagRemove, .clearUnknown, .trip, .close, .statusNow, .batteryTest].map
    RequestKind.code = [1, 2, 3, 4, 5, 6, 7] ∧
  [RequestOutcome.accepted, .refusedTagged, .refusedNotOwner, .refusedState, .refusedEnergy,
    .refusedFull, .refusedBad].map RequestOutcome.code = [0, 1, 2, 3, 4, 5, 6] ∧
  [TestOutcome.pass, .fail, .invalid].map TestOutcome.code = [1, 2, 3] ∧
  [AttemptOutcome.pass, .fail, .invalid, .aborted].map AttemptOutcome.code = [1, 2, 3, 4]

/-- R130, R188, R190, R191: the bodies, byte by byte, for fields in their ranges: the 27 fixed bytes of a STATUS
composed from the state, its tag records and its trip record; a SEQ_EVENT with the trip record it carries; the
36 bytes of a BATTERY_REPORT; a PICKUP, a TAG_NOTICE and a REQUEST_RESULT; and a trip record.  A field that is
absent or not yet formed is sent as 0. -/
def BodiesOfFrames : Prop :=
  (∀ (s : State) (q : Reasons), TagsSound s → s.stl.image.sUp ≤ 31 → s.stl.image.sDn ≤ 31 →
    s.sqc.shot ≤ 4 → s.bcu.soc.getD 0 ≤ 100 → s.rtm.items.opCounter ≤ 999999 → s.lnk.good ≤ 255 →
    s.lnk.bad ≤ 255 → (∀ f, s.stl.fault = some f → f.index ≤ 95) →
    let b := s.statusBody q
    let n := s.rtm.items.tags.length
    let h := s.rtm.items.health
    let th := s.stl.image.thresholds
    let poor : Bool := h.resistance.value ≤ th.resistance ∨ h.testFails.value ≤ th.testFails ∨
      h.deepDischarge.value ≤ th.deepDischarge ∨ h.absorbLimit.value ≤ th.absorbLimit
    let storeFault : Bool := s.mdu.trip.state = .fault ∨ s.mdu.close.state = .fault
    (b.take 27).map (·.toNat) =
      [q.period.toNat + 2 * q.start.toNat + 4 * q.seqEvent.toNat + 8 * q.tagChange.toNat +
          16 * q.crew.toNat + 32 * q.overflow.toNat,
        s.stl.image.role.code, s.stl.image.sUp, s.stl.image.sDn,
        (s.sqc.state.map SeqState.code).getD 0, s.sqc.shot, (s.sqc.cause.map Cause.code).getD 0,
        (s.mdu.position.map Position.code).getD 0,
        s.sfe.vs.state.code + 4 * s.sfe.vl.state.code,
        (s.bcu.cls.map ReserveClass.code).getD 0, s.bcu.soc.getD 0,
        s.rtm.items.qUncertain.toNat + 2 * s.tgt.hotlineOn.toNat +
          4 * s.rtm.items.tagUnknown.toNat + 8 * s.sqc.record.isSome.toNat,
        s.bcu.mode.code, s.lnk.power.code, s.rsl.state.code,
        16 * s.rsl.state.qualifier + (s.rsl.inhibit.map InhibitReason.code).getD 0,
        s.lnk.idClash.toNat + 2 * s.mdu.mechSlow.toNat + 4 * s.rtm.items.mechWear.toNat +
          8 * storeFault.toNat + 16 * poor.toNat + 32 * s.stl.fault.isSome.toNat,
        (s.stl.fault.map (·.index)).getD 0, (s.stl.fault.map (·.reason.code)).getD 0,
        s.rtm.items.opCounter / 65536, s.rtm.items.opCounter / 256 % 256,
        s.rtm.items.opCounter % 256, s.stl.tables.checksum.toNat / 256,
        s.stl.tables.checksum.toNat % 256, s.lnk.good, s.lnk.bad, n] ∧
      tagsAt b 27 n = s.rtm.items.tags ∧
      b.drop (27 + 3 * n) = (s.sqc.record.map tripRecordBytes).getD []) ∧
  (∀ x : TripRecord, x.number ≤ 4 → x.rms.ia ≤ 32768 → x.rms.ib ≤ 32768 → x.rms.ic ≤ 32768 →
    x.rms.ig ≤ 32768 → x.operating.getD 0 ≤ 65535 →
    (tripRecordBytes x).map (·.toNat) =
      [x.operating.isSome.toNat, x.number, x.cause.cause.code,
        x.elements.toc.ia.toNat + 2 * x.elements.toc.ib.toNat + 4 * x.elements.toc.ic.toNat +
          8 * x.elements.toc.ig.toNat + 16 * x.elements.inst.ia.toNat +
          32 * x.elements.inst.ib.toNat + 64 * x.elements.inst.ic.toNat +
          128 * x.elements.inst.ig.toNat,
        x.rms.ia / 256, x.rms.ia % 256, x.rms.ib / 256, x.rms.ib % 256, x.rms.ic / 256,
        x.rms.ic % 256, x.rms.ig / 256, x.rms.ig % 256, x.start.toNat / 16777216,
        x.start.toNat / 65536 % 256, x.start.toNat / 256 % 256, x.start.toNat % 256,
        x.operating.getD 0 / 256, x.operating.getD 0 % 256]) ∧
  (∀ c : SeqEventContent, c.shot ≤ 4 →
    ((seqEventBody c).take 9).map (·.toNat) =
      [c.kind.code, c.time.toNat / 16777216, c.time.toNat / 65536 % 256, c.time.toNat / 256 % 256,
        c.time.toNat % 256, (c.state.map SeqState.code).getD 0, c.shot,
        (c.cause.map Cause.code).getD 0, (c.position.map Position.code).getD 0] ∧
    (seqEventBody c).drop 9 = (c.record.map tripRecordBytes).getD []) ∧
  (∀ c : BatteryContent,
    (∀ p ∈ [(c.health.resistance, c.thresholds.resistance), (c.health.testFails, c.thresholds.testFails),
        (c.health.deepDischarge, c.thresholds.deepDischarge),
        (c.health.absorbLimit, c.thresholds.absorbLimit)],
      p.1.raw ≤ 65535 ∧ p.1.value ≤ 200 ∧ p.1.worst ≤ 200 ∧ p.2 ≤ 199) →
    c.soc.getD 0 ≤ 100 → c.days ≤ 65535 → (∀ x, c.last = some x → x.r.getD 0 ≤ 65535) →
    let below := fun (a : Attribute) (th : Nat) => (decide (a.value ≤ th)).toNat
    let sent := fun v : Option Int => (min 65535 (max 0 (v.getD 0))).toNat
    let v0 := sent (c.last.map (·.v0))
    let v1 := sent (c.last.map (·.v1))
    let i1 := sent (c.last.map (·.i1))
    let r := (c.last.bind (·.r)).getD 0
    (batteryBody c).map (·.toNat) =
      [(c.attempt.map AttemptOutcome.code).getD 0,
        c.last.isSome.toNat + 2 * (c.last.bind (·.r)).isSome.toNat + 4 * c.poor.toNat +
          8 * c.qUncertain.toNat + 16 * below c.health.resistance c.thresholds.resistance +
          32 * below c.health.testFails c.thresholds.testFails +
          64 * below c.health.deepDischarge c.thresholds.deepDischarge +
          128 * below c.health.absorbLimit c.thresholds.absorbLimit,
        (c.last.map (·.outcome.code)).getD 0, v0 / 256, v0 % 256, v1 / 256, v1 % 256, i1 / 256,
        i1 % 256, r / 256, r % 256] ++
      [(c.health.resistance, c.thresholds.resistance), (c.health.testFails, c.thresholds.testFails),
        (c.health.deepDischarge, c.thresholds.deepDischarge),
        (c.health.absorbLimit, c.thresholds.absorbLimit)].flatMap (fun p =>
          [p.1.raw / 256, p.1.raw % 256, p.1.value, p.1.worst, p.2]) ++
      [c.soc.getD 0, (c.cls.map ReserveClass.code).getD 0, c.mode.code, c.days / 256, c.days % 256]) ∧
  (∀ c : PickupContent, c.shot ≤ 4 → c.quiet ≤ 255 → c.sUp ≤ 31 → c.sDn ≤ 31 →
    (pickupBody c).map (·.toNat) = [c.elements.code, c.shot, c.quiet, c.sUp, c.sDn]) ∧
  (∀ c : TagNoticeContent, c.tags.length ≤ 4 → (∀ x ∈ c.tags, TagSound x) →
    ((tagNoticeBody c).take 2).map (·.toNat) =
      [2 * c.panel.toNat + 4 * c.tagUnknown.toNat, c.tags.length] ∧
    tagsAt (tagNoticeBody c) 2 c.tags.length = c.tags ∧
    (tagNoticeBody c).length = 2 + 3 * c.tags.length) ∧
  (∀ c : ResultContent, c.crew ≤ 4095 →
    (resultBody c).map (·.toNat) = [c.crew / 256, c.crew % 256, c.kind.code, c.outcome.code])

/-- R117: each draw advances the register once, by a shift toward its low end and an exclusive-or with 0xB400
where the bit shifted out was 1, and takes its value from the register after the advance, for a backoff and
for the jitter of the status period alike; the seed at a start is the settings checksum plus 4,096 times the
station id, 0 replaced by 1; the register never reaches 0, and it runs through all 65,535 other values
before it repeats. -/
def RandomGeneratorPeriod : Prop :=
  (∀ r : Word16, rngNext r = if r.getLsbD 0 then (r >>> 1) ^^^ 0xB400#16 else r >>> 1) ∧
  (∀ r : Word16, r ≠ 0 → rngNext r ≠ 0) ∧
  (∀ r : Word16, r ≠ 0 → Nat.iterate rngNext 65535 r = r) ∧
  (∀ (r : Word16) (n : Nat), r ≠ 0 → 0 < n → n < 65535 → Nat.iterate rngNext n r ≠ r) ∧
  (∀ (s : State) (w : Word16) (ws : List Word16), s.stl.phase = .read ws → ws.length = 95 →
    ∃ t, exec (.settingsWordRead w) s = .next t ∧ t.lnk.rng ≠ 0 ∧
      (let seed := w + BitVec.ofNat 16 (4096 * t.stl.image.stationId.getD 0)
       t.lnk.rng = if seed = 0 then 1 else seed)) ∧
  (∀ (s : State) (p n : Nat), (s.drawBackoff p n).lnk.rng = rngNext s.lnk.rng ∧
    (s.drawBackoff p n).lnk.slot = some ⟨s.now, 10 * ((rngNext s.lnk.rng).toNat %
      2 ^ (if p = 0 then min n 2 else min (n + 2) 6))⟩) ∧
  (∀ s : State, s.bcu.cls = some .normal → s.startPeriod.lnk.rng = rngNext s.lnk.rng ∧
    s.startPeriod.txq.period = some ⟨s.now, 1000 * (s.stl.image.statusPeriod +
      (rngNext s.lnk.rng).toNat % (s.stl.image.statusPeriod / 10 + 1))⟩) ∧
  (∀ s : State, s.bcu.cls = some .economy → s.startPeriod.lnk.rng = rngNext s.lnk.rng ∧
    s.startPeriod.txq.period = some ⟨s.now, 1000 * (4 * s.stl.image.statusPeriod +
      (rngNext s.lnk.rng).toNat % (4 * s.stl.image.statusPeriod / 10 + 1))⟩)

/-- R88, R90: the class after an evaluation.  The worst class whose entry condition holds, or NORMAL, is taken
at a first decision and where it is worse than the class held; otherwise the class moves to the next better
one exactly where its leave condition holds, and else it stays.  While Q_UNCERTAIN is set only the voltage
terms act.  So a class improves by one at most, never past the worst class entered. -/
def ClassMovesOneUp : Prop :=
  ∀ (c : Settings) (i : ClassInputs) (p : ReserveClass),
    let worst : ReserveClass :=
      if i.cutoffReached then .cutoff
      else if (i.uncertain = false ∧ i.soc < 30) ∨ i.mV < c.vProt then .protectOnly
      else if (i.uncertain = false ∧ i.soc < 60) ∨ i.mV < c.vEcon then .economy
      else .normal
    let better : Option ReserveClass := match p with
      | .normal => none
      | .economy =>
        if (i.uncertain = true ∨ 70 ≤ i.soc) ∧ c.vEcon + 200 ≤ i.mV then some .normal else none
      | .protectOnly =>
        if (i.uncertain = true ∨ 40 ≤ i.soc) ∧ c.vProt + 200 ≤ i.mV then some .economy else none
      | .cutoff => if c.vCut + 500 ≤ i.mV ∧ i.supplyOk = true then some .protectOnly else none
    classAfter c i none = worst ∧
    classAfter c i (some p) = (if p.code < worst.code then worst else better.getD p) ∧
    p.code ≤ (classAfter c i (some p)).code + 1 ∧
    ((i.cutoffReached = true → p ≠ .cutoff) → worst.code ≤ (classAfter c i (some p)).code)

/-- R99, R100: the value of each attribute from its raw, in 1..200, a greater raw never giving a greater value;
and a renewed attribute keeps the lower of the old worst and the new value as its worst. -/
def HealthValuesInRange : Prop :=
  ∀ (r n m : Nat) (a : Attribute), 1 ≤ r → n ≤ m →
    resistanceValue r n = (if n ≤ r then 200 else max 1 (200 - 100 * (n - r) / r)) ∧
    testFailsValue n = max 1 (200 - 60 * n) ∧ deepDischargeValue n = max 1 (200 - 20 * n) ∧
    absorbLimitValue n = max 1 (200 - 25 * n) ∧
    a.renew n m = ⟨n, m, if a.worst ≤ m then a.worst else m⟩ ∧
    (1 ≤ resistanceValue r n ∧ resistanceValue r n ≤ 200 ∧ resistanceValue r m ≤ resistanceValue r n) ∧
    (1 ≤ testFailsValue n ∧ testFailsValue n ≤ 200 ∧ testFailsValue m ≤ testFailsValue n) ∧
    (1 ≤ deepDischargeValue n ∧ deepDischargeValue n ≤ 200 ∧
      deepDischargeValue m ≤ deepDischargeValue n) ∧
    (1 ≤ absorbLimitValue n ∧ absorbLimitValue n ≤ 200 ∧ absorbLimitValue m ≤ absorbLimitValue n)

/-- R125: a frame other than a STATUS that joins a full list evicts the youngest entry of the numerically
greatest priority among those not in flight where that is not more urgent than the new frame, and is
dropped otherwise. -/
def OverflowRule : Prop :=
  ∀ (s : State) (p : Nat), QueueSound s →
    (∀ v, s.txq.evicts p = some v → v ∈ s.txq.entries ∧ v.inFlight = false ∧ p ≤ v.priority ∧
      ∀ e ∈ s.txq.entries, e.inFlight = false → e ≠ v →
        e.priority < v.priority ∨ (e.priority = v.priority ∧ e.order < v.order)) ∧
    (s.txq.evicts p = none → ∀ e ∈ s.txq.entries, e.inFlight = false → e.priority < p)

/-- R124: a join puts the new entry in the list with the next join order, its priority from the map, 0 attempts
and its join time; the entries there before stand as they are, in their order, and beside the list only the
access of the LNK may change. -/
def JoinPlaces : Prop :=
  ∀ (s : State) (c : Content), QueueSound s →
    let new : Entry := ⟨c, match c with
      | .pickup _ => 0
      | .seqEvent _ => s.stl.image.priorityMap / 4 % 4
      | .tagNotice _ => s.stl.image.priorityMap / 16 % 4
      | .result _ => s.stl.image.priorityMap / 64 % 4
      | .status _ => s.stl.image.priorityMap / 256 % 4
      | .battery _ => s.stl.image.priorityMap / 1024 % 4,
      s.txq.nextOrder, s.now, 0, false, false⟩
    (∃ front back, s.txq.entries = front ++ back ∧
      (s.join c).txq.entries = front ++ new :: back ∧ (∀ x ∈ front, before x new) ∧
      ∀ x ∈ back, before new x) ∧
    s.join c = { s with
      txq := { s.txq with
        entries := (s.join c).txq.entries, nextOrder := s.txq.nextOrder + 1 },
      lnk := { s.lnk with
        access := (s.join c).lnk.access, selected := (s.join c).lnk.selected,
        slot := (s.join c).lnk.slot } }

/-- R120, R114: what the LNK does at a join: a selected entry of priority 2 or 3 in GAP or BACKOFF is returned to a
joining frame of priority 0, and the search is made on the new list; in every other case the access runs on, and
the search is made in IDLE alone. -/
def JoinDisplaces : Prop :=
  ∀ (s : State) (c : Content), QueueSound s →
    let urgent : Bool := match c with
      | .pickup _ => true
      | .seqEvent _ => s.stl.image.priorityMap / 4 % 4 = 0
      | .tagNotice _ => s.stl.image.priorityMap / 16 % 4 = 0
      | .result _ => s.stl.image.priorityMap / 64 % 4 = 0
      | .status _ => s.stl.image.priorityMap / 256 % 4 = 0
      | .battery _ => s.stl.image.priorityMap / 1024 % 4 = 0
    let u := { s with txq := (s.join c).txq }
    let displaced : Prop := urgent = true ∧ (s.lnk.access = .gap ∨ s.lnk.access = .backoff) ∧
      ∃ e ∈ s.txq.entries, s.lnk.selected = some e.order ∧ 2 ≤ e.priority
    (displaced → s.join c = State.search { u with lnk := freed s.lnk }) ∧
    (¬displaced → s.join c = u.search) ∧
    (¬displaced → s.lnk.access ≠ .idle → s.join c = u)

/-- R125, R126: overflow.  A frame other than a STATUS that meets a list of 8 evicts the entry `OverflowRule`
gives, which leaves (its access ending with a search, if it was selected), and joins, or is dropped; either way
a status demand with reason OVERFLOW follows.  A STATUS that meets a full list evicts and joins with OVERFLOW
beside its reason (that the demand R125 makes finds the STATUS just joined is DEDUCED, log entry 41), or is dropped
with no further demand.  A status demand with room joins a STATUS of its one
reason; with a STATUS in the list it adds the reason, to the entry or, in flight, to status owed. -/
def OverflowEffect : Prop :=
  ∀ (s : State) (c : Content) (r : Reason), QueueSound s →
    let one : Reasons := ⟨r = .period, r = .start, r = .seqEvent, r = .tagChange, r = .crew,
      r = .overflow⟩
    let added := fun q : Reasons => Reasons.mk (q.period || one.period) (q.start || one.start)
      (q.seqEvent || one.seqEvent) (q.tagChange || one.tagChange) (q.crew || one.crew)
      (q.overflow || one.overflow)
    let prio := c.priority s.stl.image.priorityMap
    let gone := fun v : Entry => { s with
      txq := { s.txq with entries := s.txq.entries.filter fun x => x.order ≠ v.order } }
    let freed := fun v : Entry => { gone v with
      lnk := { s.lnk with access := .idle, selected := none, slot := none } }
    let left := fun v : Entry =>
      State.search (if s.lnk.selected = some v.order then freed v else gone v)
    (s.txq.entries.length < 8 → s.joinFrame c = s.join c) ∧
    (s.txq.entries.length = 8 → s.txq.evicts prio = none → s.joinFrame c = s.statusDemand .overflow) ∧
    (∀ v, s.txq.entries.length = 8 → s.txq.evicts prio = some v →
      s.joinFrame c = ((left v).join c).statusDemand .overflow ∧
        v ∉ ((left v).join c).txq.entries ∧
        ∀ x ∈ s.txq.entries, x = v ∨ x ∈ ((left v).join c).txq.entries) ∧
    ((∀ e ∈ s.txq.entries, e.isStatus = false) →
      (s.txq.entries.length < 8 → s.statusDemand r = s.join (.status one)) ∧
      (s.txq.entries.length = 8 →
        s.statusDemand r = (match s.txq.evicts (s.stl.image.priorityMap / 256 % 4) with
          | some v => (left v).join (.status { one with overflow := true })
          | none => s))) ∧
    (∀ e ∈ s.txq.entries, ∀ q, e.content = .status q →
      s.statusDemand r =
        if e.inFlight then
          { s with txq := { s.txq with owed := some (match s.txq.owed with
            | some w => added w
            | none => one) } }
        else
          { s with
            txq := { s.txq with
              entries := s.txq.entries.map fun x =>
                if x.order = e.order then { x with content := .status (added q) } else x } })

/-- R114: an entry of a priority is eligible when the station has an own id, the radio is not OFF and no
warm-up runs, and, in SPARSE or while the quiet timer runs, its priority is 0 or 1. -/
def EligibleEntries : Prop :=
  ∀ (l : Lnk) (own : Bool) (p : Nat), l.eligible own p = true ↔
    own = true ∧ l.power ≠ .off ∧ l.warmUp = none ∧ (l.power = .sparse → p ≤ 1) ∧
      (l.quiet ≠ none → p ≤ 1)

/-- R123 to R126, R40, R129, R131: with room in the list, the asking for a SEQ_EVENT puts one entry of that
content in the list, with the next join order and 0 attempts, and demands a STATUS with reason SEQ_EVENT;
every entry that is no STATUS stays as it is, and outside the TXQ and the access of the LNK nothing
changes. -/
def SeqEventJoins : Prop :=
  ∀ (s : State) (k : EventKind), QueueSound s → s.txq.entries.length ≤ 6 →
    ∃ e ∈ (s.askSeqEvent k).txq.entries,
      e.content = .seqEvent ⟨k, s.now, s.sqc.state, s.sqc.shot, s.sqc.cause, s.mdu.position,
        if k = .trip then s.sqc.record else none⟩ ∧
      e.order = s.txq.nextOrder ∧ e.joinTime = s.now ∧ e.attempts = 0 ∧ e.inFlight = false ∧
      e.priority = s.stl.image.priorityMap / 4 % 4 ∧
      (∀ x ∈ s.txq.entries, x.isStatus = false → x ∈ (s.askSeqEvent k).txq.entries) ∧
      ((∃ x ∈ (s.askSeqEvent k).txq.entries, ∃ r, x.content = .status r ∧ r.seqEvent = true) ∨
        ∃ r, (s.askSeqEvent k).txq.owed = some r ∧ r.seqEvent = true) ∧
      { s.askSeqEvent k with
        txq := s.txq,
        lnk := { (s.askSeqEvent k).lnk with
          access := s.lnk.access, selected := s.lnk.selected, slot := s.lnk.slot } } = s

/-- R129, R131, R134, R30: with room in the list, the asking for a TAG_NOTICE, a REQUEST_RESULT or a PICKUP adds
one entry with the content named for its kind, taken at the asking, with the next join order and 0 attempts;
after a TAG_NOTICE a STATUS is demanded with reason TAG_CHANGE; outside the TXQ and the access of the LNK
nothing changes. -/
def AskingsJoin : Prop :=
  ∀ (s : State) (crew : Nat) (k : RequestKind) (o : RequestOutcome) (els : ElementSet), QueueSound s →
    let entry := fun (c : Content) (p : Nat) => Entry.mk c p s.txq.nextOrder s.now 0 false false
    let quiet := fun t : State => { t with
      txq := s.txq,
      lnk := { t.lnk with
        access := s.lnk.access, selected := s.lnk.selected, slot := s.lnk.slot } }
    (s.txq.entries.length ≤ 6 →
      entry (.tagNotice ⟨s.tgt.hotlineOn, s.rtm.items.tags, s.rtm.items.tagUnknown⟩)
        (s.stl.image.priorityMap / 16 % 4) ∈ s.askTagNotice.txq.entries ∧
      (∀ x ∈ s.txq.entries, x.isStatus = false → x ∈ s.askTagNotice.txq.entries) ∧
      ((∃ x ∈ s.askTagNotice.txq.entries, ∃ r, x.content = .status r ∧ r.tagChange = true) ∨
        ∃ r, s.askTagNotice.txq.owed = some r ∧ r.tagChange = true) ∧
      quiet s.askTagNotice = s) ∧
    (s.txq.entries.length < 8 →
      (∀ x, x ∈ (s.askResult crew k o).txq.entries ↔ x ∈ s.txq.entries ∨
        x = entry (.result ⟨crew, k, o⟩) (s.stl.image.priorityMap / 64 % 4)) ∧
      quiet (s.askResult crew k o) = s ∧
      (∀ x, x ∈ (s.askPickup els).txq.entries ↔ x ∈ s.txq.entries ∨
        x = entry (.pickup ⟨els, s.sqc.shot, s.stl.image.qQuiet, s.stl.image.sUp, s.stl.image.sDn⟩) 0) ∧
      quiet (s.askPickup els) = s)

/-- R114, R115: in IDLE the search selects the first eligible entry of the list, which enters GAP for 2
slots, or for 5 while the pacing counter is not 0; with none eligible, or outside IDLE, it changes
nothing. -/
def SearchSelectsFirst : Prop :=
  ∀ s : State, QueueSound s →
    (s.lnk.access ≠ .idle → s.search = s) ∧
    (s.lnk.access = .idle →
      (∀ e ∈ s.txq.entries, s.lnk.eligible s.stl.image.stationId.isSome e.priority = false) →
      s.search = s) ∧
    (∀ e ∈ s.txq.entries, s.lnk.access = .idle →
      s.lnk.eligible s.stl.image.stationId.isSome e.priority = true →
      (∀ x ∈ s.txq.entries, before x e →
        s.lnk.eligible s.stl.image.stationId.isSome x.priority = false) →
      s.search =
        { s with
          lnk := { s.lnk with
            access := .gap, selected := some e.order,
            slot := some ⟨s.now, if s.lnk.pacing = 0 then 20 else 50⟩ } })

/-- R142 to R144: which entry of a full table a newcomer evicts.  The rows rank the entries: SILENT and not
adjacent first, SILENT and adjacent next, FRESH and not adjacent last and for an adjacent newcomer alone; a
FRESH adjacent entry is never evicted.  Of the first row that finds an entry the one of the greatest age of
last heard goes, and among equal ages the one of the highest station id. -/
def AdmissionRule : Prop :=
  ∀ (s : State) (adj : Bool),
    let age := fun e : PeerEntry => ageOf s.now e.lastHeard
    let near := fun e : PeerEntry => s.stl.image.adjacent e.segments
    let rank := fun e : PeerEntry =>
      if age e ≤ 1000 * s.stl.image.silenceLimit then (if near e then 4 else 3)
      else if near e then 2 else 1
    (∀ g : Segments, s.stl.image.adjacent (some g) = true ↔
      (g.up ≠ 0 ∧ (g.up = s.stl.image.sUp ∨ g.up = s.stl.image.sDn)) ∨
        (g.dn ≠ 0 ∧ (g.dn = s.stl.image.sUp ∨ g.dn = s.stl.image.sDn))) ∧
    s.stl.image.adjacent none = false ∧
    (s.evictedPeer adj = none ↔ ∀ e ∈ s.pvt, rank e = 4 ∨ (rank e = 3 ∧ adj = false)) ∧
    (∀ v, s.evictedPeer adj = some v → v ∈ s.pvt ∧ rank v ≤ 3 ∧ (rank v = 3 → adj = true) ∧
      ∀ e ∈ s.pvt, rank v < rank e ∨
        (rank v = rank e ∧ (age e < age v ∨ (age e = age v ∧ e.id ≤ v.id))))

/-- R145 to R147, R163: the peer table's answers.  The downstream pickup is that of the latest pickup time no
more than 250 ms old, the feeding peer is the FRESH candidate heard last, else SILENT with the candidate heard
last, else ABSENT, each with the lowest station id among equal ages; the tagging peers are the FRESH bounding
peers with a tag, TAG_UNKNOWN or no tags heard, and the FRESH peers with a SEGMENT tag on the segment.  The
TGT answers CLEAR, or TAGGED with OWN for the tag hold and with those peers; it does not ask for segment 0. -/
def PeerAnswers : Prop :=
  ∀ (s : State) (g : Nat),
    let fresh := fun e : PeerEntry => ageOf s.now e.lastHeard ≤ 1000 * s.stl.image.silenceLimit
    let downstream := fun (e : PeerEntry) (u : Uptime) =>
      (∃ x, e.segments = some x ∧ x.up = s.stl.image.sDn) ∧ e.lastPickup = some u ∧ ageOf s.now u ≤ 250
    let candidate := fun e : PeerEntry =>
      (∃ x, e.segments = some x ∧ x.dn = g) ∧ e.role ≠ some .tie ∧ s.stl.image.stationId ≠ some e.id
    let first := fun e x : PeerEntry => ageOf s.now e.lastHeard < ageOf s.now x.lastHeard ∨
      (ageOf s.now e.lastHeard = ageOf s.now x.lastHeard ∧ e.id ≤ x.id)
    (s.downstreamPickup = none ↔ ∀ e ∈ s.pvt, ∀ u, ¬downstream e u) ∧
    (∀ id, s.downstreamPickup = some id → ∃ e ∈ s.pvt, e.id = id ∧ ∃ u, downstream e u ∧
      ∀ x ∈ s.pvt, ∀ w, downstream x w → ageOf s.now u < ageOf s.now w ∨
        (ageOf s.now u = ageOf s.now w ∧ e.id ≤ x.id)) ∧
    (match s.feedingPeer g with
     | .fresh e => e ∈ s.pvt ∧ candidate e ∧ fresh e ∧
         ∀ x ∈ s.pvt, candidate x → fresh x → first e x
     | .silent id => (∃ e ∈ s.pvt, e.id = id ∧ candidate e ∧ ∀ x ∈ s.pvt, candidate x → first e x) ∧
         ∀ x ∈ s.pvt, candidate x → ¬fresh x
     | .absent => ∀ x ∈ s.pvt, ¬candidate x) ∧
    (∀ id, id ∈ s.taggingPeers g ↔ ∃ e ∈ s.pvt, e.id = id ∧ fresh e ∧
      (((∃ x, e.segments = some x ∧ (x.up = g ∨ x.dn = g)) ∧
          ∀ y, e.tags = some y → y.records ≠ [] ∨ y.tagUnknown = true) ∨
        ∃ y, e.tags = some y ∧ ∃ x ∈ y.records, x.scope = .segment g)) ∧
    s.tagAnswer g =
      (let own : Bool := s.tgt.hotlineOn || s.rtm.items.tags ≠ [] || s.rtm.items.tagUnknown
       let peers := if g = 0 then [] else s.taggingPeers g
       if own = false ∧ peers = [] then .clear else .tagged own peers)

/-! ### The measurement chain -/

/-- R1, R2: the bits of a clock period: each channel's three integrators advance in cascade by +1 for a 1
and −1 for a 0, and the bit count rises; nothing else changes. -/
def BitAdvancesIntegrators : Prop :=
  ∀ (s : State) (bits : Byte), s.up = true → s.sfe.bitCount < 256 →
    ∃ t, exec (.modulatorBit bits) s = .next t ∧
      t = { s with sfe := { s.sfe with filters := t.sfe.filters, bitCount := s.sfe.bitCount + 1 } } ∧
      (∀ p ∈ [(0, s.sfe.filters.ia, t.sfe.filters.ia), (1, s.sfe.filters.ib, t.sfe.filters.ib),
          (2, s.sfe.filters.ic, t.sfe.filters.ic), (3, s.sfe.filters.ig, t.sfe.filters.ig),
          (4, s.sfe.filters.vs, t.sfe.filters.vs), (5, s.sfe.filters.vl, t.sfe.filters.vl),
          (6, s.sfe.filters.vb, t.sfe.filters.vb), (7, s.sfe.filters.ibat, t.sfe.filters.ibat)],
        let x : Word32 := if bits.getLsbD p.1 then 1 else -1
        p.2.2 = { p.2.1 with
          i1 := p.2.1.i1 + x, i2 := p.2.1.i2 + p.2.1.i1 + x,
          i3 := p.2.1.i3 + p.2.1.i2 + p.2.1.i1 + x })

/-- R3 to R5, R7 to R9, R15: the 256th bit's sample.  On each of the eight channels the combs advance and give
y; the bit count returns to 0; a sample still to be discarded does no more.  A used one is scaled to
floor((y + 256) / 512), clip-tested and clamped; each AC channel filters it with its DC estimate, moves the
estimate and adds the square to its half-cycle sum, and VB and IBAT add it to their battery sums. -/
def SampleCompleted : Prop :=
  ∀ s : State, s.up = true → 256 ≤ s.sfe.bitCount → s.sfe.halfCount < s.stl.tables.w / 2 →
    s.sfe.batCount < 2400 →
    let y := fun f : Cic => f.i3 - f.h1 - f.h2 - f.h3
    let scaled := fun f : Cic => ((y f).toInt + 256) / 512
    let clamped := fun f : Cic => min 32767 (max (-32768) (scaled f))
    ∃ t, exec .decimatedSample s = .next t ∧ t = { s with sfe := t.sfe } ∧
      (∀ p ∈ [(s.sfe.filters.ia, t.sfe.filters.ia), (s.sfe.filters.ib, t.sfe.filters.ib),
          (s.sfe.filters.ic, t.sfe.filters.ic), (s.sfe.filters.ig, t.sfe.filters.ig),
          (s.sfe.filters.vs, t.sfe.filters.vs), (s.sfe.filters.vl, t.sfe.filters.vl),
          (s.sfe.filters.vb, t.sfe.filters.vb), (s.sfe.filters.ibat, t.sfe.filters.ibat)],
        p.2 = { p.1 with
          h1 := p.1.i3, h2 := p.1.i3 - p.1.h1, h3 := p.1.i3 - p.1.h1 - p.1.h2 }) ∧
      (s.sfe.discard ≠ 0 →
        t.sfe = { s.sfe with
          filters := t.sfe.filters, bitCount := 0, discard := s.sfe.discard - 1 }) ∧
      (s.sfe.discard = 0 →
        t.sfe = { s.sfe with
          filters := t.sfe.filters, bitCount := 0, ac := t.sfe.ac,
          halfCount := s.sfe.halfCount + 1, batCount := s.sfe.batCount + 1,
          vbSum := s.sfe.vbSum + clamped s.sfe.filters.vb,
          ibatSum := s.sfe.ibatSum + clamped s.sfe.filters.ibat } ∧
        ∀ p ∈ [(s.sfe.ac.ia, t.sfe.ac.ia, s.sfe.filters.ia, s.stl.image.aI),
            (s.sfe.ac.ib, t.sfe.ac.ib, s.sfe.filters.ib, s.stl.image.aI),
            (s.sfe.ac.ic, t.sfe.ac.ic, s.sfe.filters.ic, s.stl.image.aI),
            (s.sfe.ac.ig, t.sfe.ac.ig, s.sfe.filters.ig, s.stl.image.aI),
            (s.sfe.ac.vs, t.sfe.ac.vs, s.sfe.filters.vs, s.stl.image.aV),
            (s.sfe.ac.vl, t.sfe.ac.vl, s.sfe.filters.vl, s.stl.image.aV)],
          let old := p.1
          let f := p.2.2.1
          let a := p.2.2.2
          let x := clamped f
          let z := if a = 0 then x else min 32767 (max (-32768) (x - (old.d + 32768) / 65536))
          p.2.1 =
            { d := if a = 0 then old.d else
                min 2147483647 (max (-2147483648) (old.d + (65536 * x - old.d) / 2 ^ (16 - a))),
              hPrev := old.hPrev, hCur := old.hCur + z.natAbs ^ 2,
              clip := old.clip || 32768 ≤ scaled f || scaled f ≤ -32768 })

/-- R9 to R13: the half-cycle update.  The sums move, the clip flags clear, the count returns to 0, and the
record is published with the rms, the clip flags and the voltage states just decided.  Each of VS and VL
counts its live run and its dead run, a band update breaks both, three high updates in a row make it LIVE and
three low ones DEAD, with the update's time and the aged mark cleared; a WARMING update leaves both channels
and the elements.  Outside the measurement chain, the elements and what acts on them, nothing changes. -/
def HalfCyclePublished : Prop :=
  ∀ s : State, s.up = true → s.stl.tables.w / 2 ≤ s.sfe.halfCount →
    ∃ t, exec .halfCycleUpdate s = .next t ∧
      t.sfe = { s.sfe with
        ac := s.sfe.ac.map fun c => { c with hPrev := c.hCur, hCur := 0, clip := false },
        halfCount := 0, warming := s.sfe.warming - 1, vs := t.sfe.vs, vl := t.sfe.vl,
        latest := some ⟨s.now, decide (s.sfe.warming ≠ 0),
          s.sfe.ac.map fun c => isqrt ((c.hPrev + c.hCur) / s.stl.tables.w),
          s.sfe.ac.map fun c => c.clip, t.sfe.vs.state, t.sfe.vl.state⟩ } ∧
      (s.sfe.warming ≠ 0 → t.sfe.vs = s.sfe.vs ∧ t.sfe.vl = s.sfe.vl) ∧
      (s.sfe.warming = 0 →
        ∀ p ∈ [(s.sfe.vs, t.sfe.vs, s.sfe.ac.vs), (s.sfe.vl, t.sfe.vl, s.sfe.ac.vl)],
          let old := p.1
          let rms := isqrt ((p.2.2.hPrev + p.2.2.hCur) / s.stl.tables.w)
          let high : Prop := p.2.2.clip = true ∨ s.stl.image.vLive ≤ rms
          let live := if high then min 3 (old.liveRun + 1) else 0
          let dead := if ¬high ∧ rms < s.stl.image.vDead then min 3 (old.deadRun + 1) else 0
          p.2.1 =
            if live = 3 ∧ old.state ≠ .live then ⟨.live, live, dead, s.now, false⟩
            else if dead = 3 ∧ old.state ≠ .dead then ⟨.dead, live, dead, s.now, false⟩
            else ⟨old.state, live, dead, old.lastChange, old.aged⟩) ∧
      t.pvt = s.pvt ∧ t.tgt = s.tgt ∧ t.stl = s.stl ∧ t.rtm = s.rtm ∧ t.clock = s.clock ∧
      t.pending = s.pending ∧ (s.sfe.warming ≠ 0 → t.peu = s.peu)

/-- R19, R22, R24, R26, R27, R29, R30, R34: an evaluated update.  The hand-offs gain one trip request exactly
when a TOC element is picked up at 65,536 or an INST element is picked up with INST enabled, naming those
elements with the update's time and rms, and the request outstanding flag stands for it; they gain one
sequence step exactly when an eligible episode of 2 updates or more ends with seq_coord on, the SQC in CLOSED
or RECLAIM, VS LIVE and the shot below the effective L minus 1.  The episode begins with length 1, eligible
outside CLOSING, grows while ANY_PICKUP stays set and is removed when it clears; an eligible one asks for one
PICKUP at its begin.  Nothing else changes. -/
def TripRequestedAtUpdate : Prop :=
  ∀ (s : State) (r : UpdateRecord), s.evaluates r = true →
    let t := s.evaluate r
    let trips : ElementSet := ⟨t.peu.toc.map fun e => e.pickedUp && e.acc = 65536,
      t.peu.inst.map fun e => e && s.selection.inst⟩
    let was := s.peu.anyPickup
    let is := t.peu.anyPickup
    let eligible : Bool := s.sqc.state = some .closed ∨ s.sqc.state = some .reclaim
    let step : Bool := was = true ∧ is = false ∧ s.stl.image.seqCoord = true ∧ eligible = true ∧
      r.vs = .live ∧ s.sqc.shot + 1 < s.effectiveL ∧
      s.peu.episode.any (fun e => e.eligible && 2 ≤ e.length) = true
    let asked : State :=
      if was = false ∧ is = true ∧ eligible = true then
        s.joinFrame (.pickup ⟨⟨t.peu.toc.map fun e => e.pickedUp, t.peu.inst⟩, s.sqc.shot,
          s.stl.image.qQuiet, s.stl.image.sUp, s.stl.image.sDn⟩)
      else s
    t.peu.outstanding = (trips.toc.any || trips.inst.any) ∧
    t.peu.episode = (if is = false then none
      else if was = true then
        s.peu.episode.map fun e => { e with length := min 65535 (e.length + 1) }
      else some ⟨1, eligible⟩) ∧
    t = { asked with
      peu := t.peu,
      transit := { s.transit with
        reports := s.transit.reports ++
          (if t.peu.outstanding then [.tripRequest ⟨r.time, trips, r.rms.currents⟩] else []) ++
          (if step then [.sequenceStep r.time] else []) } }

/-- R19: the half-cycle update evaluates the elements on the record it publishes, VS and VL with the states just
decided: the elements and the hand-offs are those that the evaluation of that record leaves, beside a test or
none, and with no test in progress so is the transmit queue, and with no byte of a frame half received the
link. -/
def UpdateEvaluated : Prop :=
  ∀ s : State, Calm s → s.stl.tables.w / 2 ≤ s.sfe.halfCount →
    ∃ t, exec .halfCycleUpdate s = .next t ∧ ∃ r ∈ t.sfe.latest,
      let u := State.evaluate { s with sfe := t.sfe } r
      r.time = s.now ∧ t.peu = u.peu ∧ t.transit.reports = u.transit.reports ∧
      (s.bcu.test = none → t.txq = u.txq ∧ (s.lnk.reception = none → t.lnk = u.lnk))

/-- R19, R22, R26, R38: when the elements evaluate, and that a record they do not evaluate at changes nothing;
the selection for the trip to come; the flag of an INST element; and the effective L. -/
def ElementsEvaluate : Prop :=
  ∀ (s : State) (r : UpdateRecord),
    (s.evaluates r = true ↔ r.warming = false ∧ s.peu.outstanding = false ∧
      (s.sqc.state = some .closed ∨ s.sqc.state = some .reclaim ∨ s.sqc.state = some .closing)) ∧
    (s.evaluates r = false → s.evaluate r = s) ∧
    (let hotline := s.tgt.hotlineOn || s.rtm.items.tags.any (fun x => x.kind = .hotline)
     s.selection.curve = (if hotline = true ∨ s.sqc.shot + 1 ≤ s.stl.image.fastShots then .fast
       else .delayed) ∧
     s.selection.inst = (hotline || s.stl.image.instMask.testBit s.sqc.shot)) ∧
    (s.evaluates r = true →
      ∀ p ∈ [(s.peu.inst.ia, (s.evaluate r).peu.inst.ia, r.clip.ia, r.rms.ia, s.stl.image.pInst),
          (s.peu.inst.ib, (s.evaluate r).peu.inst.ib, r.clip.ib, r.rms.ib, s.stl.image.pInst),
          (s.peu.inst.ic, (s.evaluate r).peu.inst.ic, r.clip.ic, r.rms.ic, s.stl.image.pInst),
          (s.peu.inst.ig, (s.evaluate r).peu.inst.ig, r.clip.ig, r.rms.ig, s.stl.image.gInst)],
        let clip := p.2.2.1
        let rms := p.2.2.2.1
        let pickup := p.2.2.2.2
        p.2.1 = (if pickup = 0 then false else if clip = true ∨ pickup ≤ rms then true
          else if 16 * rms < 15 * pickup then false else p.1)) ∧
    s.effectiveL = (if s.sqc.nonreclose = true ∨ s.tgt.hotlineOn = true ∨ s.rtm.items.tags ≠ [] ∨
        s.rtm.items.tagUnknown = true ∨ s.rsl.state = .restored then 1 else s.stl.image.l)

/-- R31, R33, R145: the hold of each TOC element at an evaluated update.  A dropout ends it and clears the
hold-spent mark; a hold whose time has elapsed, whose peer has reported a TRIP after its start, or that finds
the curve not FAST, the radio not ACTIVE or a HOTLINE tag ends and sets the mark; otherwise it stands.  An
element without one takes one, unless its mark is set, for the downstream peer of the latest pickup no more
than 250 ms old, with FAST, hold_time not 0, the radio ACTIVE and no HOTLINE tag. -/
def HoldsSettled : Prop :=
  ∀ (s : State) (r : UpdateRecord), s.evaluates r = true → r.time = s.now →
    ∀ p ∈ [(s.peu.toc.ia, (s.evaluate r).peu.toc.ia), (s.peu.toc.ib, (s.evaluate r).peu.toc.ib),
        (s.peu.toc.ic, (s.evaluate r).peu.toc.ic), (s.peu.toc.ig, (s.evaluate r).peu.toc.ig)],
      let old := p.1
      let new := p.2
      let quick : Prop := s.selection.curve = .fast ∧ s.lnk.power = .active ∧ s.hotlineHeld = false
      (new.pickedUp = false → new.hold = none ∧ new.spent = false) ∧
      (new.pickedUp = true → old.hold = none → new.spent = old.spent ∧
        new.hold = (if old.spent = false ∧ quick ∧ s.stl.image.holdTime ≠ 0 then
          s.downstreamPickup.map fun id => ⟨id, r.time⟩ else none)) ∧
      (∀ h, new.pickedUp = true → old.hold = some h →
        let ends : Prop := 10 * s.stl.image.holdTime ≤ ageOf r.time h.start ∨ ¬quick ∨
          ∃ e ∈ s.pvt, e.id = h.peer ∧ ∃ v, e.lastEvent = some v ∧ v.kind = .trip ∧
            ageOf r.time v.time < ageOf r.time h.start
        (ends → new.hold = none ∧ new.spent = true) ∧
        (¬ends → new.hold = some h ∧ new.spent = old.spent))

/-- R14, R16, R81 to R83, R86, R87: the one-second update.  The means are delivered, the sums return to 0,
and the BCU counts the current into Q, exact before the clamp to 0..Qcap, forms SoC, and counts the day
second.  A tail end of ABSORB has set Q to Qcap first.  The image, the tags, the peers and the elements
stand. -/
def SecondCounted : Prop :=
  ∀ s : State, s.up = true → 2400 ≤ s.sfe.batCount → s.bcu.daySeconds < 86400 →
    s.rtm.items.q ≤ s.stl.tables.qcap →
    let mV : Int := s.sfe.vbSum / 2400 * s.stl.image.vbGain / 4096
    let mA : Int := s.sfe.ibatSum / 2400 * s.stl.image.ibGain / 4096
    let tail : Bool := s.bcu.mode = .absorb && (mA < s.stl.image.iTail && 59 ≤ s.bcu.tailRun)
    ∃ t, exec .oneSecondUpdate s = .next t ∧
      t.bcu.latestMean = some ⟨mV, mA, s.now⟩ ∧ t.bcu.daySeconds = s.bcu.daySeconds + 1 ∧
      (t.rtm.items.q : Int) =
        max 0 (min (s.stl.tables.qcap : Int) (((if tail then s.stl.tables.qcap else s.rtm.items.q : Nat) : Int) + mA)) ∧
      t.bcu.soc = some (min 100 (100 * t.rtm.items.q /
        (if { s with rtm := { t.rtm with items := { t.rtm.items with
            health := { t.rtm.items.health with
              deepDischarge := s.rtm.items.health.deepDischarge } } } }.poor
          then s.stl.tables.qcap / 2 else s.stl.tables.qcap))) ∧
      t.sfe = { s.sfe with
        vs := { s.sfe.vs with
          aged := s.sfe.vs.aged || 2147483648 ≤ ageOf s.now s.sfe.vs.lastChange },
        vl := { s.sfe.vl with
          aged := s.sfe.vl.aged || 2147483648 ≤ ageOf s.now s.sfe.vl.lastChange },
        batCount := 0, vbSum := 0, ibatSum := 0 } ∧
      t.rtm.items.tags = s.rtm.items.tags ∧ t.rtm.items.opCounter = s.rtm.items.opCounter ∧
      t.pvt = s.pvt ∧ t.tgt = s.tgt ∧ t.stl = s.stl ∧ t.clock = s.clock

/-- R86: at every one-second update Q becomes Q + mA, exact before the clamp to 0..Qcap, whatever the charger
mode; only a tail end of ABSORB at the same update has set Q to Qcap first (R83). -/
def ChargeCounted : Prop :=
  ∀ s : State, Calm s → 2400 ≤ s.sfe.batCount → s.rtm.items.q ≤ s.stl.tables.qcap →
    let mA : Int := s.sfe.ibatSum / 2400 * s.stl.image.ibGain / 4096
    let tail : Bool := s.bcu.mode = .absorb && (mA < s.stl.image.iTail && 59 ≤ s.bcu.tailRun)
    let q : Nat := if tail then s.stl.tables.qcap else s.rtm.items.q
    ∃ t, exec .oneSecondUpdate s = .next t ∧
      (t.rtm.items.q : Int) = max 0 (min (s.stl.tables.qcap : Int) ((q : Int) + mA))

/-- R82, R83, R99: the charger at a one-second update outside a test: the duty step of the mode, then its
counts, then its exit.  A mode left clears the counts and keeps the duty; a limit end of ABSORB, at which the
tail run has not reached 60, adds 1 to ABSORB_LIMIT, and a tail end clears Q_UNCERTAIN.  In TEST the duty is
0. -/
def ChargerSteps : Prop :=
  ∀ s : State, s.up = true → 2400 ≤ s.sfe.batCount → s.bcu.daySeconds < 86400 →
    let mV : Int := s.sfe.vbSum / 2400 * s.stl.image.vbGain / 4096
    let mA : Int := s.sfe.ibatSum / 2400 * s.stl.image.ibGain / 4096
    let c := s.stl.image
    let d := s.bcu.duty
    let up := min 255 (d + 1)
    let tail := if mA < c.iTail then min 60 (s.bcu.tailRun + 1) else 0
    let absorbed := min 14400 (s.bcu.absorbSeconds + 1)
    let low := if mV < (c.vFloat : Int) - 500 then min 60 (s.bcu.lowFloatRun + 1) else 0
    let kept := fun (m : ChargerMode) (x : Nat) =>
      (m, x, s.bcu.absorbSeconds, s.bcu.tailRun, s.bcu.floatSeconds, s.bcu.lowFloatRun)
    ∃ t, exec .oneSecondUpdate s = .next t ∧
      (s.bcu.mode = .test → t.bcu.duty = 0) ∧
      (s.bcu.test = none → s.bcu.mode ≠ .test →
        (t.bcu.mode, t.bcu.duty, t.bcu.absorbSeconds, t.bcu.tailRun, t.bcu.floatSeconds,
            t.bcu.lowFloatRun) =
          (match s.bcu.mode with
           | .off => kept .off 0
           | .test => kept .test 0
           | .bulk =>
             let x := if mA < c.iBulk ∧ mV < c.vAbs then up else if c.iBulk + 200 < mA then d - 1 else d
             if c.vAbs ≤ mV then (.absorb, x, 0, 0, 0, 0) else kept .bulk x
           | .absorb =>
             let x := if mV < (c.vAbs : Int) - 50 then up else if c.vAbs < mV then d - 1 else d
             if tail = 60 ∨ absorbed = 14400 then (.float, x, 0, 0, 0, 0)
             else (.absorb, x, absorbed, tail, s.bcu.floatSeconds, s.bcu.lowFloatRun)
           | .float =>
             let x := if mV < (c.vFloat : Int) - 50 then up else if c.vFloat < mV then d - 1 else d
             if low = 60 then (.bulk, x, 0, 0, 0, 0)
             else (.float, x, s.bcu.absorbSeconds, s.bcu.tailRun,
               min 65535 (s.bcu.floatSeconds + 1), low))) ∧
      t.rtm.items.health.absorbLimit.raw =
        (if s.bcu.mode = .absorb ∧ tail ≠ 60 ∧ absorbed = 14400 then
          min 65535 (s.rtm.items.health.absorbLimit.raw + 1)
        else s.rtm.items.health.absorbLimit.raw) ∧
      t.rtm.items.qUncertain = (s.rtm.items.qUncertain && !(s.bcu.mode = .absorb && tail = 60))

/-- R88 to R91, R112, R119, R132: the class at a one-second update.  The cutoff run counts the updates below
V_cut, and neither rises nor falls while a test runs; the class is evaluated from the SoC just formed and the
update's mV, or V0 while a test runs; an update at which the SoC terms leave NORMAL ends the test as ABORTED, and
is evaluated on its mV with the run counted (that the SoC terms decide this first is DEDUCED, log entry 44);
CUTOFF is entered where the run reaches 10 outside CUTOFF, and counts one deep discharge.  A change of class
sets the radio power state, from OFF with the 20 ms warm-up, in SENDING as the pending one unless it is OFF;
and it starts the status period anew or stops it. -/
def ClassAtSecond : Prop :=
  ∀ s : State, s.up = true → QueueSound s → RadioSound s → 2400 ≤ s.sfe.batCount →
    s.bcu.daySeconds < 86400 →
    let mV : Int := s.sfe.vbSum / 2400 * s.stl.image.vbGain / 4096
    ∃ t, exec .oneSecondUpdate s = .next t ∧
      let ends : Bool := s.bcu.test ≠ none ∧ t.rtm.items.qUncertain = false ∧ t.bcu.soc.getD 0 < 60
      let shield := if ends then none else s.bcu.test
      let run := if shield ≠ none then s.bcu.cutoffRun
        else if mV < s.stl.image.vCut then min 10 (s.bcu.cutoffRun + 1) else 0
      let reached : Bool := run = 10 ∧ s.bcu.cutoffRun ≠ 10 ∧ s.bcu.cls ≠ some .cutoff
      (ends = true → t.bcu.test = none ∧ t.bcu.latestAttempt = some .aborted) ∧
      t.bcu.cutoffRun = run ∧
      t.bcu.cls = some (classAfter s.stl.image
        { soc := t.bcu.soc.getD 0, uncertain := t.rtm.items.qUncertain,
          mV := (match shield with
            | some x => x.v0
            | none => mV),
          supplyOk := s.bcu.supplyOk, cutoffReached := reached } s.bcu.cls) ∧
      t.rtm.items.health.deepDischarge.raw =
        (if reached then min 65535 (s.rtm.items.health.deepDischarge.raw + 1)
        else s.rtm.items.health.deepDischarge.raw) ∧
      (t.bcu.cls = s.bcu.cls → t.lnk.power = s.lnk.power ∧ t.lnk.pendingPower = s.lnk.pendingPower ∧
        t.lnk.rng = s.lnk.rng ∧ t.txq.period = s.txq.period) ∧
      (t.bcu.cls ≠ s.bcu.cls →
        let radio : RadioPower := match t.bcu.cls with
          | some .normal => .active
          | some .economy => .duty
          | some .protectOnly => .sparse
          | some .cutoff => .off
          | none => .off
        let period := if t.bcu.cls = some .normal then s.stl.image.statusPeriod
          else 4 * s.stl.image.statusPeriod
        (if s.lnk.access = .sending ∧ radio ≠ .off then
          t.lnk.power = s.lnk.power ∧ t.lnk.pendingPower = some radio
        else t.lnk.power = radio ∧ t.lnk.pendingPower = none) ∧
        (s.lnk.power = .off → radio ≠ .off → t.lnk.warmUp = some ⟨s.now, 20⟩) ∧
        (radio = .off → t.lnk.access = .idle ∧ t.lnk.warmUp = none ∧ t.lnk.cycle = none) ∧
        (if t.bcu.cls = some .normal ∨ t.bcu.cls = some .economy then
          t.lnk.rng = rngNext s.lnk.rng ∧ t.txq.period = some ⟨s.now,
            1000 * (period + (rngNext s.lnk.rng).toNat % (period / 10 + 1))⟩
        else t.lnk.rng = s.lnk.rng ∧ t.txq.period = none))

/-- R92: a day rollover with no test falling due: the day seconds return to 0 and the days since test rise,
saturating; nothing else changes. -/
def DayRollsOver : Prop :=
  ∀ s : State, Calm s → 86400 ≤ s.bcu.daySeconds →
    (s.bcu.testDue = true ∨ min 65535 (s.rtm.items.daysSinceTest + 1) < s.stl.image.testInterval) →
    exec .dayRollover s = .next
      { s with
        bcu := { s.bcu with daySeconds := 0 },
        rtm := Rtm.written { s.rtm.items with
          daysSinceTest := min 65535 (s.rtm.items.daysSinceTest + 1) } }

/-- R92, R93: a day rollover at which a scheduled test falls due: the day is counted, test due is set, and the
attempt is made at once: with the preconditions held the test begins, with V0 from the latest mean, the load on,
D at 0 and the load timer at 10 s; otherwise the retry timer starts at 60 s.  A test then running keeps the
update of the rollover as its loaded mean (that one begun here does is DEDUCED, log entry 23). -/
def ScheduledTestFallsDue : Prop :=
  ∀ (s : State) (m : Mean), Calm s → 86400 ≤ s.bcu.daySeconds → s.bcu.testDue = false →
    s.bcu.latestMean = some m →
    let days := min 65535 (s.rtm.items.daysSinceTest + 1)
    s.stl.image.testInterval ≤ days →
    exec .dayRollover s = .next
      { s with
        rtm := Rtm.written { s.rtm.items with daysSinceTest := days },
        bcu := if TestMayBegin s then
            { s.bcu with
              daySeconds := 0, testDue := true, mode := .test, duty := 0, absorbSeconds := 0,
              tailRun := 0, floatSeconds := 0, lowFloatRun := 0,
              test := some ⟨.scheduled, m.mV, s.now, some m⟩, loadTimer := some ⟨s.now, 10000⟩,
              retryTimer := none }
          else
            { s.bcu with
              daySeconds := 0, testDue := true, retryTimer := some ⟨s.now, 60000⟩,
              test := s.bcu.test.map fun x => { x with loaded := some m } } }

/-! ### The sequence -/

/-- R38, R41, R42, R67, R71: a trip request in CLOSED, RECLAIM or CLOSING raises the shot by 1, to at most L.  (That
one which meets the shot L leaves it there is DEDUCED, log entry 22.) -/
def TripRequestTaken : Prop :=
  ∀ (s : State) (r : TripRequest) (rest : List Report),
    Plain s → MayTrip s → takeReport Report.asTrip s.transit.reports = some (r, rest) →
    exec .tripRequest s = .next
      (tripTaken (withReports s rest) .protection
        (if s.sqc.shot < s.stl.image.l then s.sqc.shot + 1 else s.stl.image.l) r.elements r.rms)

/-- R20, R41: a trip request that meets TRIPPING is absorbed; one that meets DEAD, ENERGY_WAIT, LOCKOUT or
STUCK is dropped, and the PEU clears its elements and the request outstanding flag. -/
def TripRequestNotTaken : Prop :=
  ∀ (s : State) (r : TripRequest) (rest : List Report),
    Plain s → takeReport Report.asTrip s.transit.reports = some (r, rest) →
    (s.sqc.state = some .tripping → exec .tripRequest s = .next (withReports s rest)) ∧
    (Waiting s ∨ s.sqc.state = some .lockout ∨ s.sqc.state = some .stuck →
      exec .tripRequest s = .next { withReports s rest with peu := Peu.start })

/-- R47, R34: a sequence step in CLOSED or RECLAIM with the shot below the effective L minus 1 raises the
shot and enters RECLAIM; any other step is dropped. -/
def SequenceStepTaken : Prop :=
  ∀ (s : State) (u : Uptime) (rest : List Report),
    Plain s → Indifferent s → takeReport Report.asStep s.transit.reports = some (u, rest) →
    exec .sequenceStep s = .next
      (if (s.sqc.state = some .closed ∨ s.sqc.state = some .reclaim) ∧ s.sqc.shot + 1 < s.effectiveL then
        reclaiming (withReports s rest) (s.sqc.shot + 1)
      else withReports s rest)

/-- R43, R20, R40: the open confirmation in TRIPPING: the record takes the operating time, the operation
cause is removed, a protection trip with its shot below the effective L goes to DEAD for the dead time of
its shot and any other trip to LOCKOUT with its cause, the elements are cleared, and TRIP and then
DEAD_TIME or LOCKOUT are asked for. -/
def OpenConfirmed : Prop :=
  ∀ (s : State) (ms : Nat) (rest : List Report) (c : OpCause),
    Plain s → Indifferent s → s.sqc.state = some .tripping → s.sqc.opCause = some c →
    takeReport Report.asOpen s.transit.reports = some (ms, rest) →
    let q : Sqc := { s.sqc with
      record := s.sqc.record.map fun r => { r with operating := some ms }, opCause := none }
    exec .openConfirmation s = .next
      (if c = .protection ∧ s.sqc.shot < s.effectiveL then
        (State.askSeqEvent
          { withReports s rest with
            sqc := { q with
              state := some .dead, cause := none, demandTimer := none,
              deadTimer := some ⟨s.now, 10 * (if s.sqc.shot ≤ 1 then s.stl.image.dt1
                else if s.sqc.shot = 2 then s.stl.image.dt2 else s.stl.image.dt3)⟩ },
            peu := Peu.start } .trip).askSeqEvent .deadTime
      else
        (State.askSeqEvent
          { withReports s rest with
            sqc := { q with state := some .lockout, cause := some c.cause }, peu := Peu.start }
          .trip).askSeqEvent .lockout)

/-- R58: in STUCK an open confirmation clears the STUCK attempt and the operation cause, fills the record
and asks for TRIP; a TRIP_FAIL clears them, sets the cause and asks for STUCK; a position fault sets the
cause.  The state stays STUCK.  (With the STUCK attempt clear, where R58's table holds a dash, the reports act
alike: the model's reading, DEDUCED, log entry 32.) -/
def StuckTakesReports : Prop :=
  ∀ (s : State) (ms : Nat) (rest : List Report), Plain s → s.sqc.state = some .stuck →
    (takeReport (Report.asPlain .positionFault) s.transit.reports = some ((), rest) →
      exec .positionFault s = .next
        { withReports s rest with sqc := { s.sqc with cause := some .position } }) ∧
    (takeReport Report.asOpen s.transit.reports = some (ms, rest) →
      exec .openConfirmation s = .next (State.askSeqEvent
        { withReports s rest with
          sqc := { s.sqc with
            record := s.sqc.record.map fun r => { r with operating := some ms }, opCause := none,
            stuckAttempt := false } } .trip)) ∧
    (takeReport (Report.asPlain .tripFail) s.transit.reports = some ((), rest) →
      exec .tripFail s = .next (State.askSeqEvent
        { withReports s rest with
          sqc := { s.sqc with opCause := none, stuckAttempt := false, cause := some .tripFail } } .stuck))

/-- R58, R20, R165: TRIP_FAIL in TRIPPING enters STUCK(TRIP_FAIL), and a position fault enters
STUCK(POSITION) from any other state than STUCK. -/
def StuckEntered : Prop :=
  ∀ (s : State) (rest : List Report), Plain s → Indifferent s →
    (s.sqc.state = some .tripping →
      takeReport (Report.asPlain .tripFail) s.transit.reports = some ((), rest) →
      exec .tripFail s = .next (stuckIn (withReports s rest) .tripFail)) ∧
    (s.sqc.state ≠ none → s.sqc.state ≠ some .stuck →
      takeReport (Report.asPlain .positionFault) s.transit.reports = some ((), rest) →
      exec .positionFault s = .next (stuckIn (withReports s rest) .position))

/-- R46: the close confirmation in CLOSING enters RECLAIM with the shot and the SEQ_EVENT of its source;
CLOSE_FAIL in CLOSING enters LOCKOUT(CLOSE_FAIL) with the shot kept. -/
def CloseAnswered : Prop :=
  ∀ (s : State) (rest : List Report) (src : CloseSource), Plain s → Indifferent s →
    s.sqc.state = some .closing → s.sqc.closeSource = some src →
    (takeReport (Report.asPlain .closeConfirmation) s.transit.reports = some ((), rest) →
      exec .closeConfirmation s = .next (State.askSeqEvent
        (reclaiming (withReports s rest) (if src = .auto then s.sqc.shot else s.stl.image.l - 1))
        (if src = .auto then .reclose else if src = .restore then .restoreClose else .manualClose))) ∧
    (takeReport (Report.asPlain .closeFail) s.transit.reports = some ((), rest) →
      exec .closeFail s = .next (lockedOut (withReports s rest) .closeFail))

/-- R56, R57: an unsolicited open in CLOSED or RECLAIM locks out, with cause HANDLE where HANDLE was down at
the report; an unsolicited close in DEAD, ENERGY_WAIT or LOCKOUT enters RECLAIM with shot L − 1 whatever the
close gate says. -/
def UnsolicitedChanges : Prop :=
  ∀ (s : State) (h : Bool) (rest : List Report), Plain s → Indifferent s →
    (s.sqc.state = some .closed ∨ s.sqc.state = some .reclaim →
      takeReport Report.asUnsolicitedOpen s.transit.reports = some (h, rest) →
      exec .unsolicitedOpen s = .next
        (lockedOut (withReports s rest) (if h then .handle else .externalOpen))) ∧
    (Waiting s ∨ s.sqc.state = some .lockout →
      takeReport (Report.asPlain .unsolicitedClose) s.transit.reports = some ((), rest) →
      exec .unsolicitedClose s = .next
        ((reclaiming (withReports s rest) (s.stl.image.l - 1)).askSeqEvent .externalClose))

/-- R44: the dead timer's expiry: a shut gate locks out with the cause of the first condition that shuts it;
an open one begins the automatic close with the store READY, waits for it at t_ewait, or locks out with
cause ENERGY where t_ewait is 0. -/
def DeadTimeOver : Prop :=
  ∀ s : State, Plain s → s.sqc.state = some .dead → s.sqc.deadTimer ≠ none → s.mdu.op = .idle →
    s.sqc.demandTimer = none → s.bcu.cls ≠ some .protectOnly →
    exec .deadTimerExpiry s = .next (deadTimeEnded s)

/-- R45, R47, R53: the expiries of the energy wait, of the reclaim timer and of the close-demand timer. -/
def SequenceTimersOver : Prop :=
  ∀ s : State, Plain s → s.bcu.cls ≠ some .protectOnly →
    (s.sqc.state = some .energyWait → s.sqc.ewaitTimer ≠ none →
      exec .energyWaitExpiry s = .next (lockedOut s .energy)) ∧
    (s.sqc.state = some .reclaim → s.sqc.reclaimTimer ≠ none → s.sqc.demandTimer = none →
      exec .reclaimExpiry s = .next
        { s with
          sqc := { s.sqc with state := some .closed, cause := none, shot := 0, reclaimTimer := none } }) ∧
    (s.sqc.demandTimer ≠ none →
      exec .closeDemandExpiry s = .next { s with sqc := { s.sqc with demandTimer := none } })

/-- R51, R42: a panel TRIP trips with cause MANUAL and the rms of the latest record in CLOSED, RECLAIM and
CLOSING, locks out the dead states with no trip, and is ignored in TRIPPING, in LOCKOUT and before the start
state. -/
def PanelTrip : Prop :=
  ∀ (s : State) (r : UpdateRecord), Plain s → Indifferent s → s.sfe.latest = some r →
    (MayTrip s → exec .panelTrip s = .next
      (tripTaken s .manual s.sqc.shot ⟨Ch4.all false, Ch4.all false⟩ r.rms.currents)) ∧
    (Waiting s → exec .panelTrip s = .next (lockedOut s .manual)) ∧
    (s.sqc.state = some .tripping ∨ s.sqc.state = some .lockout ∨ s.sqc.state = none →
      exec .panelTrip s = .next s)

/-- R58: in STUCK a panel TRIP asks for one trip operation while no attempt is set and the position is not
OPEN, and is ignored otherwise. -/
def PanelTripInStuck : Prop :=
  ∀ (s : State) (r : UpdateRecord), Plain s → s.sfe.latest = some r → s.sqc.state = some .stuck →
    s.mdu.tripping = false →
    exec .panelTrip s = .next
      (if s.sqc.stuckAttempt = true ∨ s.mdu.position = some .opened then s
      else stuckTrip s .manual r.rms.currents)

/-- R52, R53: a panel CLOSE that passes the five tests begins the close; one that fails the store alone
starts the close-demand timer; one that fails an earlier test is ignored. -/
def PanelClose : Prop :=
  ∀ s : State, Plain s → s.mdu.op = .idle → s.bcu.cls ≠ some .protectOnly →
    exec .panelClose s = .next
      (if s.sqc.state ≠ some .lockout ∨ s.tagHold = true ∨ s.mdu.handleDown = true ∨
          s.bcu.cls = some .cutoff then s
      else if s.mdu.close.state = .ready then closing s .manual
      else demandStarted s)

/-- R50, R59, R66: NONRECLOSE turned on and HANDLE gone down lock out the dead states with their causes; in
every other case the reading is taken and the sequence stands. -/
def SwitchAndHandle : Prop :=
  ∀ (s : State) (x : Bool), Plain s → Indifferent s →
    (∃ t, exec (.nonrecloseChange x) s = .next t ∧ t.sqc.nonreclose = x ∧ t.sqc.nonrecloseRead = true ∧
      (if x = true ∧ s.sqc.nonreclose = false ∧ Waiting s then
        t = { lockedOut
            { s with sqc := { s.sqc with nonreclose := true, nonrecloseRead := true } } .manual with
          rsl := t.rsl }
      else
        t = { s with
          sqc := { s.sqc with nonreclose := x, nonrecloseRead := true }, rsl := t.rsl }) ∧
      t.rsl = { s.rsl with inhibit :=
        if s.stl.fault.isSome then some .settings
        else if s.lnk.idClash then some .idClash
        else if s.sqc.state = some .stuck then some .stuck
        else if x then some .nonreclose else none }) ∧
    exec (.handleChange x) s = .next
      (if x = true ∧ s.mdu.handleDown = false ∧ Waiting s then
        lockedOut { s with mdu := { s.mdu with handleDown := true, handleRead := true } } .handle
      else { s with mdu := { s.mdu with handleDown := x, handleRead := true } })

/-- R41, R43, R46, R47, R51, R52, R56 to R58 at a station of any role and beside a test in progress, with what
they do to the restoration logic: a trip, an open or a fault ends the TIMING of a midpoint (R167); a close
taken from the panel and an external close return a midpoint from OPENED to WATCH (R169); and RESTORED ends in
INHIBITED(AFTER_RESTORE) with LOCKOUT (R174).  (A trip request that meets the shot L leaves it there: DEDUCED, log
entry 22.) -/
def SequenceAtAnyStation : Prop :=
  ∀ (s : State) (rest : List Report), Calm s →
    let u := withReports s rest
    (∀ r, MayTrip s → takeReport Report.asTrip s.transit.reports = some (r, rest) →
      ∃ t, exec .tripRequest s = .next t ∧
        SameSequence s t (tripTaken u .protection
          (if s.sqc.shot < s.stl.image.l then s.sqc.shot + 1 else s.stl.image.l) r.elements r.rms) ∧
        (s.rsl.state = .timing none → t.rsl.state = .watch)) ∧
    (∀ ms c, s.sqc.state = some .tripping → s.sqc.opCause = some c →
      takeReport Report.asOpen s.transit.reports = some (ms, rest) →
      let q : Sqc := { s.sqc with
        record := s.sqc.record.map fun x => { x with operating := some ms }, opCause := none }
      ∃ t, exec .openConfirmation s = .next t ∧
        SameSequence s t (if c = .protection ∧ s.sqc.shot < s.effectiveL then
          (State.askSeqEvent
            { u with
              sqc := { q with
                state := some .dead, cause := none, demandTimer := none,
                deadTimer := some ⟨s.now, 10 * (if s.sqc.shot ≤ 1 then s.stl.image.dt1
                  else if s.sqc.shot = 2 then s.stl.image.dt2 else s.stl.image.dt3)⟩ },
              peu := Peu.start } .trip).askSeqEvent .deadTime
        else
          (State.askSeqEvent
            { u with
              sqc := { q with state := some .lockout, cause := some c.cause }, peu := Peu.start }
            .trip).askSeqEvent .lockout) ∧
        (s.rsl.state = .restored → t.sqc.state = some .lockout →
          t.rsl.state = .inhibited .afterRestore) ∧
        (s.rsl.state = .opened → t.rsl.state = .opened)) ∧
    (∀ src, s.sqc.state = some .closing → s.sqc.closeSource = some src →
      takeReport (Report.asPlain .closeConfirmation) s.transit.reports = some ((), rest) →
      ∃ t, exec .closeConfirmation s = .next t ∧
        SameSequence s t (State.askSeqEvent
          (reclaiming u (if src = .auto then s.sqc.shot else s.stl.image.l - 1))
          (if src = .auto then .reclose else if src = .restore then .restoreClose
            else .manualClose)) ∧
        (s.rsl.state = .restored → t.rsl.state = .restored)) ∧
    (s.sqc.state = some .closing →
      takeReport (Report.asPlain .closeFail) s.transit.reports = some ((), rest) →
      ∃ t, exec .closeFail s = .next t ∧ SameSequence s t (lockedOut u .closeFail) ∧
        (s.rsl.state = .restored → t.rsl.state = .inhibited .afterRestore)) ∧
    (s.sqc.state = some .tripping →
      takeReport (Report.asPlain .tripFail) s.transit.reports = some ((), rest) →
      ∃ t, exec .tripFail s = .next t ∧ SameSequence s t (stuckIn u .tripFail) ∧
        (s.rsl.state = .opened → t.rsl.state = .opened)) ∧
    (s.sqc.state ≠ none → s.sqc.state ≠ some .stuck →
      takeReport (Report.asPlain .positionFault) s.transit.reports = some ((), rest) →
      ∃ t, exec .positionFault s = .next t ∧ SameSequence s t (stuckIn u .position) ∧
        (s.rsl.state = .timing none → t.rsl.state = .watch)) ∧
    (∀ h, s.sqc.state = some .closed ∨ s.sqc.state = some .reclaim →
      takeReport Report.asUnsolicitedOpen s.transit.reports = some (h, rest) →
      ∃ t, exec .unsolicitedOpen s = .next t ∧
        SameSequence s t (lockedOut u (if h then .handle else .externalOpen)) ∧
        (s.stl.image.role = .midpoint → s.rsl.state = .timing none → t.rsl.state = .watch) ∧
        (s.rsl.state = .restored → t.rsl.state = .inhibited .afterRestore)) ∧
    (Waiting s ∨ s.sqc.state = some .lockout →
      takeReport (Report.asPlain .unsolicitedClose) s.transit.reports = some ((), rest) →
      ∃ t, exec .unsolicitedClose s = .next t ∧
        SameSequence s t ((reclaiming u (s.stl.image.l - 1)).askSeqEvent .externalClose) ∧
        (s.rsl.state = .opened → t.rsl.state = .watch) ∧
        (∀ side, s.rsl.state = .timing (some side) → t.rsl.state = .watch)) ∧
    (s.sqc.state = some .reclaim → s.sqc.reclaimTimer ≠ none → s.sfe.vs.state ≠ .dead →
      ∃ t, exec .reclaimExpiry s = .next t ∧ SameSequence s t { s with
        sqc := { s.sqc with
          state := some .closed, cause := none, shot := 0, reclaimTimer := none,
          demandTimer := none } }) ∧
    (∀ x, MayTrip s → s.sfe.latest = some x →
      ∃ t, exec .panelTrip s = .next t ∧
        SameSequence s t (tripTaken s .manual s.sqc.shot ⟨Ch4.all false, Ch4.all false⟩
          x.rms.currents) ∧
        (s.rsl.state = .timing none → t.rsl.state = .watch)) ∧
    (s.sqc.state = some .lockout → s.tagHold = false → s.mdu.handleDown = false →
      s.bcu.cls ≠ some .cutoff → s.mdu.op = .idle → s.mdu.close.state = .ready →
      ∃ t, exec .panelClose s = .next t ∧ SameSequence s t (closing s .manual) ∧
        (s.rsl.state = .opened → t.rsl.state = .watch) ∧
        (∀ side, s.rsl.state = .timing (some side) → t.rsl.state = .watch))

/-- R45, R48, R173: the close store becoming READY.  In ENERGY_WAIT with the gate open the SQC begins the
automatic close; during the store wait of a tie a check is made, and with the feeding peer in
LOCKOUT(RESTORE_OPEN) and its position OPEN, the dead segment clear of tags and HANDLE up the restoration close
is begun. -/
def StoreReadyCloses : Prop :=
  ∀ s : State, Calm s → StoresSound s → s.mdu.op = .idle → s.mdu.close.ready ≠ some true →
    let u : State := { s with
      mdu := { s.mdu with close := ⟨.ready, some true, false, none, none⟩ } }
    (s.sqc.state = some .energyWait → s.tagHold = false → s.mdu.handleDown = false →
      s.bcu.cls ≠ some .cutoff → s.rsl.storeWait = none →
      exec (.readyInputChange .close true) s = .next (closing u .auto)) ∧
    (∀ side e, s.rsl.state = .timing (some side) → s.rsl.expired = true → s.rsl.storeWait ≠ none →
      let g := if side = .up then s.stl.image.sUp else s.stl.image.sDn
      g ≠ 0 → s.feedingPeer g = .fresh e → e.state = some .lockout → e.cause = some .restoreOpen →
      e.position = some .opened → s.tagHold = false → s.taggingPeers g = [] →
      s.mdu.handleDown = false →
      exec (.readyInputChange .close true) s = .next { closing u .restore with
        rsl := { s.rsl with state := .restored, timer := none, storeWait := none } })

/-- R44, R45, R47, R50, R53, R59, R66 at a station of any role, in any class, beside a test or none: the expiries of
the dead time, of the energy wait and of the close demand, a sequence step, and the changes of NONRECLOSE and
HANDLE, on the sequence as at any station.  A lockout of them ends RESTORED in INHIBITED(AFTER_RESTORE) (R174), a
step taken or NONRECLOSE turned on ends the TIMING of a midpoint (R167).  NONRECLOSE turned off may let a midpoint
before a dead source enter TIMING and open at once, which `TimingEntered` covers. -/
def DeadStatesAnywhere : Prop :=
  ∀ (s : State) (rest : List Report), Calm s →
    (s.sqc.state = some .dead → s.sqc.deadTimer ≠ none → s.mdu.op = .idle → s.sqc.demandTimer = none →
      ∃ t, exec .deadTimerExpiry s = .next t ∧ SameSequence s t (deadTimeEnded s) ∧
        (s.rsl.state = .restored → t.rsl.state =
          if t.sqc.state = some .lockout then .inhibited .afterRestore else .restored)) ∧
    (s.sqc.state = some .energyWait → s.sqc.ewaitTimer ≠ none →
      ∃ t, exec .energyWaitExpiry s = .next t ∧ SameSequence s t (lockedOut s .energy) ∧
        (s.rsl.state = .restored → t.rsl.state = .inhibited .afterRestore)) ∧
    (s.sqc.demandTimer ≠ none →
      ∃ t, exec .closeDemandExpiry s = .next t ∧
        SameSequence s t { s with sqc := { s.sqc with demandTimer := none } } ∧ t.rsl = s.rsl) ∧
    (∀ u, takeReport Report.asStep s.transit.reports = some (u, rest) →
      let taken : Prop := (s.sqc.state = some .closed ∨ s.sqc.state = some .reclaim) ∧
        s.sqc.shot + 1 < s.effectiveL
      ∃ t, exec .sequenceStep s = .next t ∧
        (taken → SameSequence s t (reclaiming (withReports s rest) (s.sqc.shot + 1)) ∧
          (s.rsl.state = .timing none → t.rsl.state = .watch)) ∧
        (¬taken → SameSequence s t (withReports s rest) ∧ t.rsl = s.rsl)) ∧
    (∀ x, ∃ t, exec (.nonrecloseChange x) s = .next t ∧ t.sqc.nonreclose = x ∧
      t.sqc.nonrecloseRead = true ∧
      (x = true ∨ s.rsl.state ≠ .watch ∨ s.sfe.vs.state ≠ .dead →
        let read := { s with sqc := { s.sqc with nonreclose := x, nonrecloseRead := true } }
        SameSequence s t
          (if x = true ∧ s.sqc.nonreclose = false ∧ Waiting s then lockedOut read .manual else read) ∧
        (x = true → s.rsl.state = .timing none → t.rsl.state = .watch) ∧
        (s.rsl.state = .restored → t.sqc.state = some .lockout →
          t.rsl.state = .inhibited .afterRestore))) ∧
    (∀ x, ∃ t, exec (.handleChange x) s = .next t ∧
      SameSequence s t
        (if x = true ∧ s.mdu.handleDown = false ∧ Waiting s then
          lockedOut { s with mdu := { s.mdu with handleDown := true, handleRead := true } } .handle
        else { s with mdu := { s.mdu with handleDown := x, handleRead := true } }) ∧
      (s.rsl.state = .restored → t.sqc.state = some .lockout →
        t.rsl.state = .inhibited .afterRestore))

/-- R50 to R53, R55, R58, R134 at a station of any role, in any class, beside a test or none: the panel TRIP in the
dead states, in STUCK and where it is ignored; the panel CLOSE, also one refused for its store alone, which starts
the close demand; and the crew TRIP and CLOSE with their outcomes.  (That the RSL takes the press before the SQC is
DESIGN CHOICE, log entry 31; the order of a crew TRIP's frames is DEDUCED, log entry 24.) -/
def PressesAnywhere : Prop :=
  ∀ (s : State) (u : UpdateRecord), Calm s → s.sfe.latest = some u →
    (Waiting s → ∃ t, exec .panelTrip s = .next t ∧ SameSequence s t (lockedOut s .manual) ∧
      (s.rsl.state = .restored → t.rsl.state = .inhibited .afterRestore)) ∧
    (s.sqc.state = some .stuck → s.mdu.tripping = false →
      ∃ t, exec .panelTrip s = .next t ∧ SameSequence s t
        (if s.sqc.stuckAttempt = true ∨ s.mdu.position = some .opened then s
        else stuckTrip s .manual u.rms.currents)) ∧
    (s.sqc.state = some .tripping ∨ s.sqc.state = some .lockout ∨ s.sqc.state = none →
      ∃ t, exec .panelTrip s = .next t ∧ SameSequence s t s) ∧
    (s.mdu.op = .idle → ∃ t, exec .panelClose s = .next t ∧ SameSequence s t
      (if s.sqc.state ≠ some .lockout ∨ s.tagHold = true ∨ s.mdu.handleDown = true ∨
          s.bcu.cls = some .cutoff then s
      else if s.mdu.close.state = .ready then closing s .manual
      else demandStarted s)) ∧
    (∀ q r rest, RequestArrives s .trip q r rest →
      let h := heard s r rest
      ∃ t, exec .crewTrip s = .next t ∧
        (MayTrip s → SameSequence s t ((tripTaken h .crew s.sqc.shot ⟨Ch4.all false, Ch4.all false⟩
          u.rms.currents).askResult q.crew .trip .accepted)) ∧
        (Waiting s → SameSequence s t ((lockedOut h .crew).askResult q.crew .trip .accepted)) ∧
        (s.sqc.state = some .tripping ∨ s.sqc.state = some .lockout ∨ s.sqc.state = none →
          SameSequence s t (h.askResult q.crew .trip .refusedState)) ∧
        (s.sqc.state = some .stuck → s.mdu.tripping = false → SameSequence s t
          (if s.sqc.stuckAttempt = true ∨ s.mdu.position = some .opened then
            h.askResult q.crew .trip .refusedState
          else (stuckTrip h .crew u.rms.currents).askResult q.crew .trip .accepted))) ∧
    (∀ q r rest, RequestArrives s .close q r rest → s.mdu.op = .idle →
      let h := heard s r rest
      ∃ t, exec .crewClose s = .next t ∧ SameSequence s t
        (if s.sqc.state ≠ some .lockout then h.askResult q.crew .close .refusedState
        else if s.tagHold then h.askResult q.crew .close .refusedTagged
        else if s.mdu.handleDown then h.askResult q.crew .close .refusedState
        else if s.bcu.cls = some .cutoff then h.askResult q.crew .close .refusedEnergy
        else if s.mdu.close.state = .ready then
          (closing h .crew).askResult q.crew .close .accepted
        else (demandStarted h).askResult q.crew .close .refusedEnergy))

/-- R61, R63, R64: the first position, from the contacts or UNKNOWN after 1,000 ms without one, gives the SQC
its start state and cause at a station of any role.  A first position of UNKNOWN is itself the position fault
of its stay, and starts no timer.  No SEQ_EVENT is asked for, and nothing else changes but what the RSL takes
from the new state: its inhibit reason, and the entry of a midpoint to TIMING (with t_mid not yet run, so that
it makes no check). -/
def FirstPositionDecides : Prop :=
  ∀ (s : State) (o c : Bool), Calm s → s.mdu.position = none → s.bcu.test = none → Indifferent s →
    (s.stl.image.role = .midpoint → s.sfe.vs.age s.now < 1000 * s.stl.image.tMid) →
    let p : Position := if o = true ∧ c = false then .opened
      else if o = false ∧ c = true then .closed else .unknown
    let read := { s.mdu with openC := some o, closedC := some c }
    (∃ t, exec (.firstPosition o c) s = .next t ∧ t = { firstTaken s read p with rsl := t.rsl } ∧
      t.txq = s.txq ∧ t.rsl.inhibit = (if s.stl.fault.isSome then some .settings
        else if s.lnk.idClash then some .idClash
        else if p = .unknown then some .stuck
        else if s.sqc.nonreclose then some .nonreclose else none) ∧
      (s.stl.image.role = .none → s.rsl.state = .watch → t.rsl.state = .watch)) ∧
    (∃ t, exec .firstPositionTimeout s = .next t ∧
      t = { firstTaken s s.mdu .unknown with rsl := t.rsl } ∧ t.txq = s.txq ∧
      t.rsl.inhibit = (if s.stl.fault.isSome then some .settings
        else if s.lnk.idClash then some .idClash else some .stuck) ∧
      (s.stl.image.role = .none → s.rsl.state = .watch → t.rsl.state = .watch))

/-! ### The mechanism and the stores -/

/-- R68, R72, R73: OPEN seen in DRIVE ends the trip operation: the coil off, the position OPEN, one more
open counted, the wear added for a protection trip, MECH_SLOW after a slow operation or a second attempt,
and the confirmation with the operating time on its way. -/
def OpenSeenEndsTrip : Prop :=
  ∀ (s : State) (a : Attempt) (d : Uptime), Calm s → s.mdu.op = .trip .drive a →
    s.mdu.driveStart = some d →
    let ms := ageOf s.now d
    let wear := match s.mdu.wear with
      | some w => min 4294967295 (s.rtm.items.wearTotal + w)
      | none => s.rtm.items.wearTotal
    exec .openSeen s = .next
      { s with
        mdu := { s.mdu with
          op := .idle, opTimer := none, opCause := none, wear := none, driveStart := none,
          faultTimer := none, faultReported := false, position := some .opened, lastEnd := some .opened,
          mechSlow := s.mdu.mechSlow || (s.stl.image.tSlow ≠ 0 && s.stl.image.tSlow < ms) ||
            a = .second },
        rtm := Rtm.written { s.rtm.items with
          opCounter := min 999999 (s.rtm.items.opCounter + 1), wearTotal := wear,
          mechWear := s.rtm.items.mechWear ||
            (s.mdu.wear.isSome && (s.stl.image.wearLimit ≠ 0 && s.stl.image.wearLimit ≤ wear)) },
        transit := { s.transit with reports := s.transit.reports ++ [.openConfirmation ms] } }

/-- R68, R64, R72: the pulse limit starts attempt 2 after attempt 1, with the trip store READY in DRIVE and
otherwise in STORE_WAIT; after attempt 2, and at the expiry of a store wait, the operation ends in
TRIP_FAIL.  (MECH_SLOW at the TRIP_FAIL of an operation that entered attempt 2 is DEDUCED, log entry 20.) -/
def TripLimits : Prop :=
  ∀ (s : State) (a : Attempt), Calm s → s.mdu.opTimer ≠ none →
    let failed := { s with
      mdu := { s.mdu with
        op := .idle, opTimer := none, opCause := none, wear := none, driveStart := none,
        faultTimer := if s.mdu.position = some .unknown then some ⟨s.now, 20⟩ else none,
        mechSlow := s.mdu.mechSlow || a = .second },
      transit := { s.transit with reports := s.transit.reports ++ [.tripFail] } }
    (s.mdu.op = .trip .drive a →
      exec .pulseLimitExpiry s = .next
        (if a = .second then failed
        else if s.mdu.trip.state = .ready then
          { s with
            mdu := { s.mdu with
              op := .trip .drive .second, opTimer := some ⟨s.now, 60⟩, driveStart := some s.now } }
        else
          { s with
            mdu := { s.mdu with op := .trip .storeWait .second, opTimer := some ⟨s.now, 2000⟩ } })) ∧
    (s.mdu.op = .trip .storeWait a → exec .storeWaitExpiry s = .next failed)

/-- R70, R72, R64: CLOSED seen ends a close operation with its confirmation, whatever the close gate says by
then (R48); the close pulse limit ends it in CLOSE_FAIL. -/
def CloseEnds : Prop :=
  ∀ (s : State) (d : Uptime), Calm s → s.mdu.op = .close → s.mdu.driveStart = some d →
    exec .closedSeen s = .next
      { s with
        mdu := { s.mdu with
          op := .idle, opTimer := none, opCause := none, wear := none, driveStart := none,
          faultTimer := none, faultReported := false, position := some .closed, lastEnd := some .closed,
          mechSlow := s.mdu.mechSlow ||
            (s.stl.image.tSlowClose ≠ 0 && s.stl.image.tSlowClose < ageOf s.now d) },
        transit := { s.transit with reports := s.transit.reports ++ [.closeConfirmation] } } ∧
    (s.mdu.opTimer ≠ none →
      exec .closePulseLimitExpiry s = .next
        { s with
          mdu := { s.mdu with
            op := .idle, opTimer := none, opCause := none, wear := none, driveStart := none,
            faultTimer := if s.mdu.position = some .unknown then some ⟨s.now, 20⟩ else none },
          transit := { s.transit with reports := s.transit.reports ++ [.closeFail] } })

/-- R70, R64, R69, R72: the debounced position during a close operation.  CLOSED ends the operation as CLOSED seen
does (DEDUCED, log entry 21); OPEN and UNKNOWN are the mechanism in travel: published, with no report and no fault
timer, the operation running on. -/
def PositionInClose : Prop :=
  ∀ (s : State) (d : Uptime) (o c : Bool), Calm s → s.mdu.op = .close → s.mdu.driveStart = some d →
    s.mdu.position ≠ none →
    (o = false → c = true → s.mdu.position ≠ some .closed →
      exec (.positionChange o c) s = .next
        { s with
          mdu := { s.mdu with
            openC := some false, closedC := some true, op := .idle, opTimer := none, opCause := none,
            wear := none, driveStart := none, faultTimer := none, faultReported := false,
            position := some .closed, lastEnd := some .closed,
            mechSlow := s.mdu.mechSlow ||
              (s.stl.image.tSlowClose ≠ 0 && s.stl.image.tSlowClose < ageOf s.now d) },
          transit := { s.transit with reports := s.transit.reports ++ [.closeConfirmation] } }) ∧
    (o = true → c = false → s.mdu.position ≠ some .opened →
      exec (.positionChange o c) s = .next
        { s with
          mdu := { s.mdu with
            openC := some true, closedC := some false, position := some .opened,
            lastEnd := some .opened, faultTimer := none, faultReported := false } }) ∧
    (o = c → s.mdu.position ≠ some .unknown → s.mdu.faultTimer = none →
      exec (.positionChange o c) s = .next
        { s with
          mdu := { s.mdu with
            openC := some o, closedC := some c, position := some .unknown, faultReported := false } })

/-- R63 to R65, R73: a change of position outside an operation: UNKNOWN starts the 20 ms fault timer, an end
other than the last one is reported as not asked for, an open of these counted, and the fault timer's expiry
is reported once.  (That an end reached after the fault timer has expired is reported and counted too is DEDUCED, log
entry 51.) -/
def PositionChanges : Prop :=
  ∀ (s : State) (o c : Bool), Calm s → s.mdu.position ≠ none → s.mdu.op = .idle →
    let p : Position := if o = true ∧ c = false then .opened
      else if o = false ∧ c = true then .closed else .unknown
    s.mdu.position ≠ some p →
    let read := { s.mdu with
      openC := some o, closedC := some c, position := some p, faultReported := false }
    (p = .unknown →
      exec (.positionChange o c) s = .next { s with mdu := { read with faultTimer := some ⟨s.now, 20⟩ } }) ∧
    (p = .opened →
      exec (.positionChange o c) s = .next
        (if s.mdu.lastEnd = some .closed then
          { s with
            mdu := { read with lastEnd := some .opened, faultTimer := none },
            rtm := Rtm.written { s.rtm.items with
              opCounter := min 999999 (s.rtm.items.opCounter + 1) },
            transit := { s.transit with
              reports := s.transit.reports ++ [.unsolicitedOpen s.mdu.handleDown] } }
        else { s with mdu := { read with lastEnd := some .opened, faultTimer := none } })) ∧
    (p = .closed →
      exec (.positionChange o c) s = .next
        (if s.mdu.lastEnd = some .opened then
          { s with
            mdu := { read with lastEnd := some .closed, faultTimer := none },
            transit := { s.transit with reports := s.transit.reports ++ [.unsolicitedClose] } }
        else { s with mdu := { read with lastEnd := some .closed, faultTimer := none } }))

/-- R64: the position-fault timer's expiry hands the SQC one position fault, unless the present stay in UNKNOWN
has been reported already. -/
def PositionFaultReported : Prop :=
  ∀ s : State, Calm s → s.mdu.faultTimer ≠ none →
    exec .positionFaultTimerExpiry s = .next
      { s with
        mdu := { s.mdu with faultTimer := none, faultReported := true },
        transit := { s.transit with
          reports := s.transit.reports ++ (if s.mdu.faultReported then [] else [.positionFault]) } }

/-- R64: "One position fault is reported for each stay in UNKNOWN.": a command that hands on a position fault
finds the stay unreported and leaves it reported, it hands on one, and a reported stay stays so until the
position changes. -/
def OneFaultForEachStay : Prop :=
  ∀ (c : Instr) (s t : State), PositionSound s → exec c s = .next t → ofStart c = false →
    (s.transit.reports.count .positionFault < t.transit.reports.count .positionFault →
      t.transit.reports.count .positionFault = s.transit.reports.count .positionFault + 1 ∧
      s.mdu.faultReported = false ∧ t.mdu.faultReported = true ∧ s.mdu.position = some .unknown ∧
      t.mdu.position = some .unknown) ∧
    (s.mdu.faultReported = true → t.mdu.faultReported = false → t.mdu.position ≠ some .unknown)

/-- R69, R68, R72, R73: the debounced position during a trip operation.  OPEN in STORE_WAIT ends the operation as
OPEN seen does, with the operating time from the drive start of attempt 1, or 0 when no coil has been driven;
CLOSED and UNKNOWN are published, with no report and no fault timer. -/
def PositionInTrip : Prop :=
  ∀ (s : State) (ph : TripPhase) (a : Attempt) (o c : Bool), Calm s → s.mdu.op = .trip ph a →
    s.mdu.position ≠ none →
    (o = true → c = false → ph = .storeWait → s.mdu.position ≠ some .opened →
      let ms := match s.mdu.driveStart with
        | some d => ageOf s.now d
        | none => 0
      let wear := match s.mdu.wear with
        | some w => min 4294967295 (s.rtm.items.wearTotal + w)
        | none => s.rtm.items.wearTotal
      exec (.positionChange o c) s = .next
        { s with
          mdu := { s.mdu with
            openC := some true, closedC := some false, op := .idle, opTimer := none, opCause := none,
            wear := none, driveStart := none, faultTimer := none, faultReported := false,
            position := some .opened, lastEnd := some .opened,
            mechSlow := s.mdu.mechSlow || (s.stl.image.tSlow ≠ 0 && s.stl.image.tSlow < ms) ||
              a = .second },
          rtm := Rtm.written { s.rtm.items with
            opCounter := min 999999 (s.rtm.items.opCounter + 1), wearTotal := wear,
            mechWear := s.rtm.items.mechWear ||
              (s.mdu.wear.isSome && (s.stl.image.wearLimit ≠ 0 && s.stl.image.wearLimit ≤ wear)) },
          transit := { s.transit with reports := s.transit.reports ++ [.openConfirmation ms] } }) ∧
    (o = false → c = true → s.mdu.position ≠ some .closed →
      exec (.positionChange o c) s = .next
        { s with
          mdu := { s.mdu with
            openC := some false, closedC := some true, position := some .closed,
            lastEnd := some .closed, faultTimer := none, faultReported := false } }) ∧
    (o = c → s.mdu.position ≠ some .unknown → s.mdu.faultTimer = none →
      exec (.positionChange o c) s = .next
        { s with
          mdu := { s.mdu with
            openC := some o, closedC := some c, position := some .unknown, faultReported := false } })

/-- R74, R75, R67: a ready input that turns active makes its store READY, with the charger withdrawn and
its timers stopped, and a trip operation waiting for the trip store enters DRIVE; one that turns inactive
takes a READY store to EMPTY, from which the charger, where it is assigned, starts to charge it. -/
def ReadyInputRead : Prop :=
  ∀ (s : State) (id : StoreId), Calm s → StoresSound s →
    ((s.mdu.store id).ready ≠ some true → s.sqc.state ≠ some .energyWait → s.rsl.storeWait = none →
      ∃ t, exec (.readyInputChange id true) s = .next t ∧
        t.mdu.store id = ⟨.ready, some true, false, none, none⟩ ∧
        (id = .trip → ∀ a, s.mdu.op = .trip .storeWait a →
          t.mdu.op = .trip .drive a ∧ t.mdu.opTimer = some ⟨s.now, 60⟩ ∧
            t.mdu.driveStart = some s.now) ∧
        t.sqc = s.sqc ∧ t.sfe = s.sfe ∧ t.peu = s.peu ∧ t.pvt = s.pvt ∧ t.tgt = s.tgt ∧
        t.rsl = s.rsl ∧ t.stl = s.stl ∧ t.rtm = s.rtm ∧ t.clock = s.clock ∧ t.transit = s.transit) ∧
    ((s.mdu.store id).ready ≠ some false → (s.mdu.store id).state = .ready →
      ∃ t, exec (.readyInputChange id false) s = .next t ∧
        (t.mdu.store id).ready = some false ∧
        (t.mdu.store id).state = (if (t.mdu.store id).enable then .charging else .empty) ∧
        (id = .trip → (t.mdu.store id).enable = true ∧
          (t.mdu.store id).limit = some ⟨s.now, 20000⟩) ∧
        t.mdu.op = s.mdu.op ∧ t.sqc = s.sqc ∧ t.sfe = s.sfe ∧ t.peu = s.peu ∧ t.pvt = s.pvt ∧
        t.tgt = s.tgt ∧ t.rsl = s.rsl ∧ t.stl = s.stl ∧ t.rtm = s.rtm ∧ t.clock = s.clock)

/-- R77, R75: the charge limit's expiry takes a charging store to FAULT, with the charger withdrawn and the
retry timer at 60 s; the retry timer's expiry starts a retry charge at once where the charger is free for
the store. -/
def StoreTimersOver : Prop :=
  ∀ (s : State) (id : StoreId), Calm s → StoresSound s →
    ((s.mdu.store id).limit ≠ none → (s.mdu.store id).enable = true →
      exec (.chargeLimitExpiry id) s = .next
        { s with
          mdu := s.mdu.withStore id fun x =>
            { x with state := .fault, enable := false, limit := none, retry := some ⟨s.now, 60000⟩ } }) ∧
    ((s.mdu.store id).retry ≠ none → (s.mdu.store id).state = .fault → s.mdu.trip.ready ≠ none →
      s.mdu.close.ready ≠ none →
      exec (.retryTimerExpiry id) s = .next
        { s with
          mdu := s.mdu.withStore id fun x =>
            if id = .trip ∨ (s.mdu.trip.state = .ready ∧
                closeChargingAllowed s.bcu.cls s.closeDemand = true) then
              { x with
                retry := none, enable := true,
                limit := some ⟨s.now, if id = .trip then 20000 else 60000⟩ }
            else { x with retry := none } })

/-! ### The battery -/

/-- R80, R82, R83: SUPPLY_OK: a change to active takes a charger in OFF to BULK with D at 0, a change to inactive
takes the charger to OFF with D at 0 and clears the counts of the mode left; a reading that is no change is
only taken.  (In OFF, D is 0: `ChargerHolds`.) -/
def SupplyChanges : Prop :=
  ∀ s : State, Calm s → ChargerSound s → s.bcu.test = none →
    exec (.supplyOkChange true) s = .next
      { s with
        bcu := if s.bcu.mode = .off then
            { s.bcu with
              supplyOk := true, supplyRead := true, mode := .bulk, duty := 0, absorbSeconds := 0,
              tailRun := 0, floatSeconds := 0, lowFloatRun := 0 }
          else { s.bcu with supplyOk := true, supplyRead := true } } ∧
    exec (.supplyOkChange false) s = .next
      { s with
        bcu := if s.bcu.supplyOk then
            { s.bcu with
              supplyOk := false, supplyRead := true, mode := .off, duty := 0, absorbSeconds := 0,
              tailRun := 0, floatSeconds := 0, lowFloatRun := 0 }
          else { s.bcu with supplyRead := true } }

/-- R80, R97, R98: SUPPLY_OK during a test: a change to inactive aborts the test, takes the charger to OFF with
D at 0, sets the latest attempt ABORTED, starts the retry timer at 3,600 s and asks for one BATTERY_REPORT; a
reading of active is only taken. -/
def SupplyInTest : Prop :=
  ∀ (s : State) (x : RunningTest), Calm s → ChargerSound s → s.bcu.test = some x →
    s.lnk.reception = none →
    exec (.supplyOkChange true) s = .next { s with bcu := { s.bcu with supplyRead := true } } ∧
    exec (.supplyOkChange false) s = .next (State.askBattery
      { s with
        bcu := { s.bcu with
          supplyOk := false, supplyRead := true, mode := .off, duty := 0, absorbSeconds := 0,
          tailRun := 0, floatSeconds := 0, lowFloatRun := 0, test := none, loadTimer := none,
          latestAttempt := some .aborted, testDue := true,
          retryTimer := some ⟨s.now, 3600000⟩ } })

/-- R93: a scheduled attempt begins a test when the eight preconditions hold: V0 from the latest mean, the
load on, D at 0, the load timer at 10 s and the retry timer stopped; otherwise the retry timer starts at
60 s. -/
def ScheduledAttempt : Prop :=
  ∀ (s : State) (m : Mean), Calm s → s.bcu.retryTimer ≠ none → s.bcu.testDue = true →
    s.bcu.latestMean = some m →
    exec .testRetryExpiry s = .next
      { s with
        bcu := if TestMayBegin s then
            { s.bcu with
              mode := .test, duty := 0, absorbSeconds := 0, tailRun := 0, floatSeconds := 0,
              lowFloatRun := 0, test := some ⟨.scheduled, m.mV, s.now, none⟩,
              loadTimer := some ⟨s.now, 10000⟩, retryTimer := none }
          else { s.bcu with retryTimer := some ⟨s.now, 60000⟩ } }

/-- R92, R95, R96, R98 to R101: the load timer's expiry ends the test with its result: INVALID below 100 mA,
else R clamped to 0..65,535 mΩ and PASS exactly with R at most R_max and V1 at least V_test_min.  The record
is written, RESISTANCE takes R where there is one and TEST_FAILS counts, the charger leaves TEST for BULK (OFF
without supply) with D at 0, the days since test and the day seconds return to 0, and one BATTERY_REPORT is
asked for; one more, before the days return to 0, where BATTERY_POOR became set. -/
def TestEnds : Prop :=
  ∀ (s : State) (x : RunningTest) (m : Mean), Calm s → s.bcu.test = some x → x.loaded = some m →
    s.bcu.loadTimer ≠ none → s.lnk.reception = none →
    let i1 := -m.mA
    let r := (max 0 (min 65535 ((x.v0 - m.mV) * 1000 / i1))).toNat
    let valid := decide (100 ≤ i1)
    let good := valid && decide (r ≤ s.stl.image.rMax) && decide ((s.stl.image.vTestMin : Int) ≤ m.mV)
    let h := s.rtm.items.health
    let value := if r ≤ s.stl.image.rRef then 200
      else max 1 (200 - 100 * (r - s.stl.image.rRef) / s.stl.image.rRef)
    let fails := if good then 0 else min 255 (h.testFails.raw + 1)
    let judged : State :=
      { s with
        bcu := { s.bcu with
          mode := if s.bcu.supplyOk then .bulk else .off, duty := 0, absorbSeconds := 0, tailRun := 0,
          floatSeconds := 0, lowFloatRun := 0, test := none, loadTimer := none,
          latestAttempt := some (if good then .pass else if valid then .fail else .invalid) },
        rtm := Rtm.written { s.rtm.items with
          lastResult := some ⟨if good then .pass else if valid then .fail else .invalid, x.v0, m.mV,
            i1, if valid then some r else none⟩,
          health := { h with
            resistance := if valid then ⟨r, value, min h.resistance.worst value⟩ else h.resistance,
            testFails := ⟨fails, max 1 (200 - 60 * fails),
              min h.testFails.worst (max 1 (200 - 60 * fails))⟩ } } }
    let told := if s.poor = false ∧ judged.poor = true then judged.askBattery else judged
    exec .loadTimerExpiry s = .next (State.askBattery
      { told with
        bcu := { judged.bcu with daySeconds := 0, testDue := false },
        rtm := Rtm.written { judged.rtm.items with daysSinceTest := 0 } })

/-- R98, R127, R101, R129: the asking for a BATTERY_REPORT.  Its content is taken at the asking.  With no
BATTERY_REPORT in the list and room, it joins as a new entry; one not in flight has its content replaced in
place, its place, join order, join time and attempt count standing; beside one in flight the content becomes
the pending report; with a full list it meets overflow. -/
def BatteryReportAsked : Prop :=
  ∀ s : State, QueueSound s →
    let h := s.rtm.items.health
    let c : Content := .battery
      { attempt := s.bcu.latestAttempt, last := s.rtm.items.lastResult, health := h,
        thresholds := s.stl.image.thresholds,
        poor := h.resistance.value ≤ s.stl.image.thresholds.resistance ∨
          h.testFails.value ≤ s.stl.image.thresholds.testFails ∨
          h.deepDischarge.value ≤ s.stl.image.thresholds.deepDischarge ∨
          h.absorbLimit.value ≤ s.stl.image.thresholds.absorbLimit,
        soc := s.bcu.soc, qUncertain := s.rtm.items.qUncertain, cls := s.bcu.cls, mode := s.bcu.mode,
        days := s.rtm.items.daysSinceTest }
    ((∀ e ∈ s.txq.entries, e.isBattery = false) → s.txq.entries.length < 8 →
      s.askBattery = s.join c ∧
      ∀ x, x ∈ s.askBattery.txq.entries ↔ x ∈ s.txq.entries ∨
        x = ⟨c, s.stl.image.priorityMap / 1024 % 4, s.txq.nextOrder, s.now, 0, false, false⟩) ∧
    ((∀ e ∈ s.txq.entries, e.isBattery = false) → s.txq.entries.length = 8 →
      s.askBattery = s.joinFrame c) ∧
    (∀ e ∈ s.txq.entries, e.isBattery = true → e.inFlight = false →
      s.askBattery = { s with
        txq := { s.txq with
          entries := s.txq.entries.map fun x =>
            if x.order = e.order then { x with content := c } else x } }) ∧
    (∀ e ∈ s.txq.entries, e.isBattery = true → e.inFlight = true →
      ∃ b, c = .battery b ∧
        s.askBattery = { s with txq := { s.txq with pendingReport := some b } })

/-- R94, R134: a crew BATTERY_TEST, at a station of any role, begins a test when the preconditions hold and is
answered ACCEPTED, and is otherwise answered with the outcome of the first that fails, a test already running
the first of them, changing nothing else. -/
def CrewBatteryTest : Prop :=
  ∀ (s : State) (q : CrewRequest) (r : EndedReception) (rest : List EndedReception) (m : Mean),
    Calm s → s.lnk.reception = none → RequestArrives s .batteryTest q r rest →
    s.bcu.latestMean = some m →
    exec .crewBatteryTest s = .next
      (if s.bcu.test ≠ none ∨ s.bcu.supplyOk = false ∨ s.bcu.mode ≠ .float ∨ s.bcu.floatSeconds < 3600 ∨
          s.sqc.state ≠ some .closed ∨ s.peu.anyPickup = true then
        (heard s r rest).askResult q.crew .batteryTest .refusedState
      else if s.bcu.cls ≠ some .normal ∨ s.mdu.trip.state ≠ .ready ∨ s.mdu.close.state ≠ .ready then
        (heard s r rest).askResult q.crew .batteryTest .refusedEnergy
      else if s.mdu.trip.enable = true ∨ s.mdu.close.enable = true then
        (heard s r rest).askResult q.crew .batteryTest .refusedState
      else
        State.askResult
          { heard s r rest with
            bcu := { s.bcu with
              mode := .test, duty := 0, absorbSeconds := 0, tailRun := 0, floatSeconds := 0,
              lowFloatRun := 0, test := some ⟨.crew, m.mV, s.now, none⟩,
              loadTimer := some ⟨s.now, 10000⟩, retryTimer := none } } q.crew .batteryTest .accepted)

/-! ### The link -/

/-- R103, R107: a byte is taken only while the listen enable is on.  It begins a reception or goes on with
one, restarting the 5 ms gap timer; at the byte that makes the count reach a length byte of 8..64 the
reception goes whole to the filter, with the present uptime as its arrival time. -/
def ByteReceived : Prop :=
  ∀ (s : State) (b : Byte), Calm s →
    (s.lnk.listenEnable = false → exec (.serialByteArrival b) s = .next s) ∧
    (s.lnk.listenEnable = true →
      let kept := match s.lnk.reception with
        | some r => if r.bytes.length < 64 then r.bytes ++ [b] else r.bytes
        | none => [b]
      let count := match s.lnk.reception with
        | some r => r.count + 1
        | none => 1
      exec (.serialByteArrival b) s = .next
        (if 2 ≤ count ∧ 8 ≤ nat1 kept 1 ∧ nat1 kept 1 ≤ 64 ∧ nat1 kept 1 ≤ count then
          { s with
            lnk := { s.lnk with reception := none, holdLimit := none },
            transit := { s.transit with
              receptions := s.transit.receptions ++ [⟨kept, count, s.now⟩] } }
        else { s with lnk := { s.lnk with reception := some ⟨kept, count, ⟨s.now, 5⟩⟩ } }))

/-- R107, R113: the gap timer's expiry ends the reception; a window that opens or closes changes the
cycle, a close over a reception that nothing else keeps holds the receiver on for at most 70 ms, and the
limit of that hold cuts the reception. -/
def ListeningEvents : Prop :=
  ∀ s : State, Calm s →
    (∀ r, s.lnk.reception = some r → exec .receptionGapExpiry s = .next
      { s with
        lnk := { s.lnk with reception := none, holdLimit := none },
        transit := { s.transit with
          receptions := s.transit.receptions ++ [⟨r.bytes, r.count, s.now⟩] } }) ∧
    (∀ u, s.lnk.cycle = some ⟨false, u⟩ → exec .listenWindowOpen s = .next
      { s with lnk := { s.lnk with cycle := some ⟨true, s.now⟩ } }) ∧
    (∀ u, s.lnk.cycle = some ⟨true, u⟩ → exec .listenWindowClose s = .next
      { s with
        lnk := { s.lnk with
          cycle := some ⟨false, u⟩,
          holdLimit := if s.lnk.reception ≠ none ∧ s.lnk.access ≠ .gap ∧ s.lnk.access ≠ .sense ∧
              s.lnk.access ≠ .backoff then some ⟨s.now, 70⟩ else s.lnk.holdLimit } }) ∧
    (∀ r, s.lnk.reception = some r → s.lnk.holdLimit ≠ none → s.lnk.power ≠ .active →
      s.lnk.access = .idle → s.lnk.cycle.any (·.windowOpen) = false →
      exec .listenHoldLimit s = .next
        { s with
          lnk := { s.lnk with reception := none, holdLimit := none },
          transit := { s.transit with
            receptions := s.transit.receptions ++ [⟨r.bytes, r.count, s.now⟩] } })

/-- R112, R113, R121, R111: the warm-up's end begins the listening of the state and makes the search, as the
quiet timer's expiry does; the link timer's expiry only stops it. -/
def LinkTimersOver : Prop :=
  ∀ s : State, Calm s → s.lnk.reception = none →
    (s.lnk.warmUp ≠ none → exec .warmUpExpiry s = .next (State.search
      { s with
        lnk := { s.lnk with
          warmUp := none,
          cycle := if s.lnk.power = .duty ∨ s.lnk.power = .sparse then some ⟨true, s.now⟩
            else none } })) ∧
    (s.lnk.quiet ≠ none →
      exec .quietTimerExpiry s = .next (State.search { s with lnk := { s.lnk with quiet := none } })) ∧
    (s.lnk.link ≠ none →
      exec .linkTimerExpiry s = .next { s with lnk := { s.lnk with link := none } })

/-- R115, R105, R130, R103: at the end of a GAP or a BACKOFF the LNK senses.  With BUSY inactive the entry
goes in flight with its frame formed, for b × 1.0417 ms rounded up to a whole ms (the rounding is the model's
choice, log entry 50), the COLLIDE latch clear and the frame counts at 0 after a STATUS; with BUSY active
the LNK defers in SENSE with a pacing counter of 15. -/
def ChannelSensed : Prop :=
  ∀ (s : State) (e : Entry), Calm s → QueueSound s → s.lnk.reception = none →
    s.selectedEntry = some e → s.lnk.power ≠ .off → s.lnk.warmUp = none →
    (s.lnk.access = .gap → exec .gapExpiry s = .next (sensing s e)) ∧
    (s.lnk.access = .backoff → exec .backoffExpiry s = .next (sensing s e))

/-- R115, R117, R118, R120: BUSY going inactive in SENSE ends the deferral: an entry of priority 2 or 3 that
a priority-0 frame waits behind is returned with no draw, any other draws its backoff of k slots from the
low bits of the advanced register, and one of 0 slots, as a first backoff of priority 0 always is, senses at the
same event and, with BUSY now inactive, sends; outside SENSE the level alone is taken.  (That the priority-0 frame
must still be in the queue at the end of the deferral is the model's choice, DESIGN CHOICE, log entry 47; that
the send is timed in whole ms, rounded up, is DESIGN CHOICE, log entry 50.) -/
def DeferralEnds : Prop :=
  ∀ (s : State) (e : Entry), Calm s → s.lnk.reception = none →
    (s.lnk.access ≠ .sense → ∃ t, exec (.busyChange false) s = .next t ∧
      t = { s with lnk := { s.lnk with busy := false } }) ∧
    (s.lnk.access = .sense → exec (.busyChange true) s = .next
      { s with lnk := { s.lnk with busy := true } }) ∧
    (s.lnk.access = .sense → s.selectedEntry = some e → 2 ≤ e.priority →
      (∃ x ∈ s.txq.entries, x.priority = 0) →
      exec (.busyChange false) s = .next (State.search
        { s with
          lnk := { s.lnk with
            busy := false, access := .idle, selected := none, slot := none } }).listenReview) ∧
    (s.lnk.access = .sense → s.selectedEntry = some e →
      (e.priority < 2 ∨ ∀ x ∈ s.txq.entries, x.priority ≠ 0) →
      let w := if e.priority = 0 then min e.attempts 2 else min (e.attempts + 2) 6
      let k := (rngNext s.lnk.rng).toNat % 2 ^ w
      let waiting := { s with
        lnk := { s.lnk with
          busy := false, rng := rngNext s.lnk.rng, access := .backoff, slot := some ⟨s.now, 10 * k⟩ } }
      (k ≠ 0 → exec (.busyChange false) s = .next waiting) ∧
      (k = 0 → exec (.busyChange false) s = .next (sensing waiting e)) ∧
      (e.priority = 0 → e.attempts = 0 → k = 0))

/-- R103: COLLIDE going active is latched in SENDING and changes nothing elsewhere.  (That no level of COLLIDE
is held outside SENDING is the model's choice, DESIGN CHOICE, log entry 48.) -/
def CollisionLatched : Prop :=
  ∀ s : State, Calm s →
    exec .collideActive s = .next
      { s with lnk := { s.lnk with collide := s.lnk.collide || s.lnk.access = .sending } }

/-- R116, R128: the end of a clean send of a frame other than a STATUS or a BATTERY_REPORT: the entry leaves,
the pacing counter falls by 1 and stops at 0, the access ends, and the search is made. -/
def CleanSendEnds : Prop :=
  ∀ (s : State) (e : Entry), Calm s → s.lnk.access = .sending → s.lnk.collide = false →
    s.selectedEntry = some e → e.isStatus = false → e.isBattery = false → s.lnk.pendingPower = none →
    exec .sendEnd s = .next (State.search
      { s with
        txq := { s.txq with entries := s.txq.entries.filter fun x => x.order ≠ e.order },
        lnk := { s.lnk with
          access := .idle, selected := none, slot := none, sendTimer := none, outFrame := [],
          pacing := s.lnk.pacing - 1 } }).listenReview

/-- R116, R118, R119, R121, R128: the end of a collided send of such a frame, with no radio power state
pending.  At its attempt limit the entry is abandoned; with the quiet timer running an entry of priority 2
or 3 is returned with its raised count and no draw; a frame of priority 0 or 1 whose life still runs draws a
backoff and, when that is not 0 slots, waits in BACKOFF. -/
def CollidedSendEnds : Prop :=
  ∀ (s : State) (e : Entry), Calm s → s.lnk.access = .sending → s.lnk.collide = true →
    s.selectedEntry = some e → e.isStatus = false → e.isBattery = false → s.lnk.pendingPower = none →
    let n := e.attempts + 1
    let ended := { s.lnk with sendTimer := none, outFrame := [], pacing := 15 }
    let free := { ended with access := .idle, selected := none, slot := none }
    let kept := { s.txq with
      entries := s.txq.entries.map fun x =>
        if x.order = e.order then { x with inFlight := false, attempts := n } else x }
    ((if e.priority = 0 then 8 else 5) ≤ n →
      exec .sendEnd s = .next (State.search
        { s with
          txq := { s.txq with entries := s.txq.entries.filter fun x => x.order ≠ e.order },
          lnk := free }).listenReview) ∧
    (n < 5 → s.lnk.quiet ≠ none → 2 ≤ e.priority →
      exec .sendEnd s = .next (State.search { s with txq := kept, lnk := free }).listenReview) ∧
    (n < (if e.priority = 0 then 8 else 5) → e.priority < 2 → e.lifeOver = false →
      let w := if e.priority = 0 then min n 2 else min (n + 2) 6
      let k := (rngNext s.lnk.rng).toNat % 2 ^ w
      k ≠ 0 →
      exec .sendEnd s = .next (State.listenReview
        { s with
          txq := kept,
          lnk := { ended with
            rng := rngNext s.lnk.rng, access := .backoff, slot := some ⟨s.now, 10 * k⟩ } }))

/-- R116 to R120, R126 to R128: the end of a collided send of any frame, with no radio power state pending.  At its
attempt limit the entry leaves, and status owed or the pending report joins as a new entry.  Otherwise it stays
with its raised count, a STATUS with the reasons owed added to its own, a BATTERY_REPORT with the pending report
as its content: with the quiet timer running an entry of priority 2 or 3 is returned with no draw; else the
backoff is drawn, a PICKUP whose life is over leaves (log entry 26), an entry of priority 2 or 3 that a
priority-0 frame waits behind is returned after the draw (DEDUCED, log entry 25), and any other waits in BACKOFF,
or senses at once with 0 slots (a send begun so is timed in whole ms, log entry 50). -/
def SendCollides : Prop :=
  ∀ (s : State) (e : Entry), Calm s → QueueSound s → s.lnk.access = .sending → s.lnk.collide = true →
    s.selectedEntry = some e → s.lnk.pendingPower = none →
    let n := e.attempts + 1
    let limit := if e.priority = 0 then 8 else 5
    let w := if e.priority = 0 then min n 2 else min (n + 2) 6
    let k := (rngNext s.lnk.rng).toNat % 2 ^ w
    let ended := { s.lnk with sendTimer := none, outFrame := [], pacing := 15 }
    let drawn := { ended with rng := rngNext s.lnk.rng }
    let stays := staying s e n
    let kept := keeping s e n
    let left := departed s e ended
    let stale : Txq := { kept with entries := s.txq.entries.filter fun x => x.order ≠ e.order }
    let waiting := { s with
      txq := kept, lnk := { drawn with access := .backoff, slot := some ⟨s.now, 10 * k⟩ } }
    (limit ≤ n → exec .sendEnd s = .next
      (State.search { left with lnk := freed left.lnk }).listenReview) ∧
    (n < limit → s.lnk.quiet ≠ none → 2 ≤ e.priority →
      exec .sendEnd s = .next (State.search { s with txq := kept, lnk := freed ended }).listenReview) ∧
    (n < limit → (s.lnk.quiet = none ∨ e.priority < 2) →
      (e.lifeOver = true → exec .sendEnd s = .next
        (State.search { s with txq := stale, lnk := freed drawn }).listenReview) ∧
      (e.lifeOver = false → 2 ≤ e.priority → (∃ x ∈ s.txq.entries, x.priority = 0) →
        exec .sendEnd s = .next (State.search { s with txq := kept, lnk := freed drawn }).listenReview) ∧
      (e.lifeOver = false → (e.priority < 2 ∨ ∀ x ∈ s.txq.entries, x.priority ≠ 0) →
        (k ≠ 0 → exec .sendEnd s = .next waiting.listenReview) ∧
        (k = 0 → s.lnk.power ≠ .off → s.lnk.warmUp = none →
          exec .sendEnd s = .next (sensing waiting stays).listenReview)))

/-- R116, R127: the end of a clean send of a BATTERY_REPORT: the entry leaves, the pending report joins as a new
entry and becomes absent, the pacing counter falls by 1, the access ends, and the search is made. -/
def BatterySendEnds : Prop :=
  ∀ (s : State) (e : Entry), Calm s → s.lnk.access = .sending → s.lnk.collide = false →
    s.selectedEntry = some e → e.isBattery = true → s.lnk.pendingPower = none →
    let left := departed s e
      { s.lnk with sendTimer := none, outFrame := [], pacing := s.lnk.pacing - 1 }
    exec .sendEnd s = .next (State.search { left with lnk := freed left.lnk }).listenReview ∧
      left.txq.pendingReport = none

/-- R112, R113, R114, R116, R119: the end of any send, with a radio power state pending or none: the handling of
the send, then the pending state, then the search; an entry still in BACKOFF whose draw was 0 slots senses at
once, and every other access stands as the search leaves it.  (That the pending state comes before a backoff of
0 slots passes to SENSE is DESIGN CHOICE, log entry 46; that the state in force applied again leaves its listen
cycle is DESIGN CHOICE, log entry 45; the handling after a draw is DEDUCED, log entries 25 and 26; a send begun
anew is timed in whole ms, log entry 50.) -/
def PendingPowerApplied : Prop :=
  ∀ (s : State) (e : Entry), Calm s → QueueSound s → s.lnk.access = .sending →
    s.selectedEntry = some e → s.lnk.power ≠ .off → s.lnk.warmUp = none →
    s.lnk.pendingPower ≠ some .off →
    let u := (powered (sendHandled s e)).search
    exec .sendEnd s = .next (State.listenReview
      (if u.lnk.access = .backoff ∧ u.lnk.slot = some ⟨s.now, 0⟩ then
        sensing u (staying s e (e.attempts + 1))
      else u))

/-- R119, R112, R126 to R128: a send cut by the change to OFF, at the one-second update that enters CUTOFF: the
power goes off in mid-frame, the pending power state is removed, and the entry is returned with its attempt count
as it stands, a STATUS with the reasons owed, a BATTERY_REPORT with the pending report; a PICKUP whose life is
over leaves (DEDUCED, log entry 26).  The pacing counter and the random register stand.  (The queue is given for an
update at which BATTERY_POOR does not become set, so that no BATTERY_REPORT joins.) -/
def SendCutByOff : Prop :=
  ∀ (s : State) (e : Entry), Calm s → QueueSound s → 2400 ≤ s.sfe.batCount →
    s.bcu.daySeconds < 86400 → s.bcu.test = none → s.bcu.cls ≠ some .cutoff →
    s.sqc.state ≠ some .energyWait → s.lnk.access = .sending → s.selectedEntry = some e →
    ∃ t, exec .oneSecondUpdate s = .next t ∧
      (t.bcu.cls = some .cutoff → t.lnk = { freed s.lnk with
        power := .off, warmUp := none, cycle := none, holdLimit := none, reception := none,
        sendTimer := none, outFrame := [], pendingPower := none }) ∧
      (t.bcu.cls = some .cutoff → t.poor = false ∨ (s.poor = true ∧ s.bcu.mode ≠ .absorb) →
        t.txq = (if e.lifeOver then
          { s.txq with entries := s.txq.entries.filter fun x => x.order ≠ e.order, period := none }
        else { keeping s e e.attempts with period := none }))

/-- R126, R132: the end of a clean send of a STATUS: the entry leaves, status owed joins as a new STATUS
entry with its reasons and becomes absent, and the status period timer starts again, at P + j in NORMAL and at
4P + j in ECONOMY; in the other classes it stays stopped. -/
def StatusSendEnds : Prop :=
  ∀ (s : State) (e : Entry), Calm s → QueueSound s → s.lnk.access = .sending →
    s.lnk.collide = false → s.selectedEntry = some e → e.isStatus = true →
    ∃ t, exec .sendEnd s = .next t ∧ t.txq.owed = none ∧
      (∀ x ∈ s.txq.entries, x.isStatus = false → x ∈ t.txq.entries) ∧
      (∀ r, s.txq.owed = some r → ∃ x ∈ t.txq.entries, x.content = .status r ∧
        x.order = s.txq.nextOrder ∧ x.attempts = 0) ∧
      (s.txq.owed = none → ∀ x ∈ t.txq.entries, x.isStatus = false) ∧
      t.lnk.rng = (periodStarted s).lnk.rng ∧ t.txq.period = (periodStarted s).txq.period ∧
      t.sfe = s.sfe ∧ t.peu = s.peu ∧ t.sqc = s.sqc ∧ t.mdu = s.mdu ∧ t.bcu = s.bcu ∧ t.pvt = s.pvt ∧
      t.tgt = s.tgt ∧ t.rsl = s.rsl ∧ t.stl = s.stl ∧ t.rtm = s.rtm ∧ t.clock = s.clock

/-- R128: the life of a PICKUP entry expires: not in flight, it leaves and the LNK searches again; in flight,
it stays to the end of its send, marked. -/
def PickupLifeOver : Prop :=
  ∀ (s : State) (e : Entry), Calm s → s.lnk.reception = none → s.txq.ageingPickup = some e →
    exec .pickupLifeExpiry s = .next
      (if e.inFlight then
        { s with
          txq := { s.txq with
            entries := s.txq.entries.map fun x =>
              if x.order = e.order then { x with lifeOver := true } else x } }
      else State.search
        { s with
          txq := { s.txq with entries := s.txq.entries.filter fun x => x.order ≠ e.order },
          lnk := if s.lnk.selected = some e.order then
              { s.lnk with access := .idle, selected := none, slot := none }
            else s.lnk })

/-- R132, R126: the status period's expiry demands a STATUS with reason PERIOD and starts the period again with a
new draw, at P + j in NORMAL and at 4P + j in ECONOMY. -/
def PeriodOver : Prop :=
  ∀ s : State, Calm s → QueueSound s → s.lnk.reception = none → s.txq.period ≠ none →
    (s.bcu.cls = some .normal ∨ s.bcu.cls = some .economy) → s.txq.entries.length < 8 →
    ∃ t, exec .statusPeriodExpiry s = .next t ∧ t.lnk.rng = rngNext s.lnk.rng ∧
      t.txq.period = (periodStarted s).txq.period ∧
      ((∃ x ∈ t.txq.entries, ∃ r, x.content = .status r ∧ r.period = true) ∨
        ∃ r, t.txq.owed = some r ∧ r.period = true) ∧
      (∀ x ∈ s.txq.entries, x.isStatus = false → x ∈ t.txq.entries) ∧
      { t with
        txq := s.txq,
        lnk := { t.lnk with
          rng := s.lnk.rng, access := s.lnk.access, selected := s.lnk.selected,
          slot := s.lnk.slot } } = s

/-! ### The receive filter and the peers -/

/-- Byte `i` of a body. -/
def byteOf (b : List Byte) (i : Nat) : Nat := (b.getD i 0).toNat

/-- The two bytes from `i` on, high byte first (R188). -/
def pairOf (b : List Byte) (i : Nat) : Nat := 256 * byteOf b i + byteOf b (i + 1)

/-- Every one of `n` tag records from byte `i` on has a crew id of 1..4,095 (R190, R193). -/
def TagBytes (b : List Byte) (i n : Nat) : Prop :=
  ∀ k < n, 1 ≤ pairOf b (i + 3 * k) ∧ pairOf b (i + 3 * k) ≤ 4095

/-- A trip record at byte `i` with its number, its cause and its four rms in range (R190, R192, R193). -/
def RecordBytes (b : List Byte) (i : Nat) : Prop :=
  byteOf b (i + 1) ≤ 4 ∧ byteOf b (i + 2) ≤ 13 ∧ ∀ k < 4, pairOf b (i + 4 + 2 * k) ≤ 32768

/-- A STATUS body that fits (R189, R191 to R193). -/
def StatusBytes (b : List Byte) : Prop :=
  let at_ := byteOf b
  let n := at_ 26
  let flagged : Bool := at_ 11 / 8 % 2 = 1
  n ≤ 4 ∧ b.length = 27 + 3 * n + (if flagged then 18 else 0) ∧ at_ 1 ≤ 2 ∧ at_ 4 ≤ 8 ∧ at_ 5 ≤ 4 ∧
    at_ 6 ≤ 13 ∧ at_ 7 ≤ 3 ∧ at_ 8 % 4 ≤ 2 ∧ at_ 8 / 4 % 4 ≤ 2 ∧ at_ 9 ≤ 4 ∧ at_ 10 ≤ 100 ∧ at_ 12 ≤ 4 ∧
    at_ 13 ≤ 3 ∧ at_ 14 ≤ 4 ∧ at_ 15 % 16 ≤ 4 ∧ (at_ 14 = 1 → at_ 15 / 16 ≤ 2) ∧
    (at_ 14 = 4 → 1 ≤ at_ 15 / 16 ∧ at_ 15 / 16 ≤ 4) ∧ at_ 17 ≤ 95 ∧ at_ 18 ≤ 4 ∧
    65536 * at_ 19 + pairOf b 20 ≤ 999999 ∧ TagBytes b 27 n ∧ (flagged → RecordBytes b (27 + 3 * n))

/-- A body that fits its station kind (R189, R191 to R193). -/
def StationBody (kind : Nat) (b : List Byte) : Prop :=
  let at_ := byteOf b
  match kind with
  | 1 => StatusBytes b
  | 2 => b.length = 5 ∧ at_ 0 ≠ 0 ∧ at_ 1 ≤ 4
  | 3 => 1 ≤ at_ 0 ∧ at_ 0 ≤ 8 ∧ b.length = (if at_ 0 = 1 then 27 else 9) ∧ at_ 5 ≤ 8 ∧ at_ 6 ≤ 4 ∧
      at_ 7 ≤ 13 ∧ at_ 8 ≤ 3 ∧ (at_ 0 = 1 → RecordBytes b 9)
  | 4 => at_ 1 ≤ 4 ∧ b.length = 2 + 3 * at_ 1 ∧ TagBytes b 2 (at_ 1)
  | 5 => b.length = 4 ∧ pairOf b 0 ≤ 4095 ∧ 1 ≤ at_ 2 ∧ at_ 2 ≤ 7 ∧ at_ 3 ≤ 6
  | 6 => b.length = 36 ∧ at_ 0 ≤ 4 ∧ at_ 2 ≤ 4 ∧ at_ 31 ≤ 100 ∧ at_ 32 ≤ 4 ∧ at_ 33 ≤ 4
  | _ => False

/-- A CREW_REQUEST body that fits; the tag kind counts at a TAG_PLACE alone (R193). -/
def HandsetBody (b : List Byte) : Prop :=
  b.length = 5 ∧ pairOf b 0 ≤ 4095 ∧ 1 ≤ byteOf b 2 ∧ byteOf b 2 ≤ 7 ∧
    (128 ≤ byteOf b 3 ∨ byteOf b 3 % 16 ≠ 0) ∧ (byteOf b 2 = 1 → byteOf b 4 ≤ 1)

/-- What the receivers of an ACCEPTED frame are handed, by its kind, its sender byte and its body: each coded
field as the value whose code it holds, absent at code 0 (R109, R138 to R141, R156, R190 to R192). -/
def ReadAs (kind sender : Nat) (b : List Byte) (f : Frame) : Prop :=
  let at_ := byteOf b
  let id := sender % 16
  let tags := fun (flags i n : Nat) (x : PeerTags) =>
    x.tagUnknown = decide (flags / 4 % 2 = 1) ∧
    ∃ radio : List TagRecord, x.records = (if flags / 2 % 2 = 1 then ⟨0, .hotline, .station⟩ :: radio else radio) ∧
      radio.length = n ∧ ∀ k < n, ∃ v ∈ radio[k]?, v.crew = pairOf b (i + 3 * k) ∧
        (v.kind = .hotline ↔ 128 ≤ at_ (i + 3 * k + 2)) ∧
        v.scope = (if at_ (i + 3 * k + 2) % 32 = 0 then .station else .segment (at_ (i + 3 * k + 2) % 32))
  match f with
  | .status j c => kind = 1 ∧ sender < 128 ∧ j = id ∧ c.segments = ⟨at_ 2, at_ 3⟩ ∧ c.role.code = at_ 1 ∧
      (c.state.map SeqState.code).getD 0 = at_ 4 ∧ (c.cause.map Cause.code).getD 0 = at_ 6 ∧
      (c.position.map Position.code).getD 0 = at_ 7 ∧ tags (at_ 11) 27 (at_ 26) c.tags
  | .pickup j g q => kind = 2 ∧ sender < 128 ∧ j = id ∧ g = ⟨at_ 3, at_ 4⟩ ∧ q = at_ 2
  | .seqEvent j c => kind = 3 ∧ sender < 128 ∧ j = id ∧ c.kind.code = at_ 0 ∧
      (c.state.map SeqState.code).getD 0 = at_ 5 ∧ (c.cause.map Cause.code).getD 0 = at_ 7 ∧
      (c.position.map Position.code).getD 0 = at_ 8
  | .tagNotice j x => kind = 4 ∧ sender < 128 ∧ j = id ∧ tags (at_ 0) 2 (at_ 1) x
  | .report j => (kind = 5 ∨ kind = 6) ∧ sender < 128 ∧ j = id
  | .request q => kind = 16 ∧ 128 ≤ sender ∧ q.crew = pairOf b 0 ∧ q.kind.code = at_ 2 ∧
      q.target = (if 128 ≤ at_ 3 then .segment (at_ 3 % 32) else .station (at_ 3 % 16)) ∧
      (q.tagKind = .hotline ↔ at_ 4 = 1)

/-- R108, R110: a reception that is not ACCEPTED is taken and goes no further: RUNT, LONG and BAD_CRC raise
the bad count, UNKNOWN and CLASH the good count, FOREIGN neither; CLASH sets ID_CLASH, which inhibits the
RSL.  Counts saturate at 255. -/
def FrameRejected : Prop :=
  ∀ (s : State) (r : EndedReception) (rest : List EndedReception), Plain s →
    s.transit.receptions = r :: rest →
    let taken := { s with transit := { s.transit with receptions := rest } }
    (s.classOf r = .runt ∨ s.classOf r = .long ∨ s.classOf r = .badCrc →
      exec .frameRejected s = .next
        { taken with lnk := { s.lnk with bad := min 255 (s.lnk.bad + 1) } }) ∧
    (s.classOf r = .foreign → exec .frameRejected s = .next taken) ∧
    (s.classOf r = .unknown →
      exec .frameRejected s = .next
        { taken with lnk := { s.lnk with good := min 255 (s.lnk.good + 1) } }) ∧
    (s.classOf r = .clash →
      exec .frameRejected s = .next
        { taken with
          lnk := { s.lnk with good := min 255 (s.lnk.good + 1), idClash := true },
          rsl := { s.rsl with
            inhibit := if s.stl.fault.isSome then some .settings else some .idClash } })

/-- R108, R189, R191 to R193: the class of a reception, by the first check that applies: RUNT, LONG, RUNT, BAD_CRC,
FOREIGN, UNKNOWN for a kind, a sender or a body that does not fit, CLASH under the own id, else ACCEPTED.  (The
ranges of the shot of a PICKUP and a SEQ_EVENT and of the SoC of a BATTERY_REPORT are the model's choice, DESIGN
CHOICE, log entry 49; that segment bytes have no range is DEDUCED, log entry 29.) -/
def FilterClasses : Prop :=
  ∀ (g : Nat) (own : Option Nat) (r : EndedReception), r.bytes.length = min 64 r.count →
    let at_ := fun i => (r.bytes.getD i 0).toNat
    let length := at_ 1
    let body := ((r.bytes.take length).drop 5).take (length - 7)
    let whole := (r.bytes.take length).drop (length - 2) = crcBytes (crc (r.bytes.take (length - 2)))
    let fits : Prop := if 128 ≤ at_ 4 then at_ 0 = 16 ∧ HandsetBody body
      else at_ 4 % 16 ≠ 0 ∧ StationBody (at_ 0) body
    (r.count < 8 ∨ length < 8 → classify g own r = .runt) ∧
    (8 ≤ r.count → 64 < length → classify g own r = .long) ∧
    (8 ≤ r.count → 8 ≤ length → length ≤ 64 → r.count < length → classify g own r = .runt) ∧
    (8 ≤ length → length ≤ 64 → length ≤ r.count →
      (¬whole → classify g own r = .badCrc) ∧
      (whole → 256 * at_ 2 + at_ 3 ≠ g → classify g own r = .foreign) ∧
      (whole → 256 * at_ 2 + at_ 3 = g →
        (¬fits → classify g own r = .unknown) ∧
        (fits → at_ 4 < 128 → own = some (at_ 4 % 16) → classify g own r = .clash) ∧
        (fits → (128 ≤ at_ 4 ∨ own ≠ some (at_ 4 % 16)) →
          ∃ f, classify g own r = .accepted f ∧ ReadAs (at_ 0) (at_ 4) body f)))

/-- R137 to R141, R109: an ACCEPTED frame of a station that the table knows, or has room for, updates its
entry: last heard always, and the fields its kind carries; a new entry holds nothing else.  (A SEQ_EVENT whose
state or position is not yet formed sets that field absent: the model's reading, DEDUCED, log entry 28.) -/
def PeerFramesTaken : Prop :=
  ∀ (s : State) (id : Nat) (r : EndedReception) (rest : List EndedReception), Plain s →
    ((∃ e ∈ s.pvt, e.id = id) ∨ s.pvt.length < 12) →
    (∀ c, FrameArrives s (.status id c) r rest →
      exec .receiveStatus s = .next { heard s r rest with
        pvt := peersAfter s id r.arrival fun e =>
          { e with
            segments := some c.segments, role := some c.role, state := c.state, cause := c.cause,
            position := c.position, tags := some c.tags } }) ∧
    (∀ c, FrameArrives s (.seqEvent id c) r rest →
      exec .receiveSeqEvent s = .next { heard s r rest with
        pvt := peersAfter s id r.arrival fun e =>
          { e with
            lastEvent := some ⟨c.kind, r.arrival⟩, state := c.state, cause := c.cause,
            position := c.position } }) ∧
    (∀ c, FrameArrives s (.tagNotice id c) r rest →
      exec .receiveTagNotice s = .next { heard s r rest with
        pvt := peersAfter s id r.arrival fun e => { e with tags := some c } }) ∧
    (FrameArrives s (.report id) r rest →
      exec .receivePeerReport s = .next { heard s r rest with
        pvt := peersAfter s id r.arrival fun e => e })

/-- R139, R121, R120: a PICKUP sets the segments and the pickup time of its sender, and a quiet time larger than the
remaining time starts the quiet timer at the frame's arrival, returning a selected entry of priority 2 or 3 in
GAP, SENSE or BACKOFF; one that is not leaves the timer and the access as they run. -/
def PickupReceived : Prop :=
  ∀ (s : State) (id quiet : Nat) (g : Segments) (r : EndedReception) (rest : List EndedReception),
    Plain s → ((∃ e ∈ s.pvt, e.id = id) ∨ s.pvt.length < 12) →
    FrameArrives s (.pickup id g quiet) r rest →
    exec .receivePickup s = .next { quietStarted (heard s r rest) r.arrival (10 * quiet) with
      pvt := peersAfter s id r.arrival fun e =>
        { e with segments := some g, lastPickup := some r.arrival } }

/-- R109, R137 to R141 at a station of any role, beside a test or none: an ACCEPTED frame of a station that the
table knows or has room for counts as good, starts the link timer at its arrival time, and updates the entry of
its sender; the table changes nowhere else; and with no test to abort a PICKUP acts on the quiet timer and the
access (R121), and no other frame on the link.  (A SEQ_EVENT whose state or position is not yet formed, code 0,
sets that field absent: the model's reading, DEDUCED, log entry 28.) -/
def PeersHeardAnywhere : Prop :=
  ∀ (s : State) (f : Frame) (r : EndedReception) (rest : List EndedReception) (row : Instr) (id : Nat)
    (set : PeerEntry → PeerEntry),
    Calm s → FrameArrives s f r rest → carries r.arrival f = some (row, id, set) →
    ((∃ e ∈ s.pvt, e.id = id) ∨ s.pvt.length < 12) →
    ∃ t, exec row s = .next t ∧ t.pvt = peersAfter s id r.arrival set ∧
      t.lnk.good = min 255 (s.lnk.good + 1) ∧ t.lnk.bad = s.lnk.bad ∧
      t.lnk.link = some ⟨r.arrival, 300000⟩ ∧ t.sfe = s.sfe ∧ t.tgt = s.tgt ∧ t.stl = s.stl ∧
      t.rtm = s.rtm ∧ t.clock = s.clock ∧ t.transit.reports = s.transit.reports ∧
      (s.bcu.test = none → s.lnk.reception = none → t.txq = s.txq ∧
        t.lnk = (match f with
          | .pickup _ _ q => (quietStarted (heard s r rest) r.arrival (10 * q)).lnk
          | _ => (heard s r rest).lnk))

/-- R144, R137, R109, R121: a frame of an unknown station that meets a full table, of whatever kind.  With no
entry to evict it is refused: it counts as heard and the table stands; otherwise the newcomer, with what its
frame carries, takes the place of the one evicted.  Nothing else changes, but that a PICKUP, refused or not,
acts on the quiet timer and on the access as any PICKUP does. -/
def FullTable : Prop :=
  ∀ (s : State) (f : Frame) (r : EndedReception) (rest : List EndedReception) (row : Instr) (id : Nat)
    (set : PeerEntry → PeerEntry),
    Plain s → FrameArrives s f r rest → carries r.arrival f = some (row, id, set) →
    s.pvt.length = 12 → (∀ e ∈ s.pvt, e.id ≠ id) →
    let new := set ⟨id, r.arrival, none, none, none, none, none, none, none, none⟩
    let found := s.evictedPeer (s.stl.image.adjacent new.segments)
    ∃ t, exec row s = .next t ∧
      t = { (match f with
        | .pickup _ _ q => quietStarted (heard s r rest) r.arrival (10 * q)
        | _ => heard s r rest) with pvt := t.pvt } ∧
      (found = none → t.pvt = s.pvt) ∧
      (∀ v, found = some v → ∀ e, e ∈ t.pvt ↔ (e ∈ s.pvt ∧ e.id ≠ v.id) ∨ e = new)

/-! ### The crew and the tags -/

/-- R158, R154, R156: a TAG_PLACE acted on.  A new crew's record joins at the end of a list that has room; a
crew's own record is changed in place; a repeat and a full list change nothing; crew id 0 is refused as bad.
The result is asked for before the TAG_NOTICE of a tag change; a tag hold that becomes set locks out the
dead states (R49), whose SEQ_EVENT joins before or after the TGT's frames (R154).  (That the frames of the two
blocks do not interleave is the model's choice, DESIGN CHOICE, log entry 30.) -/
def TagPlaced : Prop :=
  ∀ (s : State) (q : CrewRequest) (r : EndedReception) (rest : List EndedReception),
    Plain s → Indifferent s → TagsSound s → RequestArrives s .tagPlace q r rest →
    ∃ t, exec .crewTagPlace s = .next t ∧
      let new : TagRecord := ⟨q.crew, q.tagKind, match q.target with
        | .station _ => .station
        | .segment g => .segment g⟩
      let answered := fun o => (heard s r rest).askResult q.crew .tagPlace o
      (q.crew = 0 → t = answered .refusedBad) ∧
      (q.crew ≠ 0 → new ∈ s.rtm.items.tags → t = answered .accepted) ∧
      (q.crew ≠ 0 → (∀ x ∈ s.rtm.items.tags, x.crew ≠ q.crew) → s.rtm.items.tags.length = 4 →
        t = answered .refusedFull) ∧
      (q.crew ≠ 0 → (∀ x ∈ s.rtm.items.tags, x.crew ≠ q.crew) → s.rtm.items.tags.length < 4 →
        ¬(s.tagHold = false ∧ Waiting s) →
        t = State.askTagNotice { answered .accepted with
          rtm := Rtm.written { s.rtm.items with tags := s.rtm.items.tags ++ [new] } }) ∧
      (q.crew ≠ 0 → (∃ x ∈ s.rtm.items.tags, x.crew = q.crew) → new ∉ s.rtm.items.tags →
        t = State.askTagNotice { answered .accepted with
          rtm := Rtm.written { s.rtm.items with
            tags := s.rtm.items.tags.map fun x => if x.crew = q.crew then new else x } }) ∧
      (q.crew ≠ 0 → s.tagHold = false → Waiting s →
        let placed : State :=
          { heard s r rest with
            rtm := Rtm.written { s.rtm.items with tags := [new] }, free := s.free + 1 }
        t = lockedOut (placed.askResult q.crew .tagPlace .accepted).askTagNotice .tag ∨
        t = ((lockedOut placed .tag).askResult q.crew .tagPlace .accepted).askTagNotice)

/-- R159, R160, R154: a TAG_REMOVE takes out the record of its crew id, or is answered REFUSED_NOT_OWNER; a
CLEAR_UNKNOWN clears TAG_UNKNOWN, or is answered REFUSED_STATE.  The result is asked for before the
TAG_NOTICE, and whatever the tag hold becomes, the sequence stands. -/
def TagsRemoved : Prop :=
  ∀ (s : State) (q : CrewRequest) (r : EndedReception) (rest : List EndedReception), Calm s →
    s.lnk.reception = none →
    (RequestArrives s .tagRemove q r rest →
      exec .crewTagRemove s = .next
        (if ∃ x ∈ s.rtm.items.tags, x.crew = q.crew then
          State.askTagNotice { (heard s r rest).askResult q.crew .tagRemove .accepted with
            rtm := Rtm.written { s.rtm.items with
              tags := s.rtm.items.tags.filter fun x => x.crew ≠ q.crew } }
        else (heard s r rest).askResult q.crew .tagRemove .refusedNotOwner)) ∧
    (RequestArrives s .clearUnknown q r rest →
      exec .crewClearUnknown s = .next
        (if s.rtm.items.tagUnknown then
          State.askTagNotice { (heard s r rest).askResult q.crew .clearUnknown .accepted with
            rtm := Rtm.written { s.rtm.items with tagUnknown := false } }
        else (heard s r rest).askResult q.crew .clearUnknown .refusedState))

/-- R151, R162, R154: the HOTLINE switch after its first reading.  Turned on it occupies the panel slot and
starts the acknowledgement timer at 5 s; turned off it frees the slot and, with that timer running, clears
TAG_UNKNOWN; the timer's expiry only stops it.  The first reading is no tag change.  A tag hold that becomes
set locks out the dead states, whose SEQ_EVENT joins before or after the TAG_NOTICE with its STATUS demand.  (That
the frames of the two blocks do not interleave is the model's choice, DESIGN CHOICE, log entry 30.) -/
def HotlineSwitch : Prop :=
  ∀ s : State, Plain s → Indifferent s →
    (∀ x, s.tgt.hotlineRead = false → exec (.hotlineSwitchChange x) s = .next
      { s with tgt := { s.tgt with hotlineRead := true, hotlineOn := x } }) ∧
    (s.tgt.hotlineRead = true → s.tgt.hotlineOn = false → ¬(s.tagHold = false ∧ Waiting s) →
      exec (.hotlineSwitchChange true) s = .next (State.askTagNotice
        { s with
          tgt := { s.tgt with hotlineOn := true, ackTimer := some ⟨s.now, 5000⟩ },
          rtm := Rtm.written s.rtm.items })) ∧
    (s.tgt.hotlineRead = true → s.tagHold = false → Waiting s →
      let held : State :=
        { s with
          tgt := { s.tgt with hotlineOn := true, ackTimer := some ⟨s.now, 5000⟩ },
          rtm := Rtm.written s.rtm.items, free := s.free + 1 }
      exec (.hotlineSwitchChange true) s = .next (lockedOut held.askTagNotice .tag) ∨
      exec (.hotlineSwitchChange true) s = .next (lockedOut held .tag).askTagNotice) ∧
    (s.tgt.hotlineRead = true → s.tgt.hotlineOn = true →
      exec (.hotlineSwitchChange false) s = .next (State.askTagNotice
        { s with
          tgt := { s.tgt with hotlineOn := false, ackTimer := none },
          rtm := Rtm.written { s.rtm.items with
            tagUnknown := s.rtm.items.tagUnknown && s.tgt.ackTimer = none } })) ∧
    (s.tgt.ackTimer ≠ none →
      exec .ackTimerExpiry s = .next { s with tgt := { s.tgt with ackTimer := none } })

/-- R51, R52, R55, R58, R134: a crew TRIP and a crew CLOSE act as their panel presses do, with cause and
source CREW, and each is answered with one outcome.  In a dead state the LOCKOUT SEQ_EVENT joins before the
REQUEST_RESULT: the model's reading (DEDUCED, log entry 24). -/
def CrewTripAndClose : Prop :=
  ∀ (s : State) (q : CrewRequest) (r : EndedReception) (rest : List EndedReception) (u : UpdateRecord),
    Plain s → Indifferent s → s.sfe.latest = some u →
    (RequestArrives s .trip q r rest →
      (MayTrip s → exec .crewTrip s = .next ((tripTaken (heard s r rest) .crew s.sqc.shot
        ⟨Ch4.all false, Ch4.all false⟩ u.rms.currents).askResult q.crew .trip .accepted)) ∧
      (Waiting s → exec .crewTrip s = .next
        ((lockedOut (heard s r rest) .crew).askResult q.crew .trip .accepted)) ∧
      (s.sqc.state = some .tripping ∨ s.sqc.state = some .lockout ∨ s.sqc.state = none →
        exec .crewTrip s = .next ((heard s r rest).askResult q.crew .trip .refusedState)) ∧
      (s.sqc.state = some .stuck → s.mdu.tripping = false → exec .crewTrip s = .next
        (if s.sqc.stuckAttempt = true ∨ s.mdu.position = some .opened then
          (heard s r rest).askResult q.crew .trip .refusedState
        else
          (stuckTrip (heard s r rest) .crew u.rms.currents).askResult q.crew .trip .accepted))) ∧
    (RequestArrives s .close q r rest → s.mdu.op = .idle → s.bcu.cls ≠ some .protectOnly →
      exec .crewClose s = .next
        (if s.sqc.state ≠ some .lockout then
          (heard s r rest).askResult q.crew .close .refusedState
        else if s.tagHold then (heard s r rest).askResult q.crew .close .refusedTagged
        else if s.mdu.handleDown then (heard s r rest).askResult q.crew .close .refusedState
        else if s.bcu.cls = some .cutoff then
          (heard s r rest).askResult q.crew .close .refusedEnergy
        else if s.mdu.close.state = .ready then
          (closing (heard s r rest) .crew).askResult q.crew .close .accepted
        else
          (demandStarted (heard s r rest)).askResult q.crew .close .refusedEnergy))

/-- R133, R156: a STATUS_NOW queues its result and then takes a status demand with reason CREW; a request not
acted on is counted as heard and changes nothing else. -/
def StatusNowAndIgnored : Prop :=
  ∀ (s : State) (q : CrewRequest) (r : EndedReception) (rest : List EndedReception), Plain s →
    (RequestArrives s .statusNow q r rest →
      exec .crewStatusNow s = .next
        (((heard s r rest).askResult q.crew .statusNow .accepted).statusDemand .crew)) ∧
    (FrameArrives s (.request q) r rest → q.actedOn s.stl.image = false →
      exec .crewRequestNotActedOn s = .next (heard s r rest))

/-! ### Restoration and the time base -/

/-- R184, R142: the second of the time base raises the second count and runs the ageing pass: a time whose
age has reached 2,147,483,648 ms is moved to that age, and no other field of the table changes. -/
def SecondOfTimeBase : Prop :=
  ∀ s : State, Plain s →
    let moved := fun u : Uptime =>
      if 2147483648 ≤ ageOf s.now u then s.now - 2147483648#32 else u
    exec .timeBaseSecond s = .next
      { s with
        clock := { s.clock with seconds := s.clock.seconds + 1, lastSecond := s.now },
        pvt := s.pvt.map fun e =>
          { e with
            lastHeard := moved e.lastHeard, lastPickup := e.lastPickup.map moved,
            lastEvent := e.lastEvent.map fun v => { v with time := moved v.time } } }

/-- R142: at each second of the time base, on every station, each present time of the peer table whose age has
reached 2,147,483,648 ms is set to the present uptime less that, and no other field changes; no age passes
2,147,483,648 ms by more than the time to the next second; and an entry is FRESH exactly while the age of
its last heard is at most silence_limit. -/
def AgeingPass : Prop :=
  ∀ s : State, s.up = true →
    let moved := fun u : Uptime =>
      if 2147483648 ≤ ageOf s.now u then s.now - 2147483648#32 else u
    ∃ t, exec .timeBaseSecond s = .next t ∧ t.now = s.now ∧
      t.pvt = (s.pvt.map fun e =>
        { e with
          lastHeard := moved e.lastHeard, lastPickup := e.lastPickup.map moved,
          lastEvent := e.lastEvent.map fun v => { v with time := moved v.time } }) ∧
      (∀ e ∈ t.pvt, ∀ k : Nat, k ≤ 1000 →
        let later := t.now + BitVec.ofNat 32 k
        ageOf later e.lastHeard ≤ 2147483648 + k ∧
        (∀ u, e.lastPickup = some u → ageOf later u ≤ 2147483648 + k) ∧
        (∀ v, e.lastEvent = some v → ageOf later v.time ≤ 2147483648 + k)) ∧
      (∀ e ∈ t.pvt, e.fresh t.now t.stl.image.silenceLimit =
        decide ((t.now - e.lastHeard).toNat ≤ 1000 * t.stl.image.silenceLimit))

/-- R166 to R168, R54: the expiry of a midpoint's timer sets the expired mark and makes a check: with the
class decided and not CUTOFF it opens on a FRESH feeding peer in LOCKOUT(PROTECTION), and on silence with
fallback_voltage on; a FRESH peer in any other state is no decision. -/
def MidpointDecides : Prop :=
  ∀ s : State, Calm s → s.rsl.state = .timing none → s.rsl.timer ≠ none → s.mdu.tripping = false →
    s.bcu.test = none →
    let answer := if s.stl.image.sUp = 0 then .absent else s.feedingPeer s.stl.image.sUp
    let opens : Bool := match answer with
      | .fresh e => e.state = some .lockout && e.cause = some .protection
      | .silent _ => s.stl.image.fallbackVoltage
      | .absent => s.stl.image.fallbackVoltage
    ∃ t, exec .midpointTimerExpiry s = .next t ∧
      (opens = true → s.bcu.cls ≠ none → s.bcu.cls ≠ some .cutoff →
        t.rsl.state = .opened ∧ t.rsl.timer = none ∧ t.sqc.state = some .tripping ∧
        t.sqc.opCause = some .restoreOpen ∧ t.mdu.op = .trip
          (if s.mdu.trip.state = .ready then .drive else .storeWait) .first ∧
        t.sqc.shot = s.sqc.shot) ∧
      (opens = false ∨ s.bcu.cls = none ∨ s.bcu.cls = some .cutoff →
        t = { s with rsl := { s.rsl with timer := none, expired := true } }) ∧
      t.sfe = s.sfe ∧ t.peu = s.peu ∧ t.bcu = s.bcu ∧ t.txq = s.txq ∧ t.lnk = s.lnk ∧ t.pvt = s.pvt ∧
      t.tgt = s.tgt ∧ t.stl = s.stl ∧ t.rtm = s.rtm ∧ t.clock = s.clock ∧ t.transit = s.transit

/-- R171 to R173: the first expiry of a tie's timer sets the expired mark, starts the fallback timer at t_mid
and makes a check.  A FRESH feeding peer in LOCKOUT(PROTECTION) ends it in INHIBITED(FAULTED_SEGMENT); one in
LOCKOUT(RESTORE_OPEN) with its position OPEN consents, and with the segment clear of tags, HANDLE up, a class
that allows it and the close store READY the restoration close is begun; any other FRESH answer is no
consent. -/
def TieDecides : Prop :=
  ∀ (s : State) (side : Side) (e : PeerEntry), Calm s → s.rsl.state = .timing (some side) →
    s.rsl.timer ≠ none → s.rsl.expired = false → s.mdu.op = .idle → s.rsl.storeWait = none →
    let g := deadSegment s.stl.image side
    g ≠ 0 → s.feedingPeer g = .fresh e →
    let expired := { s.rsl with
      expired := true, timer := some ⟨s.now, 1000 * s.stl.image.tMid⟩ }
    (e.state = some .lockout ∧ e.cause = some .protection →
      exec .tieTimerExpiry s = .next { s with
        rsl := { expired with state := .inhibited .faultedSegment, timer := none } }) ∧
    (e.state ≠ some .lockout ∨
        (e.cause ≠ some .protection ∧ (e.cause ≠ some .restoreOpen ∨ e.position ≠ some .opened)) →
      exec .tieTimerExpiry s = .next { s with rsl := expired }) ∧
    (e.state = some .lockout → e.cause = some .restoreOpen → e.position = some .opened →
      (s.tagHold = true ∨ s.taggingPeers g ≠ [] ∨ s.mdu.handleDown = true ∨
        s.classAllowsRestore = false) →
      exec .tieTimerExpiry s = .next { s with rsl := expired }) ∧
    (e.state = some .lockout → e.cause = some .restoreOpen → e.position = some .opened →
      s.tagHold = false → s.taggingPeers g = [] → s.mdu.handleDown = false →
      s.classAllowsRestore = true → s.mdu.close.state = .ready →
      exec .tieTimerExpiry s = .next { closing s .restore with
        rsl := { expired with state := .restored, timer := none } })

/-- R173: the store wait's expiry enters INHIBITED(STORE) with the timers stopped. -/
def StoreWaitOver : Prop :=
  ∀ s : State, Calm s → s.rsl.storeWait ≠ none → s.stl.image.role = .tie →
    exec .rslStoreWaitExpiry s = .next { s with
      rsl := { s.rsl with state := .inhibited .store, timer := none, storeWait := none } }

/-- R167, R170: what ends a TIMING ends it at the event that brings it about: after every command a midpoint
is in TIMING only with VS DEAD, the SQC in CLOSED, no pickup and no inhibit reason, and a tie only with its
dead side DEAD, the other LIVE, the SQC in LOCKOUT and no inhibit reason. -/
def TimingNeedsItsConditions : Prop :=
  ∀ (c : Instr) (s t : State), Calm s → exec c s = .next t → ofStart c = false →
    (t.rsl.state = .timing none → t.sfe.vs.state = .dead ∧ t.sqc.state = some .closed ∧
      t.peu.anyPickup = false ∧ t.rsl.inhibit = none) ∧
    (t.rsl.state = .timing (some .up) → t.sfe.vs.state = .dead ∧ t.sfe.vl.state = .live ∧
      t.sqc.state = some .lockout ∧ t.rsl.inhibit = none) ∧
    (t.rsl.state = .timing (some .dn) → t.sfe.vl.state = .dead ∧ t.sfe.vs.state = .live ∧
      t.sqc.state = some .lockout ∧ t.rsl.inhibit = none)

/-- R175, R174: a panel press returns a tie from an INHIBITED state to WATCH, whatever the SQC does with it.  The
press reaches the RSL before the SQC (DESIGN CHOICE, log entry 31) and the entry to TIMING is tested at the end of
the event (DEDUCED, log entry 17), so a TRIP that locks out a dead state may find that entry at once.  In LOCKOUT a TRIP, and a CLOSE that
the gate refuses, change nothing else; a CLOSE that passes the five tests begins the close. -/
def TieRearmed : Prop :=
  ∀ (s : State) (i : Inhibited), Calm s → s.rsl.state = .inhibited i → s.stl.image.role = .tie →
    (s.rsl.storeWait = none ∨ s.bcu.cls ≠ some .protectOnly) →
    (∃ t, exec .panelTrip s = .next t ∧ (t.rsl = rearmed s.rsl ∨ (Waiting s ∧
      ∃ side, t.rsl = { rearmed s.rsl with
        state := .timing (some side), timer := some ⟨s.now, 1000 * s.stl.image.tTie⟩ }))) ∧
    (∃ t, exec .panelClose s = .next t ∧ t.rsl = rearmed s.rsl) ∧
    (s.sqc.state = some .lockout →
      exec .panelTrip s = .next { s with rsl := rearmed s.rsl } ∧
      (s.tagHold = true ∨ s.mdu.handleDown = true ∨ s.bcu.cls = some .cutoff →
        exec .panelClose s = .next { s with rsl := rearmed s.rsl }) ∧
      (s.tagHold = false → s.mdu.handleDown = false → s.bcu.cls ≠ some .cutoff → s.mdu.op = .idle →
        s.mdu.close.state = .ready →
        exec .panelClose s = .next { closing s .manual with rsl := rearmed s.rsl }))

/-- R175, R133: the crew's requests at an INHIBITED tie.  A TRIP and a CLOSE acted on return it to WATCH, whatever
outcome the SQC gives; in LOCKOUT the TRIP is answered REFUSED_STATE, and a CLOSE that meets a tag REFUSED_TAGGED,
and the sequence stands.  A STATUS_NOW returns it with both sides LIVE and else leaves it, and is answered
ACCEPTED, with its STATUS demand, either way.  (The RSL before the SQC: DESIGN CHOICE, log entry 31; the result
of a STATUS_NOW before its demand: DEDUCED, log entry 24; the entry to TIMING last: DEDUCED, log entry 17.) -/
def TieRearmedByCrew : Prop :=
  ∀ (s : State) (i : Inhibited) (q : CrewRequest) (r : EndedReception) (rest : List EndedReception),
    Calm s → s.lnk.reception = none → s.rsl.state = .inhibited i → s.stl.image.role = .tie →
    (s.rsl.storeWait = none ∨ s.bcu.cls ≠ some .protectOnly) →
    (RequestArrives s .trip q r rest →
      (∃ t, exec .crewTrip s = .next t ∧ (t.rsl = rearmed s.rsl ∨ (Waiting s ∧
        ∃ side, t.rsl = { rearmed s.rsl with
          state := .timing (some side), timer := some ⟨s.now, 1000 * s.stl.image.tTie⟩ }))) ∧
      (s.sqc.state = some .lockout → exec .crewTrip s = .next
        { (heard s r rest).askResult q.crew .trip .refusedState with rsl := rearmed s.rsl })) ∧
    (RequestArrives s .close q r rest →
      (∃ t, exec .crewClose s = .next t ∧ t.rsl = rearmed s.rsl) ∧
      (s.sqc.state = some .lockout → s.tagHold = true → exec .crewClose s = .next
        { (heard s r rest).askResult q.crew .close .refusedTagged with rsl := rearmed s.rsl })) ∧
    (RequestArrives s .statusNow q r rest → exec .crewStatusNow s = .next
      { ((heard s r rest).askResult q.crew .statusNow .accepted).statusDemand .crew with
        rsl := if s.sfe.vs.state = .live ∧ s.sfe.vl.state = .live then rearmed s.rsl else s.rsl })

/-- R166, R167, R170: the entry to TIMING.  It is made at an event that changes a voltage state, the sequence
state, ANY_PICKUP or the inhibit reason, or at a second of the time base, and at no other.  A midpoint enters
from WATCH exactly with the SQC in CLOSED, both sides DEAD, no pickup and no inhibit reason, for t_mid less the
age of VS, expired at once where that is 0 or less: its first check may then open it, at such an event or at the
reclaim's expiry.  A tie enters with the SQC in LOCKOUT, one side DEAD, the other LIVE and no inhibit reason, for
t_tie, from WATCH or from the TIMING of the other side.  (That the entry is tested once, at the end of the event,
against the inputs before it, is DEDUCED, log entry 17.) -/
def TimingEntered : Prop :=
  ∀ (c : Instr) (s t : State), Calm s → exec c s = .next t → ofStart c = false →
    let tested : Prop := c = .timeBaseSecond ∨ s.sfe.vs.state ≠ t.sfe.vs.state ∨
      s.sfe.vl.state ≠ t.sfe.vl.state ∨ s.sqc.state ≠ t.sqc.state ∨
      s.peu.anyPickup ≠ t.peu.anyPickup ∨ s.rsl.inhibit ≠ t.rsl.inhibit
    let age := if t.sfe.vs.aged then 2147483648 else ageOf t.now t.sfe.vs.lastChange
    let middle := 1000 * t.stl.image.tMid
    (t.rsl.state = .timing none → s.rsl.state ≠ .timing none →
      tested ∧ t.stl.image.role = .midpoint ∧ t.sfe.vl.state = .dead ∧
      (age < middle → t.rsl.timer = some ⟨t.now, middle - age⟩ ∧ t.rsl.expired = false) ∧
      (middle ≤ age → t.rsl.timer = none ∧ t.rsl.expired = true)) ∧
    (s.rsl.state = .watch → t.rsl.state = .opened → (tested ∨ c = .reclaimExpiry) ∧ middle ≤ age) ∧
    (∀ side, t.rsl.state = .timing (some side) → s.rsl.state ≠ .timing (some side) →
      tested ∧ t.stl.image.role = .tie ∧ t.rsl.timer = some ⟨t.now, 1000 * t.stl.image.tTie⟩ ∧
      t.rsl.expired = false ∧ t.rsl.fallbackDue = false) ∧
    (s.rsl.state = .watch → tested → t.stl.image.role = .midpoint → t.sqc.state = some .closed →
      t.sfe.vs.state = .dead → t.sfe.vl.state = .dead → t.peu.anyPickup = false →
      t.rsl.inhibit = none → t.rsl.state = .timing none) ∧
    (∀ side, (s.rsl.state = .watch ∨ ∃ x, s.rsl.state = .timing (some x) ∧ x ≠ side) → tested →
      t.stl.image.role = .tie → t.sqc.state = some .lockout →
      t.sfe.vs.state = (if side = .up then .dead else .live) →
      t.sfe.vl.state = (if side = .up then .live else .dead) → t.rsl.inhibit = none →
      t.rsl.state = .timing (some side))

/-- R171 to R173: each expiry of a tie's timer.  The first sets the expired mark and starts the fallback timer at
t_mid, the second sets fallback due; then the check.  A faulted finding ends in INHIBITED(FAULTED_SEGMENT).
Consent, from a FRESH peer or on silence with the fallback on and due, with the segment clear of tags, HANDLE up
and a class that allows it, begins the close with the close store READY, ends in INHIBITED(STORE) with it not
READY and t_ewait 0, and else starts the store wait.  Any other check decides nothing. -/
def TieExpires : Prop :=
  ∀ (s : State) (side : Side), Calm s → s.rsl.state = .timing (some side) → s.rsl.timer ≠ none →
    s.mdu.op = .idle → s.rsl.storeWait = none →
    let g := segmentOf s.stl.image side
    let expiry : Rsl := if s.rsl.expired then { s.rsl with timer := none, fallbackDue := true }
      else { s.rsl with expired := true, timer := some ⟨s.now, 1000 * s.stl.image.tMid⟩ }
    exec .tieTimerExpiry s = .next
      (if faulted (feeding s g) then
        { s with rsl := { expiry with state := .inhibited .faultedSegment, timer := none } }
      else if consents s.stl.image.fallbackVoltage expiry.fallbackDue (feeding s g) && passes s g then
        if s.mdu.close.state = .ready then
          { closing s .restore with rsl := { expiry with state := .restored, timer := none } }
        else if s.stl.image.tEwait = 0 then
          { s with rsl := { expiry with state := .inhibited .store, timer := none } }
        else { s with rsl := { expiry with storeWait := some ⟨s.now, 1000 * s.stl.image.tEwait⟩ } }
      else { s with rsl := expiry })

/-- R166, R168, R171 to R173: the check of a second of the time base, in TIMING with the expired mark set.  A
midpoint opens as at the expiry of its timer; a tie decides as there, a store wait that runs going on under a
check that passes and stopped by one that does not.  Without the mark there is no check. -/
def ChecksAtSeconds : Prop :=
  ∀ s : State, Calm s →
    ∃ t, exec .timeBaseSecond s = .next t ∧
      (s.rsl.state = .timing none → s.rsl.expired = true → s.mdu.tripping = false →
        MidpointChecked s t) ∧
      (∀ side, s.rsl.state = .timing (some side) → s.rsl.expired = true → s.mdu.op = .idle →
        TieChecked s t side) ∧
      ((s.rsl.state = .timing none ∨ ∃ side, s.rsl.state = .timing (some side)) →
        s.rsl.expired = false → t.rsl = s.rsl ∧ t.sqc = s.sqc)

/-- R148, R166, R168, R171 to R173: the check at a table-change notice.  A frame that updates an entry, joins one, or
takes the place of an evicted one makes the check of a second on the table as it then stands; a frame that a full
table refuses gives no notice, and without the expired mark there is no check: the RSL and the sequence stand. -/
def ChecksAtNotices : Prop :=
  ∀ (s : State) (f : Frame) (r : EndedReception) (rest : List EndedReception) (row : Instr) (id : Nat)
    (set : PeerEntry → PeerEntry),
    Calm s → FrameArrives s f r rest → carries r.arrival f = some (row, id, set) →
    let new := set ⟨id, r.arrival, none, none, none, none, none, none, none, none⟩
    let notice : Prop := (∃ e ∈ s.pvt, e.id = id) ∨ s.pvt.length < 12 ∨
      s.evictedPeer (s.stl.image.adjacent new.segments) ≠ none
    ∃ t, exec row s = .next t ∧
      (notice → s.rsl.state = .timing none → s.rsl.expired = true → s.mdu.tripping = false →
        MidpointChecked s t) ∧
      (notice → ∀ side, s.rsl.state = .timing (some side) → s.rsl.expired = true → s.mdu.op = .idle →
        TieChecked s t side) ∧
      (¬notice ∨ s.rsl.expired = false ∨
          (s.rsl.state ≠ .timing none ∧ ∀ side, s.rsl.state ≠ .timing (some side)) →
        t.rsl = s.rsl ∧ t.sqc = s.sqc)

/-! ### The start -/

/-- R178: a start event switches every output off and loses every queue, table and timer, whatever the part
is doing; READ begins with no word.  The Retained Memory stands where the battery stayed connected; where it
did not, its check fails (R185), and that the items themselves stand there is the model's choice (DESIGN
CHOICE, log entry 15). -/
def StartBegins : Prop :=
  ∀ (s : State) (kept : Bool),
    ∃ t, exec (.restartInput kept) s = .next t ∧ exec (.supplyReturn kept) s = .next t ∧
      t.outputs = ⟨false, false, false, false, 0, false, false, false, [], false, false, false, false⟩ ∧
      t.stl.phase = .read [] ∧ t.up = false ∧ t.txq.entries = [] ∧ t.pvt = [] ∧
      t.transit = ⟨[], []⟩ ∧ t.mdu.op = .idle ∧ t.sqc.state = none ∧ t.rtm.items = s.rtm.items ∧
      (kept = true → t.rtm = s.rtm) ∧ (kept = false → t.rtm.agrees = false)

/-- R179: a word delivered in READ is kept, in order, and the next one waited for; a word not delivered in time
is taken as 0xFFFF; the 96th ends the read, and the block of 96 words is the one checked.  An absent memory
gives 96 words of 0xFFFF, whose sum is 65,440 and fails the CHECKSUM check. -/
def WordsRead : Prop :=
  (∀ (s : State) (w : Word16) (ws : List Word16), s.stl.phase = .read ws →
    (ws.length < 95 → exec (.settingsWordRead w) s = .next
      { s with stl := { s.stl with phase := .read (ws ++ [w]) } }) ∧
    (ws.length = 95 → ∃ t, exec (.settingsWordRead w) s = .next t ∧ t.up = true ∧
      t.stl.fault = checkBlock (ws ++ [w])) ∧
    exec .settingsWordTimeout s = exec (.settingsWordRead 0xFFFF#16) s) ∧
  blockSum (List.replicate 96 0xFFFF#16) = 65440 ∧
  checkBlock (List.replicate 96 0xFFFF#16) = some ⟨95, .checksum⟩

/-- R178, R180, R183, R186, R187, R117, R131: the 96th word brings the part up: the image frozen, with the tables
derived from it (W of 48 or 40 by the line frequency, the rates and reset decrements as ceil(65,536 / t), Qcap), WARM with the retained items or COLD without, the uptime at 0, every block in its start state, the
generator seeded, test due formed from the days since test with its retry in 3,600 s, the inhibit reason formed,
NONRECLOSE taken as on, and one STATUS entry with reason START.  At a WARM start Q is clamped to Qcap, which sets
Q_UNCERTAIN, and a wear limit at or below the wear total sets MECH_WEAR; every other retained item stands.  (The
level of BUSY, which a start keeps, is the model's own field, log entry 5.) -/
def PartBroughtUp : Prop :=
  ∀ (s : State) (w : Word16) (ws : List Word16), s.stl.phase = .read ws → ws.length = 95 →
    ∃ t, exec (.settingsWordRead w) s = .next t ∧
      t.stl.phase = .up ∧ t.stl.fault = checkBlock (ws ++ [w]) ∧
      (t.stl.fault = none → t.stl.image = imageOf (ws ++ [w])) ∧
      (t.stl.fault ≠ none → t.stl.image = safeImage (ws ++ [w])) ∧
      t.stl.tables = {
        w := if t.stl.image.lineHz = 60 then 40 else 48,
        fastRates := t.stl.image.fast.map fun x => (65536 + x - 1) / x,
        delayedRates := t.stl.image.delayed.map fun x => (65536 + x - 1) / x,
        resetP := if t.stl.image.tResetP = 0 then none
          else some ((65536 + t.stl.image.tResetP - 1) / t.stl.image.tResetP),
        resetG := if t.stl.image.tResetG = 0 then none
          else some ((65536 + t.stl.image.tResetG - 1) / t.stl.image.tResetG),
        qcap := t.stl.image.capacityAh * 3600000, checksum := w } ∧
      t.clock = ⟨0, 0, 0⟩ ∧ t.sfe = Sfe.start ∧ t.peu = Peu.start ∧ t.sqc = Sqc.start ∧
      t.mdu = Mdu.start ∧ t.tgt = ⟨true, false, none⟩ ∧ t.pvt = [] ∧
      (let due := decide (t.stl.image.testInterval ≤ t.rtm.items.daysSinceTest)
       t.bcu =
        { supplyOk := false, supplyRead := false, mode := .off, duty := 0, absorbSeconds := 0,
          tailRun := 0, floatSeconds := 0, lowFloatRun := 0, soc := none, cls := none, cutoffRun := 0,
          latestMean := none, daySeconds := 0, testDue := due, test := none, loadTimer := none,
          retryTimer := if due then some ⟨0, 3600000⟩ else none, latestAttempt := none }) ∧
      (let seed := w + BitVec.ofNat 16 (4096 * t.stl.image.stationId.getD 0)
       t.lnk =
        { power := .off, warmUp := none, cycle := none, holdLimit := none, reception := none,
          access := .idle, selected := none, slot := none, sendTimer := none, collide := false,
          pendingPower := none, pacing := 0, rng := if seed = 0 then 1 else seed, quiet := none,
          idClash := false, good := 0, bad := 0, link := none, busy := s.lnk.busy, outFrame := [] }) ∧
      t.rsl =
        { state := if t.stl.image.role = .tie then .inhibited .start else .watch, timer := none,
          expired := false, fallbackDue := false, storeWait := none,
          inhibit := if t.stl.fault.isSome then some .settings else some .nonreclose } ∧
      (s.rtm.agrees = false → t.rtm = Rtm.written
        { tags := [], tagUnknown := true,
          health := ⟨⟨0, 200, 200⟩, ⟨0, 200, 200⟩, ⟨0, 200, 200⟩, ⟨0, 200, 200⟩⟩,
          q := t.stl.tables.qcap / 2, qUncertain := true, daysSinceTest := 0, lastResult := none,
          opCounter := 0, wearTotal := 0, mechWear := false }) ∧
      (s.rtm.agrees = true → t.rtm = Rtm.written
        { s.rtm.items with
          q := min t.stl.tables.qcap s.rtm.items.q,
          qUncertain := s.rtm.items.qUncertain || t.stl.tables.qcap < s.rtm.items.q,
          mechWear := s.rtm.items.mechWear || (t.stl.image.wearLimit ≠ 0 &&
            t.stl.image.wearLimit ≤ s.rtm.items.wearTotal) }) ∧
      t.txq.entries.map Entry.content = [.status ⟨false, true, false, false, false, false⟩] ∧
      t.txq.owed = none ∧ t.txq.pendingReport = none ∧ t.txq.period = none ∧
      t.transit = ⟨[], []⟩ ∧ t.free = s.free

/-- R180, R181: a good block sums to 0 modulo 65,536, bears the format word, and holds every field in its range
and none of the conflicts; and the first failure is the one recorded: CHECKSUM at word 95, FORMAT at word 0,
RANGE at the first word that is out of its range, and CONFLICT at the word that R181 names for the first conflict
in its order. -/
def BlockChecked : Prop :=
  ∀ b : List Word16, b.length = 96 →
    let w := wordAt b
    let sound : Prop := ∀ i < 96, wordFits i (w i) = true
    let rises := fun i : Nat => decide (w (i - 1) < w i)
    let fast := [17, 18, 19, 20, 21, 22, 23, 24].find? rises
    let delayed := [26, 27, 28, 29, 30, 31, 32, 33].find? rises
    let conflict : Option Nat :=
      if w 8 ≤ w 9 then some 9
      else if fast ≠ none then fast
      else if delayed ≠ none then delayed
      else if w 36 < w 37 then some 37
      else if w 4 = 2 ∧ w 5 = w 6 then some 6
      else if w 56 ≤ w 57 then some 56
      else if w 55 ≤ w 56 then some 55
      else none
    (checkBlock b = none → blockSum b = 0 ∧ w 0 = 0xE701 ∧ sound ∧ w 9 < w 8 ∧ w 37 ≤ w 36 ∧
      w 57 < w 56 ∧ w 56 < w 55 ∧ (w 4 = 2 → w 5 ≠ w 6) ∧
      (∀ i, (16 ≤ i ∧ i < 24) ∨ (25 ≤ i ∧ i < 33) → w (i + 1) ≤ w i)) ∧
    (blockSum b ≠ 0 → checkBlock b = some ⟨95, .checksum⟩) ∧
    (blockSum b = 0 → w 0 ≠ 0xE701 → checkBlock b = some ⟨0, .format⟩) ∧
    (∀ i, blockSum b = 0 → w 0 = 0xE701 → i < 96 → wordFits i (w i) = false →
      (∀ j < i, wordFits j (w j) = true) → checkBlock b = some ⟨i, .range⟩) ∧
    (blockSum b = 0 → w 0 = 0xE701 → sound →
      checkBlock b = conflict.map fun i => ⟨i, .conflict⟩)

/-- R194, R180: the range of each word of a block, the high byte of a shared word being its first field; words 1,
34, 35, 39, 48, 49, 60 and 66 hold any value, and 0 and 95 are tested by FORMAT and CHECKSUM. -/
def WordRanges : Prop :=
  (∀ p ∈ ([(2, 1, 15), (4, 0, 2), (5, 0, 31), (6, 0, 31), (8, 1, 32767), (9, 0, 32766),
      (10, 1, 65535), (11, 1, 65535), (12, 1, 32767), (13, 1, 32767), (14, 0, 32767),
      (15, 0, 32767), (36, 1, 4), (37, 0, 4), (38, 0, 15), (40, 0, 1), (41, 10, 18000),
      (42, 10, 18000), (43, 10, 18000), (44, 1, 180), (45, 0, 60), (46, 0, 60), (47, 0, 100),
      (50, 1, 200), (51, 1, 32767), (52, 1, 65535), (53, 1, 32767), (54, 501, 65535),
      (55, 1, 65535), (56, 1, 65535), (57, 1, 65535), (58, 1, 30), (59, 1, 65535), (61, 1, 65535),
      (62, 1, 199), (63, 1, 199), (64, 1, 199), (65, 1, 199), (67, 10, 600), (68, 30, 3600),
      (69, 1, 3600), (70, 1, 3600), (71, 0, 1)] : List (Nat × Nat × Nat)),
    ∀ n ≤ 65535, wordFits p.1 n = true ↔ p.2.1 ≤ n ∧ n ≤ p.2.2) ∧
  (∀ i n : Nat, n ≤ 65535 → (16 ≤ i ∧ i ≤ 33 → (wordFits i n = true ↔ 1 ≤ n)) ∧
    (72 ≤ i ∧ i ≤ 94 → (wordFits i n = true ↔ n = 0)) ∧
    (i ∈ [0, 1, 34, 35, 39, 48, 49, 60, 66, 95] → wordFits i n = true)) ∧
  (∀ n ≤ 65535, (wordFits 3 n = true ↔ n = 50 ∨ n = 60) ∧
    (wordFits 7 n = true ↔ n / 256 ≤ 7 ∧ n % 256 ≤ 7))

/-- R180, R182, R194: the image of a good block holds the words of its fields, and the image after a settings
fault the safe settings, with the group code as read and line frequency, station id, S_up and S_dn each from
its own word where that passes RANGE. -/
def ImagesMade : Prop :=
  ∀ b : List Word16,
    let c := imageOf b
    let f := safeImage b
    let w := wordAt b
    [c.groupCode, c.lineHz, c.sUp, c.sDn, c.aI, c.aV, c.vLive, c.vDead, c.vbGain, c.ibGain, c.pPu,
      c.gPu, c.pInst, c.gInst] =
      [w 1, w 3, w 5, w 6, w 7 / 256, w 7 % 256, w 8, w 9, w 10, w 11, w 12, w 13, w 14, w 15] ∧
    c.stationId = some (w 2) ∧
    (w 4 = 0 → c.role = .none) ∧ (w 4 = 1 → c.role = .midpoint) ∧ (w 4 = 2 → c.role = .tie) ∧
    c.fast = [w 16, w 17, w 18, w 19, w 20, w 21, w 22, w 23, w 24] ∧
    c.delayed = [w 25, w 26, w 27, w 28, w 29, w 30, w 31, w 32, w 33] ∧
    [c.tResetP, c.tResetG, c.l, c.fastShots, c.instMask, c.holdTime, c.qQuiet, c.dt1, c.dt2, c.dt3,
      c.tReclaim, c.tEwait, c.tSlow, c.tSlowClose, c.wearLimit, c.capacityAh] =
      [w 34, w 35, w 36, w 37, w 38, w 39 / 256, w 39 % 256, w 41, w 42, w 43, w 44, w 45, w 46,
        w 47, 65536 * w 48 + w 49, w 50] ∧
    [c.iBulk, c.vAbs, c.iTail, c.vFloat, c.vEcon, c.vProt, c.vCut, c.testInterval, c.rMax,
      c.vTestMin, c.rRef, c.thresholds.resistance, c.thresholds.testFails,
      c.thresholds.deepDischarge, c.thresholds.absorbLimit, c.priorityMap, c.statusPeriod,
      c.silenceLimit, c.tMid, c.tTie] =
      [w 51, w 52, w 53, w 54, w 55, w 56, w 57, w 58, w 59, w 60, w 61, w 62, w 63, w 64, w 65,
        w 66, w 67, w 68, w 69, w 70] ∧
    (c.seqCoord = true ↔ w 40 = 1) ∧ (c.fallbackVoltage = true ↔ w 71 = 1) ∧
    f.groupCode = w 1 ∧ f.stationId = (if 1 ≤ w 2 ∧ w 2 ≤ 15 then some (w 2) else none) ∧
    f.lineHz = (if w 3 = 60 then 60 else 50) ∧ f.sUp = (if w 5 ≤ 31 then w 5 else 0) ∧
    f.sDn = (if w 6 ≤ 31 then w 6 else 0) ∧ f.role = .none ∧
    [f.pPu, f.gPu, f.pInst, f.gInst, f.tResetP, f.tResetG, f.l, f.fastShots, f.instMask, f.dt1,
      f.dt2, f.dt3, f.tReclaim, f.tEwait, f.holdTime, f.qQuiet, f.aI, f.aV, f.vLive, f.vDead,
      f.vbGain, f.ibGain, f.tMid, f.tTie] =
      [4000, 2000, 0, 0, 120, 120, 1, 0, 0, 500, 500, 500, 30, 10, 0, 0, 3, 3, 2000, 600, 4096, 4096,
        60, 120] ∧
    f.fast = List.replicate 9 120 ∧ f.delayed = List.replicate 9 120 ∧ f.seqCoord = false ∧
    f.fallbackVoltage = false ∧
    [f.tSlow, f.tSlowClose, f.wearLimit, f.capacityAh, f.priorityMap, f.statusPeriod,
      f.silenceLimit] = [0, 0, 0, 20, 3664, 60, 300] ∧
    [f.iBulk, f.iTail, f.vAbs, f.vFloat, f.vEcon, f.vProt, f.vCut, f.testInterval, f.rMax, f.rRef,
      f.vTestMin, f.thresholds.resistance, f.thresholds.testFails, f.thresholds.deepDischarge,
      f.thresholds.absorbLimit] =
      [2000, 200, 14400, 13600, 12200, 11800, 10800, 30, 150, 50, 11500, 100, 100, 100, 100]

end Sys2Proof.Claims

/-! ### The statements by name: each is one claim or a few that belong together -/

/-- A step runs the front command.  For every command c, state s and rest of the queue, step of s with c in
front of the rest is exec of c on s with the rest as its queue. -/
def Obligations.StepRunsFrontCommand : Prop :=
  Sys2Proof.Claims.StepRunsFrontCommand

/-- Every command answers a next state and leaves the queue of commands alone.  In every state every command
answers a next state with the same queue of waiting commands; before BRING-UP a command that is no part of a
start changes nothing but the level of BUSY that the model keeps (log entries 3 and 5: the model's choice). -/
def Obligations.CommandsComplete : Prop :=
  Sys2Proof.Claims.EveryCommandCompletes ∧
  Sys2Proof.Claims.NothingBeforeBringUp

/-- The idle step, and when each event falls due (the model's choice, DESIGN CHOICE, log entries 10, 11 and 13).
With an empty queue a part that is up takes the first event that has fallen due into its queue, or lets 1 ms
of uptime pass when none is due; before BRING-UP nothing happens.  The event found is due, and one is found
whenever one is due: an arrival in front, a count at its limit, each row's own timer run to its length, a
listen window 250 ms after it opened and the next one 2,000 ms or, in SPARSE, 30,000 ms after it, the oldest
PICKUP 1,000 ms after its join, 1,000 ms without a first position, and each 1,000 ms of the time base.
(That the send timer is b x 1.0417 ms rounded up is DESIGN CHOICE, log entry 50.) -/
def Obligations.IdleStep : Prop :=
  Sys2Proof.Claims.IdleStep ∧
  Sys2Proof.Claims.DueEvents

/-- The state after reset has every law.  State.reset satisfies every invariant of Safety.Sound. -/
def Obligations.ResetIsSound : Prop :=
  Sys2Proof.Claims.ResetIsSound

/-- Every step leaves the part settled.  From a settled state every step gives a settled state: the inhibit
reason formed, no exit of the restoration state open, the store wait only in a class that allows it, no test
past an abort condition, the charger assigned, and no reception without the listen enable. -/
def Obligations.SettledHolds : Prop :=
  Sys2Proof.Claims.SettledHolds

/-- The transmit queue keeps its bounds and its order.  Every step keeps the transmit queue at no more than 8
entries, no more than one STATUS and one BATTERY_REPORT, in order of priority and then of joining, with
distinct join orders. -/
def Obligations.QueueHolds : Prop :=
  Sys2Proof.Claims.QueueHolds

/-- The peer table keeps its bounds.  Every step keeps the peer table at no more than 12 entries, one per
station id 1..15 and none with the own id. -/
def Obligations.PeersHold : Prop :=
  Sys2Proof.Claims.PeersHold

/-- The retained items keep their integrity word, and the tags their bounds.  Every step of a part that is up
leaves the check over the retained items in agreement with the integrity word, and every step keeps at most
4 radio tags, one per crew, each a record of R152. -/
def Obligations.RetainedAndTagsHold : Prop :=
  Sys2Proof.Claims.RetainedHolds ∧
  Sys2Proof.Claims.TagsHold

/-- The shot stays within 0..L and every accumulator in its range.  Every step keeps the shot within 0..L, and
every accumulator in 0..65,536 and in 0..65,535 while a hold applies to it.  (That the shot in CLOSING may
be L, where the close was taken in a LOCKOUT whose shot is L, is DESIGN CHOICE, log entry 53; that a trip
request then leaves it at L is DEDUCED, log entry 22.) -/
def Obligations.ShotAndAccumulatorsHold : Prop :=
  Sys2Proof.Claims.ShotHolds ∧
  Sys2Proof.Claims.AccumulatorsHold

/-- The radio follows the class, the charger its supply and test, the stores their one charger, the fault timer
the position; and what the part drives and shows.  Every step keeps these: the radio OFF without a decided
class and in CUTOFF, with no access while OFF, a power state pending only in a send, and a send only with
its entry in flight; the duty a byte, 0 in TEST and in OFF, OFF exactly without supply, TEST exactly while a
test runs with its load timer; the capacitor charger at most at one store, and STORE_WAIT only without a
READY trip store; the position-fault timer running and a stay reported only in UNKNOWN.  In every state the
coils, enables, duty, serial output and lamps are what these items make them. -/
def Obligations.RadioChargerStoresHold : Prop :=
  Sys2Proof.Claims.RadioHolds ∧
  Sys2Proof.Claims.ChargerHolds ∧
  Sys2Proof.Claims.StoresHold ∧
  Sys2Proof.Claims.PositionHolds ∧
  Sys2Proof.Claims.OutputsShown

/-- No close begins behind a shut gate, and no trip pulse without a READY store.  No command begins a close
operation while a tag is held, TAG_UNKNOWN is set, HANDLE is down, the class is CUTOFF or the sequence is in
STUCK, nor without a READY close store; and no command switches the trip coil on without a READY trip store. -/
def Obligations.CloseGateAndTripStore : Prop :=
  Sys2Proof.Claims.CloseNeedsOpenGate ∧
  Sys2Proof.Claims.TripCoilNeedsStore

/-- Settings are frozen and alarms latched until the next start; the derived rates are sound.  After BRING-UP no
command but a start event changes the image, the derived tables or the fault record, and none clears
ID_CLASH, MECH_SLOW or MECH_WEAR; while the part is up both curves have nine rates of 1..65,536, none below
the one before it. -/
def Obligations.FrozenAndLatched : Prop :=
  Sys2Proof.Claims.SettingsFrozen ∧
  Sys2Proof.Claims.AlarmsLatched ∧
  Sys2Proof.Claims.RatesHold

/-- Tags change at the hand of crews alone.  On a part that is up, TAG_UNKNOWN is cleared only by CLEAR_UNKNOWN
or by the HOTLINE switch turned off and is never set by a command, and the radio tags change only at
TAG_PLACE and TAG_REMOVE.  (That the retained items stand at a start event with the battery disconnected,
where the manual says only that they fail the check, is the model's choice, DESIGN CHOICE, log entry 15.) -/
def Obligations.TagsChangeByCrewAlone : Prop :=
  Sys2Proof.Claims.TagsChangeByCrewAlone

/-- Tests, charging and restoration timing stand only under their conditions.  After every command that is no
part of a start, a test in progress has the conditions of R97 and one that ended otherwise than by its load
timer is ABORTED with a retry in 3,600 s; the charger serves the trip store first and the close store by the
policy; and a TIMING state has the conditions of R167 or R170. -/
def Obligations.TestChargerTiming : Prop :=
  Sys2Proof.Claims.TestNeedsItsConditions ∧
  Sys2Proof.Claims.ChargerServesByPolicy ∧
  Sys2Proof.Claims.TimingNeedsItsConditions

/-- A restoration close has its conditions.  A command that takes a station into RESTORED does so from the
TIMING of a tie with that dead side, in LOCKOUT with no tag of its own, HANDLE up and the class NORMAL or
ECONOMY, begins a close of source RESTORE, and finds the feeding peer of the dead segment consenting (FRESH,
in LOCKOUT(RESTORE_OPEN), OPEN), or not FRESH with the voltage fallback on and due, and no FRESH peer
tagging that segment. -/
def Obligations.RestoreCloseNeedsConsent : Prop :=
  Sys2Proof.Claims.RestoreCloseNeedsConsent

/-- The arithmetic of the measurement chain.  The whole-number square root rounds down; the rms of sums within
range lies in 0..32,768; the DC estimate moves toward its sample without passing it, rests exactly inside
its dead band, and the filtered sample stays in range. -/
def Obligations.MeasurementArithmetic : Prop :=
  Sys2Proof.Claims.SquareRootRoundsDown ∧
  Sys2Proof.Claims.RmsInRange ∧
  Sys2Proof.Claims.DcEstimateFollows

/-- The CRC.  The computation of the CRC, its check value, its residue, the order of its bytes, and the
receiver's comparison. -/
def Obligations.CrcClosesFrame : Prop :=
  Sys2Proof.Claims.CrcClosesFrame

/-- The layout of a frame, the codes of its fields, the bodies of the frames, and what peers read back of a
PICKUP, a TAG_NOTICE and a REQUEST_RESULT.  A frame is header, body and CRC; the coded fields have their
codes; the bodies of STATUS, SEQ_EVENT, BATTERY_REPORT, PICKUP, TAG_NOTICE and REQUEST_RESULT hold their
bytes; a PICKUP or a TAG_NOTICE that a station of the group sends is ACCEPTED by another station and read
with the content its receivers keep, and a REQUEST_RESULT is ACCEPTED with its sender alone.  (That segment
bytes 32..255 are accepted is the model's reading, DEDUCED, log entry 29.) -/
def Obligations.FramesReadBack : Prop :=
  Sys2Proof.Claims.FrameLayout ∧
  Sys2Proof.Claims.PeersReadWhatIsSent ∧
  Sys2Proof.Claims.CodesOfFields ∧
  Sys2Proof.Claims.BodiesOfFrames

/-- The random generator, and the draws for the backoff and for the jitter of the status period.  The advance,
the seed, the backoff drawn with its width, the status period drawn with its jitter in NORMAL and ECONOMY,
the register never 0, and its period of 65,535. -/
def Obligations.RandomGeneratorPeriod : Prop :=
  Sys2Proof.Claims.RandomGeneratorPeriod

/-- The reserve class, the charger at a second, and the health values.  An evaluation takes the worst class
entered, by the thresholds of R88, where that is worse, moves one class up exactly under the leave
condition, and else stays; at a one-second update the cutoff run, the class and the radio power state that
follows it, and the duty step, counts and exit of the charger mode; the value of each attribute from its
raw, in 1..200, falling with the raw, and the worst never rising.  (That the SoC terms decide first that the
update ends a test, and its one evaluation is then on its mV with the run counted, is the model's reading,
DEDUCED, log entry 44.) -/
def Obligations.ClassAndHealth : Prop :=
  Sys2Proof.Claims.ClassMovesOneUp ∧
  Sys2Proof.Claims.ClassAtSecond ∧
  Sys2Proof.Claims.ChargerSteps ∧
  Sys2Proof.Claims.HealthValuesInRange

/-- Joins, overflow, eligibility and the search.  A join places its entry with the next join order and 0
attempts; a joining frame of priority 0 returns a selected entry of priority 2 or 3 in GAP or BACKOFF, and
any other join leaves the access to run on; a frame that meets a full list evicts the youngest entry of the
numerically greatest priority not in flight, if not more urgent than itself, and joins, or is dropped, with
a status demand of reason OVERFLOW; an entry is eligible by the own id, the radio, SPARSE and the quiet
timer; the search selects the first eligible entry, for a GAP of 2 or 5 slots.  (That a STATUS which joins a
full list by eviction carries OVERFLOW in its own reason set is the model's reading, DEDUCED, log entry 41.) -/
def Obligations.OverflowAndSearch : Prop :=
  Sys2Proof.Claims.OverflowRule ∧
  Sys2Proof.Claims.OverflowEffect ∧
  Sys2Proof.Claims.JoinPlaces ∧
  Sys2Proof.Claims.JoinDisplaces ∧
  Sys2Proof.Claims.EligibleEntries ∧
  Sys2Proof.Claims.SearchSelectsFirst

/-- What a SEQ_EVENT, a TAG_NOTICE, a REQUEST_RESULT and a PICKUP take at their join.  With room in the list the
asking adds one entry with the content at the join, the next join order and no attempts, a SEQ_EVENT and a
TAG_NOTICE demand a STATUS with their reason, and nothing outside the TXQ and the access of the LNK changes. -/
def Obligations.SeqEventJoins : Prop :=
  Sys2Proof.Claims.SeqEventJoins ∧
  Sys2Proof.Claims.AskingsJoin

/-- Bits and samples, on every channel.  A clock period advances each channel's three integrators and the bit
count; the 256th bit's sample advances the combs of all eight channels and, once the discards are over, is
scaled and clamped, on the six AC channels clip-tested, filtered with the DC estimate and squared into the
half-cycle sum, and on VB and IBAT added to the battery sums. -/
def Obligations.BitsAndSamples : Prop :=
  Sys2Proof.Claims.BitAdvancesIntegrators ∧
  Sys2Proof.Claims.SampleCompleted

/-- The half-cycle update, with the voltage states of VS and VL.  The sums move, the clip flags clear, the
record is published with rms, clips and voltage states; on VS and on VL three updates at or above V_live (or
clipped) make LIVE, three below V_dead make DEAD, and one in the band between breaks both runs; WARMING
updates leave states and elements alone; and the elements, the hand-offs and, with no test in progress, the
transmit queue are those that the evaluation of the published record leaves. -/
def Obligations.HalfCyclePublished : Prop :=
  Sys2Proof.Claims.HalfCyclePublished ∧
  Sys2Proof.Claims.UpdateEvaluated

/-- An evaluated update: trip requests, sequence steps, PICKUPs, holds.  The elements evaluate in CLOSED,
RECLAIM and CLOSING with no request outstanding and no WARMING record; the update adds to the hand-offs one
trip request exactly when an element trips, naming the elements, the time and the rms, and one sequence step
exactly under the conditions of R34; the episode and its PICKUP, the INST flags, the selection, the holds of
R31 and R33 and the effective L are as stated; a picked-up element rises by the rate of the selected curve
at the highest of the nine breakpoints not above its multiple, by rate_0 in the dropout band; a steady rate
reaches 65,536 at the ceil(65,536/rate)-th update. -/
def Obligations.TripRequestedAtUpdate : Prop :=
  Sys2Proof.Claims.TripRequestedAtUpdate ∧
  Sys2Proof.Claims.ElementsEvaluate ∧
  Sys2Proof.Claims.HoldsSettled ∧
  Sys2Proof.Claims.StaircaseRises ∧
  Sys2Proof.Claims.BreakpointsOfCurves ∧
  Sys2Proof.Claims.TripCountOfSteadyCurrent

/-- The fall of an accumulator.  At an evaluated update an element that is not picked up falls by its derived
decrement clamped at 0, or to 0 with a reset time of 0, from the drop-out update on; a picked-up one goes on
from the value left. -/
def Obligations.AccumulatorFalls : Prop :=
  Sys2Proof.Claims.AccumulatorFalls

/-- The charge of the battery.  Every step keeps Q within 0..Qcap, and every one-second update adds its mean
current exactly and then clamps, in every charger mode. -/
def Obligations.ChargeKept : Prop :=
  Sys2Proof.Claims.ChargeHolds ∧
  Sys2Proof.Claims.ChargeCounted

/-- The one-second update.  The means are delivered and the sums cleared, the charge counted, SoC formed from
it, the day second counted; tags, peers, settings, switches and clock stand. -/
def Obligations.SecondCounted : Prop :=
  Sys2Proof.Claims.SecondCounted

/-- Day rollover, scheduled and crew tests.  A rollover with no test falling due only counts the day; one at
which a scheduled test falls due sets test due and makes the attempt at once; a scheduled attempt begins the
test under the eight preconditions or starts the 60 s retry; a crew request, at a station of any role,
begins it or is answered with the first failing precondition, a running test the first of them.  (That a
test begun at a rollover keeps that rollover's update as its loaded mean is DEDUCED, log entry 23.) -/
def Obligations.DaysAndAttempts : Prop :=
  Sys2Proof.Claims.DayRollsOver ∧
  Sys2Proof.Claims.ScheduledTestFallsDue ∧
  Sys2Proof.Claims.ScheduledAttempt ∧
  Sys2Proof.Claims.CrewBatteryTest

/-- A trip request at the SQC.  In CLOSED, RECLAIM and CLOSING the trip is taken with shot + 1, at most L,
record and operation; in TRIPPING it is absorbed; in the other states it is dropped and the PEU cleared.
(That a trip request which meets the shot L leaves it there is DEDUCED, log entry 22.) -/
def Obligations.TripRequests : Prop :=
  Sys2Proof.Claims.TripRequestTaken ∧
  Sys2Proof.Claims.TripRequestNotTaken

/-- Sequence steps, and the energy-wait, reclaim and close-demand timers.  A step below the effective L minus 1
in CLOSED or RECLAIM raises the shot into RECLAIM; the energy wait locks out; reclaim ends in CLOSED with
shot 0; the close demand ends. -/
def Obligations.StepsAndSequenceTimers : Prop :=
  Sys2Proof.Claims.SequenceStepTaken ∧
  Sys2Proof.Claims.SequenceTimersOver

/-- The open confirmation.  In TRIPPING the record takes the operating time, a protection trip below the
effective L goes to DEAD for the dead time of its shot, any other to LOCKOUT with its cause, with the
elements cleared and TRIP then DEAD_TIME or LOCKOUT asked for. -/
def Obligations.OpenConfirmed : Prop :=
  Sys2Proof.Claims.OpenConfirmed

/-- STUCK.  TRIP_FAIL in TRIPPING and a position fault enter STUCK with their causes; in STUCK the reports do
what R58 gives them and the state stays.  (With the STUCK attempt clear, where the table of R58 holds a
dash, a report acts alike: the model's reading, DEDUCED, log entry 32.) -/
def Obligations.Stuck : Prop :=
  Sys2Proof.Claims.StuckEntered ∧
  Sys2Proof.Claims.StuckTakesReports

/-- Close answers and unsolicited changes.  A close confirmation enters RECLAIM with the shot and SEQ_EVENT of
its source, CLOSE_FAIL locks out; an unsolicited open locks out with its cause, an unsolicited close enters
RECLAIM with L - 1. -/
def Obligations.ClosesAndUnsolicited : Prop :=
  Sys2Proof.Claims.CloseAnswered ∧
  Sys2Proof.Claims.UnsolicitedChanges

/-- The dead timer expires.  A shut gate locks out with the cause of its first shut condition; an open one
closes with the store READY, waits for it, or locks out with ENERGY where t_ewait is 0. -/
def Obligations.DeadTimeOver : Prop :=
  Sys2Proof.Claims.DeadTimeOver

/-- The panel TRIP.  It trips in CLOSED, RECLAIM and CLOSING, locks out the dead states, asks for one attempt in
STUCK, and is ignored otherwise. -/
def Obligations.PanelTrip : Prop :=
  Sys2Proof.Claims.PanelTrip ∧
  Sys2Proof.Claims.PanelTripInStuck

/-- The panel CLOSE, NONRECLOSE and HANDLE.  A panel CLOSE that passes the five tests begins the close, one that
fails the store alone starts the close demand, any other is ignored; NONRECLOSE on and HANDLE down lock out
the dead states.  (That a close taken in a LOCKOUT whose shot is L keeps the shot at L in CLOSING is DESIGN
CHOICE, log entry 53.) -/
def Obligations.PanelCloseAndSwitches : Prop :=
  Sys2Proof.Claims.PanelClose ∧
  Sys2Proof.Claims.SwitchAndHandle

/-- The first position.  The first position, or its absence after 1,000 ms, completes at a station of any role
with no test in progress: it gives the SQC its start state and cause, leaves the transmit queue as it
stands, so with no SEQ_EVENT, and changes nothing else but what the RSL takes from the new state. -/
def Obligations.FirstPositionDecides : Prop :=
  Sys2Proof.Claims.FirstPositionDecides

/-- A trip operation ends.  OPEN seen ends it with position, counters, wear, MECH_SLOW and confirmation; the
pulse limit starts attempt 2 or ends it in TRIP_FAIL, as the store wait does; contacts OPEN in STORE_WAIT
end it as OPEN seen does, and CLOSED or UNKNOWN are published alone.  (MECH_SLOW at TRIP_FAIL is the model's
inference, log entry 20.) -/
def Obligations.TripOperation : Prop :=
  Sys2Proof.Claims.OpenSeenEndsTrip ∧
  Sys2Proof.Claims.TripLimits ∧
  Sys2Proof.Claims.PositionInTrip

/-- A close operation, its ends and the positions that arrive in it.  CLOSED seen ends it with its confirmation
and MECH_SLOW when slow, the pulse limit in CLOSE_FAIL; a debounced CLOSED ends it as CLOSED seen does, and
OPEN or UNKNOWN are published alone, the operation running on.  (That a debounced CLOSED ends it is DEDUCED,
log entry 21.) -/
def Obligations.CloseOperation : Prop :=
  Sys2Proof.Claims.CloseEnds ∧
  Sys2Proof.Claims.PositionInClose

/-- Changes of position outside an operation, and the position fault.  UNKNOWN starts the 20 ms fault timer, a
new end is reported as not asked for and an open counted; the fault timer's expiry hands on one position
fault, for a stay in UNKNOWN that has not been reported, and no command hands on a second one for the same
stay.  (That the timer runs again in a reported stay where R64 starts it, and its expiry reports nothing, is
DEDUCED, log entry 19; that an end reached after the fault timer has expired is reported, and an open
counted, is DEDUCED, log entry 51.) -/
def Obligations.PositionChanges : Prop :=
  Sys2Proof.Claims.PositionChanges ∧
  Sys2Proof.Claims.PositionFaultReported ∧
  Sys2Proof.Claims.OneFaultForEachStay

/-- The energy stores.  A ready input makes its store READY or EMPTY and moves the charger; a waiting trip
operation enters DRIVE; the charge limit and retry timers do what R77 gives them. -/
def Obligations.EnergyStores : Prop :=
  Sys2Proof.Claims.ReadyInputRead ∧
  Sys2Proof.Claims.StoreTimersOver

/-- Supply changes and the end of a test with its report.  SUPPLY_OK takes the charger between OFF and BULK with
D at 0, and going inactive aborts a test; the load timer ends the test with its result, attributes and days,
the charger in BULK with D at 0 (OFF without supply), and asks for its BATTERY_REPORT, which joins, replaces
the one waiting in place, or stays pending beside one in flight.  (That the reports at the end of a test
carry BULK or OFF, the charger having left TEST before they are asked for, is DESIGN CHOICE, log entry 52.) -/
def Obligations.SupplyAndTest : Prop :=
  Sys2Proof.Claims.SupplyChanges ∧
  Sys2Proof.Claims.SupplyInTest ∧
  Sys2Proof.Claims.TestEnds ∧
  Sys2Proof.Claims.BatteryReportAsked

/-- Receptions and listening.  Bytes are taken only while listening and end a reception at its length; the gap
timer, the windows and the hold limit do what R107 and R113 give them. -/
def Obligations.Receptions : Prop :=
  Sys2Proof.Claims.ByteReceived ∧
  Sys2Proof.Claims.ListeningEvents

/-- The timers of the link and the life of a PICKUP.  The warm-up and the quiet timer end in a search, the link
timer stops, and a PICKUP whose life is over leaves or is marked. -/
def Obligations.LinkAndPickupTimers : Prop :=
  Sys2Proof.Claims.LinkTimersOver ∧
  Sys2Proof.Claims.PickupLifeOver

/-- Sensing the channel.  At the end of GAP or BACKOFF an inactive BUSY sends the selected entry with its frame
formed, and an active one defers with a pacing counter of 15.  (That the send timer is b x 1.0417 ms rounded
up to a whole ms is the model's choice, DESIGN CHOICE, log entry 50.) -/
def Obligations.ChannelSensed : Prop :=
  Sys2Proof.Claims.ChannelSensed

/-- The end of a deferral, and a collision.  BUSY going inactive in SENSE draws a backoff, one of 0 slots
passing to SENSE and its send at the same event, or returns the entry that a priority-0 frame preempts;
COLLIDE is latched in SENDING alone.  (That the priority-0 frame must still be in the queue at the end of
the deferral, else the backoff is drawn, is the model's choice, DESIGN CHOICE, log entry 47; that a
COLLIDE_ACTIVE outside SENDING changes nothing at all, no level of the line being held, is DESIGN CHOICE,
log entry 48; that the send begun so is timed in whole ms, rounded up, is DESIGN CHOICE, log entry 50.) -/
def Obligations.Deferral : Prop :=
  Sys2Proof.Claims.DeferralEnds ∧
  Sys2Proof.Claims.CollisionLatched

/-- The end of a send, with a power state pending or none, and a send cut by OFF.  A clean send leaves, a
pending report joining after a BATTERY_REPORT; a collided one of any kind is abandoned at its attempt limit
with status owed or the pending report joining, or else stays with its raised count, its reasons or its
content brought up to date, returned where the quiet timer holds its priority, sent away where its life is
over, or drawing a backoff; a pending radio power state is applied after that, beginning its listening and
returning an entry it does not select, and the search follows; a send cut by the change to OFF returns its
entry with its attempt count.  (That an entry of priority 2 or 3 with a priority-0 frame waiting is returned
after the draw is DEDUCED, log entry 25; that a PICKUP whose life is over leaves after the draw is DEDUCED,
log entry 26; that a power state applied while it is in force leaves its listen cycle is DESIGN CHOICE, log
entry 45; that a pending state comes before a backoff of 0 slots passes to SENSE is DESIGN CHOICE, log entry
46; that a send begun anew after a draw of 0 slots is timed in whole ms, rounded up, is DESIGN CHOICE, log
entry 50.) -/
def Obligations.SendEnds : Prop :=
  Sys2Proof.Claims.CleanSendEnds ∧
  Sys2Proof.Claims.CollidedSendEnds ∧
  Sys2Proof.Claims.SendCollides ∧
  Sys2Proof.Claims.BatterySendEnds ∧
  Sys2Proof.Claims.PendingPowerApplied ∧
  Sys2Proof.Claims.SendCutByOff

/-- STATUS frames.  A clean STATUS send lets the status owed join and restarts the period; the period's expiry
demands a STATUS and restarts it; at P + j in NORMAL and at 4P + j in ECONOMY. -/
def Obligations.StatusFrames : Prop :=
  Sys2Proof.Claims.StatusSendEnds ∧
  Sys2Proof.Claims.PeriodOver

/-- The classes of the receive filter, and frames that are not accepted.  A reception is RUNT, LONG, BAD_CRC,
FOREIGN, UNKNOWN, CLASH or ACCEPTED by the first check that applies, each kind with the lengths, codes and
ranges its body must hold, and an ACCEPTED one is read field by field; each class raises its count or none,
and CLASH sets ID_CLASH and the inhibit reason.  (The ranges applied to the shot of a PICKUP and a SEQ_EVENT
and to the SoC of a BATTERY_REPORT are DESIGN CHOICE, log entry 49; that segment bytes have no range is
DEDUCED, log entry 29.) -/
def Obligations.FrameRejected : Prop :=
  Sys2Proof.Claims.FilterClasses ∧
  Sys2Proof.Claims.FrameRejected

/-- Frames of peers at a station without a restoration role.  Each kind sets the fields it carries in the entry
of its sender, known or new; a PICKUP also starts the quiet timer when its quiet time is larger, and returns
a selected entry of priority 2 or 3 in GAP, SENSE or BACKOFF then.  (A SEQ_EVENT with state or position not
yet formed, code 0, sets that field absent: the model's reading, DEDUCED, log entry 28.) -/
def Obligations.PeerFrames : Prop :=
  Sys2Proof.Claims.PeerFramesTaken ∧
  Sys2Proof.Claims.PickupReceived

/-- A full peer table, and the answers of the table.  The entry evicted follows the rows of R144: each row finds
an entry exactly as stated, and of its entries the one of the greatest age goes, the highest station id
among equal ages; a newcomer that no row admits is refused, whatever its frame's kind, and a PICKUP acts on
the quiet timer and the access either way; the downstream pickup, the feeding peer, the tagging peers and
the tag answer are as stated. -/
def Obligations.FullTable : Prop :=
  Sys2Proof.Claims.FullTable ∧
  Sys2Proof.Claims.AdmissionRule ∧
  Sys2Proof.Claims.PeerAnswers

/-- Tags placed, and the HOTLINE switch.  A TAG_PLACE and a change of the HOTLINE switch change the tags,
answer, notify, and lock out the dead states when the tag hold becomes set.  (The TGT's frames and the SQC's
join in either order, R154, by the draw of a free value; that the frames of one do not interleave with the
other's, so that these two orders are the only ones, is the model's choice, DESIGN CHOICE, log entry 30.) -/
def Obligations.TagsPlaced : Prop :=
  Sys2Proof.Claims.TagPlaced ∧
  Sys2Proof.Claims.HotlineSwitch

/-- Tags removed, TAG_UNKNOWN cleared.  A TAG_REMOVE takes out its crew's record or is answered
REFUSED_NOT_OWNER; a CLEAR_UNKNOWN clears TAG_UNKNOWN or is answered REFUSED_STATE. -/
def Obligations.TagsRemoved : Prop :=
  Sys2Proof.Claims.TagsRemoved

/-- Crew TRIP, CLOSE and STATUS_NOW.  They act as the panel does, a TRIP in STUCK too, and are each answered
once; STATUS_NOW queues its result and a STATUS demand; a request not acted on is only counted.  (That the
LOCKOUT SEQ_EVENT of a crew TRIP in a dead state joins before its REQUEST_RESULT, and the REQUEST_RESULT of
a STATUS_NOW before its status demand, is the model's reading, DEDUCED, log entry 24; that a close taken in
a LOCKOUT whose shot is L keeps the shot at L in CLOSING is DESIGN CHOICE, log entry 53.) -/
def Obligations.CrewOperations : Prop :=
  Sys2Proof.Claims.CrewTripAndClose ∧
  Sys2Proof.Claims.StatusNowAndIgnored

/-- The second of the time base and the ageing pass.  The second count rises, the times of the peer table are
kept from wrapping, nothing else changes on a station without a restoration role, and an entry is FRESH by
its age. -/
def Obligations.SecondOfTimeBase : Prop :=
  Sys2Proof.Claims.SecondOfTimeBase ∧
  Sys2Proof.Claims.AgeingPass

/-- The restoration logic: the entry to TIMING, its expiries and checks, the store wait, and the return to
WATCH.  TIMING is entered under its conditions at the events that test them, at a midpoint for t_mid less
the age of VS, at a tie for t_tie; a midpoint opens on the answer of the peer table; each of the two
expiries of a tie, each second and each table-change notice makes the check that inhibits it, closes it,
starts the store wait, enters INHIBITED(STORE) at a t_ewait of 0, or decides nothing; the store wait's
expiry inhibits; a panel or crew TRIP or CLOSE, and a crew STATUS_NOW with both sides LIVE, rearm.  (That
the entry is tested once at the end of an event is DEDUCED, log entry 17; that a STATUS_NOW's result joins
before its demand is DEDUCED, log entry 24; that a press or request reaches the RSL before the SQC is DESIGN
CHOICE, log entry 31; that a close taken in a LOCKOUT whose shot is L keeps the shot at L in CLOSING is
DESIGN CHOICE, log entry 53.) -/
def Obligations.Restoration : Prop :=
  Sys2Proof.Claims.TimingEntered ∧
  Sys2Proof.Claims.MidpointDecides ∧
  Sys2Proof.Claims.TieDecides ∧
  Sys2Proof.Claims.TieExpires ∧
  Sys2Proof.Claims.ChecksAtSeconds ∧
  Sys2Proof.Claims.ChecksAtNotices ∧
  Sys2Proof.Claims.StoreWaitOver ∧
  Sys2Proof.Claims.TieRearmed ∧
  Sys2Proof.Claims.TieRearmedByCrew

/-- The read of the settings.  Words are kept in order, a word not delivered is 0xFFFF, the 96th ends the read
with the block checked, and an absent memory fails the CHECKSUM check. -/
def Obligations.WordsRead : Prop :=
  Sys2Proof.Claims.WordsRead

/-- A start from its event to BRING-UP.  A start event switches the outputs off and loses queues, tables and
timers; the 96th word checks the block, freezes the image and the tables derived from it (W, the rates of
both curves, the reset decrements, Qcap, the checksum), brings back or clears the retained items, Q and
MECH_WEAR taken against the new image, and puts every block in its start state, with test due, the generator
and the inhibit reason formed; the first failure of the block is recorded with its reason and its word, for
CONFLICT the word that R181 names; the range of every word, the image of a good block and the safe settings
are as the manual's tables give them.  (That the retained items themselves stand over a start with the
battery disconnected is the model's choice, log entry 15; the level of BUSY that a start keeps is the
model's own field, log entry 5.) -/
def Obligations.StartAndBringUp : Prop :=
  Sys2Proof.Claims.StartBegins ∧
  Sys2Proof.Claims.PartBroughtUp ∧
  Sys2Proof.Claims.BlockChecked ∧
  Sys2Proof.Claims.WordRanges ∧
  Sys2Proof.Claims.ImagesMade

/-- The sequence and the peers at a station of any role, beside a test or none.  Trips, confirmations, faults,
unsolicited changes, sequence steps, the dead, energy-wait, reclaim and close-demand timers, NONRECLOSE,
HANDLE, the panel and the crew TRIP and CLOSE act on the sequence at a MIDPOINT and a TIE as at any station,
in any reserve class, with the effect on TIMING, OPENED and RESTORED, and a test in progress is aborted by
those that leave CLOSED; the close store becoming READY begins the close that waited for it; and an ACCEPTED
frame updates the peer table alike, a PICKUP acting on the quiet timer too.  (That a SEQ_EVENT with state or
position not yet formed, code 0, sets that field absent at a known entry is the model's reading, DEDUCED,
log entry 28; the order of a crew TRIP's frames is DEDUCED, log entry 24; that a press reaches the RSL
before the SQC is DESIGN CHOICE, log entry 31; that a trip request which meets the shot L leaves it there is
DEDUCED, log entry 22; that a close taken in a LOCKOUT whose shot is L keeps the shot at L in CLOSING is
DESIGN CHOICE, log entry 53.) -/
def Obligations.SequenceAtAnyStation : Prop :=
  Sys2Proof.Claims.SequenceAtAnyStation ∧
  Sys2Proof.Claims.DeadStatesAnywhere ∧
  Sys2Proof.Claims.PressesAnywhere ∧
  Sys2Proof.Claims.StoreReadyCloses ∧
  Sys2Proof.Claims.PeersHeardAnywhere
end

