-- ==== Sys2Proof/Laws/State.lean ====
section
/-! SUPPORT. What each plain update of the state does to each of its fields, once and by unfolding, so that no
later proof unfolds a record update. -/

namespace Sys2Proof.Machine

/-! ### State.report -/

@[simp] theorem State.report_sfe (s : State) (r : Report) : (s.report r).sfe = s.sfe := rfl
@[simp] theorem State.report_peu (s : State) (r : Report) : (s.report r).peu = s.peu := rfl
@[simp] theorem State.report_sqc (s : State) (r : Report) : (s.report r).sqc = s.sqc := rfl
@[simp] theorem State.report_mdu (s : State) (r : Report) : (s.report r).mdu = s.mdu := rfl
@[simp] theorem State.report_bcu (s : State) (r : Report) : (s.report r).bcu = s.bcu := rfl
@[simp] theorem State.report_lnk (s : State) (r : Report) : (s.report r).lnk = s.lnk := rfl
@[simp] theorem State.report_txq (s : State) (r : Report) : (s.report r).txq = s.txq := rfl
@[simp] theorem State.report_pvt (s : State) (r : Report) : (s.report r).pvt = s.pvt := rfl
@[simp] theorem State.report_tgt (s : State) (r : Report) : (s.report r).tgt = s.tgt := rfl
@[simp] theorem State.report_rsl (s : State) (r : Report) : (s.report r).rsl = s.rsl := rfl
@[simp] theorem State.report_stl (s : State) (r : Report) : (s.report r).stl = s.stl := rfl
@[simp] theorem State.report_rtm (s : State) (r : Report) : (s.report r).rtm = s.rtm := rfl
@[simp] theorem State.report_clock (s : State) (r : Report) : (s.report r).clock = s.clock := rfl
@[simp] theorem State.report_transit (s : State) (r : Report) :
    (s.report r).transit = { s.transit with reports := s.transit.reports ++ [r] } := rfl
@[simp] theorem State.report_free (s : State) (r : Report) : (s.report r).free = s.free := rfl
@[simp] theorem State.report_pending (s : State) (r : Report) : (s.report r).pending = s.pending := rfl

/-! ### State.retain -/

@[simp] theorem State.retain_sfe (s : State) (f : Retained → Retained) : (s.retain f).sfe = s.sfe := rfl
@[simp] theorem State.retain_peu (s : State) (f : Retained → Retained) : (s.retain f).peu = s.peu := rfl
@[simp] theorem State.retain_sqc (s : State) (f : Retained → Retained) : (s.retain f).sqc = s.sqc := rfl
@[simp] theorem State.retain_mdu (s : State) (f : Retained → Retained) : (s.retain f).mdu = s.mdu := rfl
@[simp] theorem State.retain_bcu (s : State) (f : Retained → Retained) : (s.retain f).bcu = s.bcu := rfl
@[simp] theorem State.retain_lnk (s : State) (f : Retained → Retained) : (s.retain f).lnk = s.lnk := rfl
@[simp] theorem State.retain_txq (s : State) (f : Retained → Retained) : (s.retain f).txq = s.txq := rfl
@[simp] theorem State.retain_pvt (s : State) (f : Retained → Retained) : (s.retain f).pvt = s.pvt := rfl
@[simp] theorem State.retain_tgt (s : State) (f : Retained → Retained) : (s.retain f).tgt = s.tgt := rfl
@[simp] theorem State.retain_rsl (s : State) (f : Retained → Retained) : (s.retain f).rsl = s.rsl := rfl
@[simp] theorem State.retain_stl (s : State) (f : Retained → Retained) : (s.retain f).stl = s.stl := rfl
@[simp] theorem State.retain_rtm (s : State) (f : Retained → Retained) :
    (s.retain f).rtm = Rtm.written (f s.rtm.items) := rfl
@[simp] theorem State.retain_clock (s : State) (f : Retained → Retained) : (s.retain f).clock = s.clock := rfl
@[simp] theorem State.retain_transit (s : State) (f : Retained → Retained) :
    (s.retain f).transit = s.transit := rfl
@[simp] theorem State.retain_free (s : State) (f : Retained → Retained) : (s.retain f).free = s.free := rfl
@[simp] theorem State.retain_pending (s : State) (f : Retained → Retained) :
    (s.retain f).pending = s.pending := rfl

/-! ### State.tick -/

@[simp] theorem State.tick_sfe (s : State) : (s.tick).sfe = s.sfe := rfl
@[simp] theorem State.tick_peu (s : State) : (s.tick).peu = s.peu := rfl
@[simp] theorem State.tick_sqc (s : State) : (s.tick).sqc = s.sqc := rfl
@[simp] theorem State.tick_mdu (s : State) : (s.tick).mdu = s.mdu := rfl
@[simp] theorem State.tick_bcu (s : State) : (s.tick).bcu = s.bcu := rfl
@[simp] theorem State.tick_lnk (s : State) : (s.tick).lnk = s.lnk := rfl
@[simp] theorem State.tick_txq (s : State) : (s.tick).txq = s.txq := rfl
@[simp] theorem State.tick_pvt (s : State) : (s.tick).pvt = s.pvt := rfl
@[simp] theorem State.tick_tgt (s : State) : (s.tick).tgt = s.tgt := rfl
@[simp] theorem State.tick_rsl (s : State) : (s.tick).rsl = s.rsl := rfl
@[simp] theorem State.tick_stl (s : State) : (s.tick).stl = s.stl := rfl
@[simp] theorem State.tick_rtm (s : State) : (s.tick).rtm = s.rtm := rfl
@[simp] theorem State.tick_clock (s : State) :
    (s.tick).clock = { s.clock with uptime := s.clock.uptime + 1 } := rfl
@[simp] theorem State.tick_transit (s : State) : (s.tick).transit = s.transit := rfl
@[simp] theorem State.tick_free (s : State) : (s.tick).free = s.free := rfl
@[simp] theorem State.tick_pending (s : State) : (s.tick).pending = s.pending := rfl

/-! ### State.watch -/

@[simp] theorem State.watch_sfe (s : State) : (s.watch).sfe = s.sfe := rfl
@[simp] theorem State.watch_peu (s : State) : (s.watch).peu = s.peu := rfl
@[simp] theorem State.watch_sqc (s : State) : (s.watch).sqc = s.sqc := rfl
@[simp] theorem State.watch_mdu (s : State) : (s.watch).mdu = s.mdu := rfl
@[simp] theorem State.watch_bcu (s : State) : (s.watch).bcu = s.bcu := rfl
@[simp] theorem State.watch_lnk (s : State) : (s.watch).lnk = s.lnk := rfl
@[simp] theorem State.watch_txq (s : State) : (s.watch).txq = s.txq := rfl
@[simp] theorem State.watch_pvt (s : State) : (s.watch).pvt = s.pvt := rfl
@[simp] theorem State.watch_tgt (s : State) : (s.watch).tgt = s.tgt := rfl
@[simp] theorem State.watch_rsl (s : State) : (s.watch).rsl = s.rsl.toWatch := rfl
@[simp] theorem State.watch_stl (s : State) : (s.watch).stl = s.stl := rfl
@[simp] theorem State.watch_rtm (s : State) : (s.watch).rtm = s.rtm := rfl
@[simp] theorem State.watch_clock (s : State) : (s.watch).clock = s.clock := rfl
@[simp] theorem State.watch_transit (s : State) : (s.watch).transit = s.transit := rfl
@[simp] theorem State.watch_free (s : State) : (s.watch).free = s.free := rfl
@[simp] theorem State.watch_pending (s : State) : (s.watch).pending = s.pending := rfl

/-! ### State.rest -/

@[simp] theorem State.rest_sfe (s : State) (r : RestState) : (s.rest r).sfe = s.sfe := rfl
@[simp] theorem State.rest_peu (s : State) (r : RestState) : (s.rest r).peu = s.peu := rfl
@[simp] theorem State.rest_sqc (s : State) (r : RestState) : (s.rest r).sqc = s.sqc := rfl
@[simp] theorem State.rest_mdu (s : State) (r : RestState) : (s.rest r).mdu = s.mdu := rfl
@[simp] theorem State.rest_bcu (s : State) (r : RestState) : (s.rest r).bcu = s.bcu := rfl
@[simp] theorem State.rest_lnk (s : State) (r : RestState) : (s.rest r).lnk = s.lnk := rfl
@[simp] theorem State.rest_txq (s : State) (r : RestState) : (s.rest r).txq = s.txq := rfl
@[simp] theorem State.rest_pvt (s : State) (r : RestState) : (s.rest r).pvt = s.pvt := rfl
@[simp] theorem State.rest_tgt (s : State) (r : RestState) : (s.rest r).tgt = s.tgt := rfl
@[simp] theorem State.rest_rsl (s : State) (r : RestState) :
    (s.rest r).rsl = { s.rsl with state := r, timer := none, storeWait := none } := rfl
@[simp] theorem State.rest_stl (s : State) (r : RestState) : (s.rest r).stl = s.stl := rfl
@[simp] theorem State.rest_rtm (s : State) (r : RestState) : (s.rest r).rtm = s.rtm := rfl
@[simp] theorem State.rest_clock (s : State) (r : RestState) : (s.rest r).clock = s.clock := rfl
@[simp] theorem State.rest_transit (s : State) (r : RestState) : (s.rest r).transit = s.transit := rfl
@[simp] theorem State.rest_free (s : State) (r : RestState) : (s.rest r).free = s.free := rfl
@[simp] theorem State.rest_pending (s : State) (r : RestState) : (s.rest r).pending = s.pending := rfl

/-! ### State.stopWait -/

@[simp] theorem State.stopWait_sfe (s : State) : (s.stopWait).sfe = s.sfe := rfl
@[simp] theorem State.stopWait_peu (s : State) : (s.stopWait).peu = s.peu := rfl
@[simp] theorem State.stopWait_sqc (s : State) : (s.stopWait).sqc = s.sqc := rfl
@[simp] theorem State.stopWait_mdu (s : State) : (s.stopWait).mdu = s.mdu := rfl
@[simp] theorem State.stopWait_bcu (s : State) : (s.stopWait).bcu = s.bcu := rfl
@[simp] theorem State.stopWait_lnk (s : State) : (s.stopWait).lnk = s.lnk := rfl
@[simp] theorem State.stopWait_txq (s : State) : (s.stopWait).txq = s.txq := rfl
@[simp] theorem State.stopWait_pvt (s : State) : (s.stopWait).pvt = s.pvt := rfl
@[simp] theorem State.stopWait_tgt (s : State) : (s.stopWait).tgt = s.tgt := rfl
@[simp] theorem State.stopWait_rsl (s : State) : (s.stopWait).rsl = { s.rsl with storeWait := none } := rfl
@[simp] theorem State.stopWait_stl (s : State) : (s.stopWait).stl = s.stl := rfl
@[simp] theorem State.stopWait_rtm (s : State) : (s.stopWait).rtm = s.rtm := rfl
@[simp] theorem State.stopWait_clock (s : State) : (s.stopWait).clock = s.clock := rfl
@[simp] theorem State.stopWait_transit (s : State) : (s.stopWait).transit = s.transit := rfl
@[simp] theorem State.stopWait_free (s : State) : (s.stopWait).free = s.free := rfl
@[simp] theorem State.stopWait_pending (s : State) : (s.stopWait).pending = s.pending := rfl

/-! ### State.agePeers -/

@[simp] theorem State.agePeers_sfe (s : State) : (s.agePeers).sfe = s.sfe := rfl
@[simp] theorem State.agePeers_peu (s : State) : (s.agePeers).peu = s.peu := rfl
@[simp] theorem State.agePeers_sqc (s : State) : (s.agePeers).sqc = s.sqc := rfl
@[simp] theorem State.agePeers_mdu (s : State) : (s.agePeers).mdu = s.mdu := rfl
@[simp] theorem State.agePeers_bcu (s : State) : (s.agePeers).bcu = s.bcu := rfl
@[simp] theorem State.agePeers_lnk (s : State) : (s.agePeers).lnk = s.lnk := rfl
@[simp] theorem State.agePeers_txq (s : State) : (s.agePeers).txq = s.txq := rfl
@[simp] theorem State.agePeers_pvt (s : State) : (s.agePeers).pvt = s.pvt.map (PeerEntry.aged s.now) := rfl
@[simp] theorem State.agePeers_tgt (s : State) : (s.agePeers).tgt = s.tgt := rfl
@[simp] theorem State.agePeers_rsl (s : State) : (s.agePeers).rsl = s.rsl := rfl
@[simp] theorem State.agePeers_stl (s : State) : (s.agePeers).stl = s.stl := rfl
@[simp] theorem State.agePeers_rtm (s : State) : (s.agePeers).rtm = s.rtm := rfl
@[simp] theorem State.agePeers_clock (s : State) : (s.agePeers).clock = s.clock := rfl
@[simp] theorem State.agePeers_transit (s : State) : (s.agePeers).transit = s.transit := rfl
@[simp] theorem State.agePeers_free (s : State) : (s.agePeers).free = s.free := rfl
@[simp] theorem State.agePeers_pending (s : State) : (s.agePeers).pending = s.pending := rfl

/-! ### State.charger -/

@[simp] theorem State.charger_sfe (s : State) (m : ChargerMode) : (s.charger m).sfe = s.sfe := rfl
@[simp] theorem State.charger_peu (s : State) (m : ChargerMode) : (s.charger m).peu = s.peu := rfl
@[simp] theorem State.charger_sqc (s : State) (m : ChargerMode) : (s.charger m).sqc = s.sqc := rfl
@[simp] theorem State.charger_mdu (s : State) (m : ChargerMode) : (s.charger m).mdu = s.mdu := rfl
@[simp] theorem State.charger_bcu (s : State) (m : ChargerMode) : (s.charger m).bcu = s.bcu.enterMode m := rfl
@[simp] theorem State.charger_lnk (s : State) (m : ChargerMode) : (s.charger m).lnk = s.lnk := rfl
@[simp] theorem State.charger_txq (s : State) (m : ChargerMode) : (s.charger m).txq = s.txq := rfl
@[simp] theorem State.charger_pvt (s : State) (m : ChargerMode) : (s.charger m).pvt = s.pvt := rfl
@[simp] theorem State.charger_tgt (s : State) (m : ChargerMode) : (s.charger m).tgt = s.tgt := rfl
@[simp] theorem State.charger_rsl (s : State) (m : ChargerMode) : (s.charger m).rsl = s.rsl := rfl
@[simp] theorem State.charger_stl (s : State) (m : ChargerMode) : (s.charger m).stl = s.stl := rfl
@[simp] theorem State.charger_rtm (s : State) (m : ChargerMode) : (s.charger m).rtm = s.rtm := rfl
@[simp] theorem State.charger_clock (s : State) (m : ChargerMode) : (s.charger m).clock = s.clock := rfl
@[simp] theorem State.charger_transit (s : State) (m : ChargerMode) : (s.charger m).transit = s.transit := rfl
@[simp] theorem State.charger_free (s : State) (m : ChargerMode) : (s.charger m).free = s.free := rfl
@[simp] theorem State.charger_pending (s : State) (m : ChargerMode) : (s.charger m).pending = s.pending := rfl

/-! ### State.demandOver -/

@[simp] theorem State.demandOver_sfe (s : State) : (s.demandOver).sfe = s.sfe := rfl
@[simp] theorem State.demandOver_peu (s : State) : (s.demandOver).peu = s.peu := rfl
@[simp] theorem State.demandOver_sqc (s : State) :
    (s.demandOver).sqc = { s.sqc with demandTimer := none } := rfl
@[simp] theorem State.demandOver_mdu (s : State) : (s.demandOver).mdu = s.mdu := rfl
@[simp] theorem State.demandOver_bcu (s : State) : (s.demandOver).bcu = s.bcu := rfl
@[simp] theorem State.demandOver_lnk (s : State) : (s.demandOver).lnk = s.lnk := rfl
@[simp] theorem State.demandOver_txq (s : State) : (s.demandOver).txq = s.txq := rfl
@[simp] theorem State.demandOver_pvt (s : State) : (s.demandOver).pvt = s.pvt := rfl
@[simp] theorem State.demandOver_tgt (s : State) : (s.demandOver).tgt = s.tgt := rfl
@[simp] theorem State.demandOver_rsl (s : State) : (s.demandOver).rsl = s.rsl := rfl
@[simp] theorem State.demandOver_stl (s : State) : (s.demandOver).stl = s.stl := rfl
@[simp] theorem State.demandOver_rtm (s : State) : (s.demandOver).rtm = s.rtm := rfl
@[simp] theorem State.demandOver_clock (s : State) : (s.demandOver).clock = s.clock := rfl
@[simp] theorem State.demandOver_transit (s : State) : (s.demandOver).transit = s.transit := rfl
@[simp] theorem State.demandOver_free (s : State) : (s.demandOver).free = s.free := rfl
@[simp] theorem State.demandOver_pending (s : State) : (s.demandOver).pending = s.pending := rfl

/-! ### State.dropReception -/

@[simp] theorem State.dropReception_sfe (s : State) : (s.dropReception).sfe = s.sfe := rfl
@[simp] theorem State.dropReception_peu (s : State) : (s.dropReception).peu = s.peu := rfl
@[simp] theorem State.dropReception_sqc (s : State) : (s.dropReception).sqc = s.sqc := rfl
@[simp] theorem State.dropReception_mdu (s : State) : (s.dropReception).mdu = s.mdu := rfl
@[simp] theorem State.dropReception_bcu (s : State) : (s.dropReception).bcu = s.bcu := rfl
@[simp] theorem State.dropReception_lnk (s : State) : (s.dropReception).lnk = s.lnk := rfl
@[simp] theorem State.dropReception_txq (s : State) : (s.dropReception).txq = s.txq := rfl
@[simp] theorem State.dropReception_pvt (s : State) : (s.dropReception).pvt = s.pvt := rfl
@[simp] theorem State.dropReception_tgt (s : State) : (s.dropReception).tgt = s.tgt := rfl
@[simp] theorem State.dropReception_rsl (s : State) : (s.dropReception).rsl = s.rsl := rfl
@[simp] theorem State.dropReception_stl (s : State) : (s.dropReception).stl = s.stl := rfl
@[simp] theorem State.dropReception_rtm (s : State) : (s.dropReception).rtm = s.rtm := rfl
@[simp] theorem State.dropReception_clock (s : State) : (s.dropReception).clock = s.clock := rfl
@[simp] theorem State.dropReception_transit (s : State) :
    (s.dropReception).transit = { s.transit with receptions := s.transit.receptions.drop 1 } := rfl
@[simp] theorem State.dropReception_free (s : State) : (s.dropReception).free = s.free := rfl
@[simp] theorem State.dropReception_pending (s : State) : (s.dropReception).pending = s.pending := rfl

/-! ### State.chargerReview -/

@[simp] theorem State.chargerReview_sfe (s : State) : (s.chargerReview).sfe = s.sfe := rfl
@[simp] theorem State.chargerReview_peu (s : State) : (s.chargerReview).peu = s.peu := rfl
@[simp] theorem State.chargerReview_sqc (s : State) : (s.chargerReview).sqc = s.sqc := rfl
@[simp] theorem State.chargerReview_mdu (s : State) :
    (s.chargerReview).mdu = s.mdu.assignCharger s.now (closeChargingAllowed s.bcu.cls s.closeDemand) := rfl
@[simp] theorem State.chargerReview_bcu (s : State) : (s.chargerReview).bcu = s.bcu := rfl
@[simp] theorem State.chargerReview_lnk (s : State) : (s.chargerReview).lnk = s.lnk := rfl
@[simp] theorem State.chargerReview_txq (s : State) : (s.chargerReview).txq = s.txq := rfl
@[simp] theorem State.chargerReview_pvt (s : State) : (s.chargerReview).pvt = s.pvt := rfl
@[simp] theorem State.chargerReview_tgt (s : State) : (s.chargerReview).tgt = s.tgt := rfl
@[simp] theorem State.chargerReview_rsl (s : State) : (s.chargerReview).rsl = s.rsl := rfl
@[simp] theorem State.chargerReview_stl (s : State) : (s.chargerReview).stl = s.stl := rfl
@[simp] theorem State.chargerReview_rtm (s : State) : (s.chargerReview).rtm = s.rtm := rfl
@[simp] theorem State.chargerReview_clock (s : State) : (s.chargerReview).clock = s.clock := rfl
@[simp] theorem State.chargerReview_transit (s : State) : (s.chargerReview).transit = s.transit := rfl
@[simp] theorem State.chargerReview_free (s : State) : (s.chargerReview).free = s.free := rfl
@[simp] theorem State.chargerReview_pending (s : State) : (s.chargerReview).pending = s.pending := rfl

/-! ### State.endHold -/

@[simp] theorem State.endHold_sfe (s : State) : (s.endHold).sfe = s.sfe := rfl
@[simp] theorem State.endHold_peu (s : State) : (s.endHold).peu = s.peu := rfl
@[simp] theorem State.endHold_sqc (s : State) : (s.endHold).sqc = s.sqc := rfl
@[simp] theorem State.endHold_mdu (s : State) : (s.endHold).mdu = s.mdu := rfl
@[simp] theorem State.endHold_bcu (s : State) : (s.endHold).bcu = s.bcu := rfl
@[simp] theorem State.endHold_lnk (s : State) : (s.endHold).lnk = { s.lnk with holdLimit := none } := rfl
@[simp] theorem State.endHold_txq (s : State) : (s.endHold).txq = s.txq := rfl
@[simp] theorem State.endHold_pvt (s : State) : (s.endHold).pvt = s.pvt := rfl
@[simp] theorem State.endHold_tgt (s : State) : (s.endHold).tgt = s.tgt := rfl
@[simp] theorem State.endHold_rsl (s : State) : (s.endHold).rsl = s.rsl := rfl
@[simp] theorem State.endHold_stl (s : State) : (s.endHold).stl = s.stl := rfl
@[simp] theorem State.endHold_rtm (s : State) : (s.endHold).rtm = s.rtm := rfl
@[simp] theorem State.endHold_clock (s : State) : (s.endHold).clock = s.clock := rfl
@[simp] theorem State.endHold_transit (s : State) : (s.endHold).transit = s.transit := rfl
@[simp] theorem State.endHold_free (s : State) : (s.endHold).free = s.free := rfl
@[simp] theorem State.endHold_pending (s : State) : (s.endHold).pending = s.pending := rfl

/-! ### State.linkOver -/

@[simp] theorem State.linkOver_sfe (s : State) : (s.linkOver).sfe = s.sfe := rfl
@[simp] theorem State.linkOver_peu (s : State) : (s.linkOver).peu = s.peu := rfl
@[simp] theorem State.linkOver_sqc (s : State) : (s.linkOver).sqc = s.sqc := rfl
@[simp] theorem State.linkOver_mdu (s : State) : (s.linkOver).mdu = s.mdu := rfl
@[simp] theorem State.linkOver_bcu (s : State) : (s.linkOver).bcu = s.bcu := rfl
@[simp] theorem State.linkOver_lnk (s : State) : (s.linkOver).lnk = { s.lnk with link := none } := rfl
@[simp] theorem State.linkOver_txq (s : State) : (s.linkOver).txq = s.txq := rfl
@[simp] theorem State.linkOver_pvt (s : State) : (s.linkOver).pvt = s.pvt := rfl
@[simp] theorem State.linkOver_tgt (s : State) : (s.linkOver).tgt = s.tgt := rfl
@[simp] theorem State.linkOver_rsl (s : State) : (s.linkOver).rsl = s.rsl := rfl
@[simp] theorem State.linkOver_stl (s : State) : (s.linkOver).stl = s.stl := rfl
@[simp] theorem State.linkOver_rtm (s : State) : (s.linkOver).rtm = s.rtm := rfl
@[simp] theorem State.linkOver_clock (s : State) : (s.linkOver).clock = s.clock := rfl
@[simp] theorem State.linkOver_transit (s : State) : (s.linkOver).transit = s.transit := rfl
@[simp] theorem State.linkOver_free (s : State) : (s.linkOver).free = s.free := rfl
@[simp] theorem State.linkOver_pending (s : State) : (s.linkOver).pending = s.pending := rfl

/-! ### State.chargeOver -/

@[simp] theorem State.chargeOver_sfe (s : State) (id : StoreId) : (s.chargeOver id).sfe = s.sfe := rfl
@[simp] theorem State.chargeOver_peu (s : State) (id : StoreId) : (s.chargeOver id).peu = s.peu := rfl
@[simp] theorem State.chargeOver_sqc (s : State) (id : StoreId) : (s.chargeOver id).sqc = s.sqc := rfl
@[simp] theorem State.chargeOver_mdu (s : State) (id : StoreId) :
    (s.chargeOver id).mdu = s.mdu.withStore id (·.overLimit s.now) := rfl
@[simp] theorem State.chargeOver_bcu (s : State) (id : StoreId) : (s.chargeOver id).bcu = s.bcu := rfl
@[simp] theorem State.chargeOver_lnk (s : State) (id : StoreId) : (s.chargeOver id).lnk = s.lnk := rfl
@[simp] theorem State.chargeOver_txq (s : State) (id : StoreId) : (s.chargeOver id).txq = s.txq := rfl
@[simp] theorem State.chargeOver_pvt (s : State) (id : StoreId) : (s.chargeOver id).pvt = s.pvt := rfl
@[simp] theorem State.chargeOver_tgt (s : State) (id : StoreId) : (s.chargeOver id).tgt = s.tgt := rfl
@[simp] theorem State.chargeOver_rsl (s : State) (id : StoreId) : (s.chargeOver id).rsl = s.rsl := rfl
@[simp] theorem State.chargeOver_stl (s : State) (id : StoreId) : (s.chargeOver id).stl = s.stl := rfl
@[simp] theorem State.chargeOver_rtm (s : State) (id : StoreId) : (s.chargeOver id).rtm = s.rtm := rfl
@[simp] theorem State.chargeOver_clock (s : State) (id : StoreId) : (s.chargeOver id).clock = s.clock := rfl
@[simp] theorem State.chargeOver_transit (s : State) (id : StoreId) :
    (s.chargeOver id).transit = s.transit := rfl
@[simp] theorem State.chargeOver_free (s : State) (id : StoreId) : (s.chargeOver id).free = s.free := rfl
@[simp] theorem State.chargeOver_pending (s : State) (id : StoreId) :
    (s.chargeOver id).pending = s.pending := rfl

/-! ### State.drawMean -/

@[simp] theorem State.drawMean_sfe (s : State) : (s.drawMean.2).sfe = s.sfe := rfl
@[simp] theorem State.drawMean_peu (s : State) : (s.drawMean.2).peu = s.peu := rfl
@[simp] theorem State.drawMean_sqc (s : State) : (s.drawMean.2).sqc = s.sqc := rfl
@[simp] theorem State.drawMean_mdu (s : State) : (s.drawMean.2).mdu = s.mdu := rfl
@[simp] theorem State.drawMean_bcu (s : State) : (s.drawMean.2).bcu = s.bcu := rfl
@[simp] theorem State.drawMean_lnk (s : State) : (s.drawMean.2).lnk = s.lnk := rfl
@[simp] theorem State.drawMean_txq (s : State) : (s.drawMean.2).txq = s.txq := rfl
@[simp] theorem State.drawMean_pvt (s : State) : (s.drawMean.2).pvt = s.pvt := rfl
@[simp] theorem State.drawMean_tgt (s : State) : (s.drawMean.2).tgt = s.tgt := rfl
@[simp] theorem State.drawMean_rsl (s : State) : (s.drawMean.2).rsl = s.rsl := rfl
@[simp] theorem State.drawMean_stl (s : State) : (s.drawMean.2).stl = s.stl := rfl
@[simp] theorem State.drawMean_rtm (s : State) : (s.drawMean.2).rtm = s.rtm := rfl
@[simp] theorem State.drawMean_clock (s : State) : (s.drawMean.2).clock = s.clock := rfl
@[simp] theorem State.drawMean_transit (s : State) : (s.drawMean.2).transit = s.transit := rfl
@[simp] theorem State.drawMean_free (s : State) : (s.drawMean.2).free = s.free + 1 := rfl
@[simp] theorem State.drawMean_pending (s : State) : (s.drawMean.2).pending = s.pending := rfl

/-! ### Readings that follow -/

@[simp] theorem State.report_now (s : State) (r : Report) : (s.report r).now = s.now := rfl
@[simp] theorem State.retain_now (s : State) (f : Retained → Retained) : (s.retain f).now = s.now := rfl
@[simp] theorem State.report_up (s : State) (r : Report) : (s.report r).up = s.up := rfl
@[simp] theorem State.retain_up (s : State) (f : Retained → Retained) : (s.retain f).up = s.up := rfl
@[simp] theorem State.startOver_pending (s : State) (k : Bool) : (s.startOver k).pending = s.pending := rfl
@[simp] theorem State.cleared_pending (s : State) : s.cleared.pending = s.pending := rfl
@[simp] theorem State.cleared_free (s : State) : s.cleared.free = s.free := rfl
@[simp] theorem State.cleared_rtm (s : State) : s.cleared.rtm = s.rtm := rfl
@[simp] theorem State.cleared_stl (s : State) : s.cleared.stl = s.stl := rfl

/-- A retained write leaves the check in agreement with the integrity word (R185). -/
@[simp] theorem Rtm.written_agrees (r : Retained) : (Rtm.written r).agrees = true := by
  simp [Rtm.agrees, Rtm.written]

/-- The agreement after a change of retained items. -/
@[simp] theorem State.retain_agrees (s : State) (f : Retained → Retained) :
    (s.retain f).rtm.agrees = true := Rtm.written_agrees _

end Sys2Proof.Machine
end

