-- ==== Sys2Proof/Laws/Ops.lean ====
section
/-! SUPPORT. What the shared operations can do: guards, hand-offs, free values, arithmetic, bytes. -/

namespace Sys2Proof.Machine

/-! ### Guards -/

/-- A guarded step answers exactly the step on a part that is up, and the state itself before BRING-UP. -/
theorem whenUp_next {f : State → State} {s t : State} :
    whenUp f s = .next t ↔ t = if s.up then f s else s := by
  unfold whenUp
  constructor
  · intro h; cases h; rfl
  · rintro rfl; rfl

theorem whenUp_of_up {f : State → State} {s : State} (h : s.up = true) : whenUp f s = .next (f s) := by
  simp [whenUp, h]

theorem ifRuns_of_some {t : State → Option Timer} {f : State → State} {s : State} (h : t s ≠ none) :
    ifRuns t f s = f s := by
  unfold ifRuns
  rw [if_pos (by rw [Option.isSome_iff_ne_none]; exact h)]

theorem ifRuns_of_none {t : State → Option Timer} {f : State → State} {s : State} (h : t s = none) :
    ifRuns t f s = s := by simp [ifRuns, h]

theorem whenDue_of_due {d : State → Bool} {f : State → State} {s : State} (h : d s = true) :
    whenDue d f s = f s := by simp [whenDue, h]

theorem whenDue_of_not {d : State → Bool} {f : State → State} {s : State} (h : d s = false) :
    whenDue d f s = s := by simp [whenDue, h]

/-! ### Hand-offs -/

/-- What the arrival of a hand-off takes away: one member that the test picks out, the others in order. -/
theorem takeReport_some {α : Type} {pick : Report → Option α} {l rest : List Report} {a : α}
    (h : takeReport pick l = some (a, rest)) :
    ∃ before after r, l = before ++ r :: after ∧ rest = before ++ after ∧ pick r = some a ∧
      ∀ x ∈ before, pick x = none := by
  induction l generalizing rest with
  | nil => simp [takeReport] at h
  | cons r rs ih =>
    unfold takeReport at h
    split at h
    · next b hb => cases h; exact ⟨[], rs, r, rfl, rfl, hb, by simp⟩
    · next hn =>
      split at h
      · next b rest' hr =>
        cases h
        obtain ⟨p, q, x, h1, h2, h3, h4⟩ := ih hr
        exact ⟨r :: p, q, x, by simp [h1], by simp [h2], h3, by simpa [hn] using h4⟩
      · cases h

/-- A hand-off in front that the test picks out is the one taken. -/
theorem takeReport_head {α : Type} {pick : Report → Option α} {r : Report} {rs : List Report} {a : α}
    (h : pick r = some a) : takeReport pick (r :: rs) = some (a, rs) := by simp [takeReport, h]

theorem onArrival_of_some {α : Type} {pick : Report → Option α} {f : α → State → State} {s : State} {a : α}
    {rest : List Report} (h : takeReport pick s.transit.reports = some (a, rest)) :
    onArrival pick f s = f a { s with transit := { s.transit with reports := rest } } := by
  simp [onArrival, h]

theorem onArrival_of_none {α : Type} {pick : Report → Option α} {f : α → State → State} {s : State}
    (h : takeReport pick s.transit.reports = none) : onArrival pick f s = s := by
  simp [onArrival, h]

/-- The row of an ACCEPTED frame that it takes. -/
theorem onFrame_of_pick {α : Type} {pick : Frame → Option α} {f : α → Uptime → State → State} {s : State}
    {r : EndedReception} {rest : List EndedReception} {m : Frame} {a : α}
    (hr : s.transit.receptions = r :: rest) (hm : s.classOf r = .accepted m) (ha : pick m = some a) :
    onFrame pick f s = f a r.arrival (s.dropReception.filterEffect r.arrival (.accepted m)) := by
  simp [onFrame, hr, hm, ha]

/-! ### Arithmetic and free values -/

theorem freeRms_le (n : Nat) : freeRms n ≤ 32768 := by
  unfold freeRms
  exact Nat.le_of_lt_succ (Nat.mod_lt _ (by decide))

theorem clamp_bounds {lo hi : Int} (h : lo ≤ hi) (v : Int) : lo ≤ clamp lo hi v ∧ clamp lo hi v ≤ hi := by
  unfold clamp; omega

theorem clamp_of_mem {lo hi v : Int} (h1 : lo ≤ v) (h2 : v ≤ hi) : clamp lo hi v = v := by
  unfold clamp; omega

theorem clampSample_bounds (v : Int) : -32768 ≤ clampSample v ∧ clampSample v ≤ 32767 :=
  clamp_bounds (by decide) v

theorem rise_le (held : Bool) (acc rate : Nat) : rise held acc rate ≤ if held then 65535 else 65536 :=
  Nat.min_le_left _ _

theorem fall_le (acc : Nat) (d : Option Nat) : fall acc d ≤ acc := by cases d <;> simp [fall]

theorem chargeAfter_le (qcap q : Nat) (mA : Int) : chargeAfter qcap q mA ≤ qcap := by
  unfold chargeAfter clamp; omega

/-- A timer that starts now has not run unless its length is 0. -/
theorem ageOf_self (u : Uptime) : ageOf u u = 0 := by simp [ageOf]

/-- An age is a count of ms below the wrap of the uptime (R184). -/
theorem ageOf_lt (a b : Uptime) : ageOf a b < 4294967296 := (a - b).isLt

/-! ### Bytes (R188) -/

@[simp] theorem length_be1 (n : Nat) : (be1 n).length = 1 := rfl
@[simp] theorem length_be2 (n : Nat) : (be2 n).length = 2 := rfl
@[simp] theorem length_be3 (n : Nat) : (be3 n).length = 3 := rfl
@[simp] theorem length_be4 (n : Nat) : (be4 n).length = 4 := rfl

/-- Two bytes, read back. -/
theorem nat2_be2 {n : Nat} (h : n < 65536) : nat2 (be2 n) 0 = n := by
  simp [nat2, nat1, be2]; omega

/-- Three bytes, read back. -/
theorem nat3_be3 {n : Nat} (h : n < 16777216) : nat3 (be3 n) 0 = n := by
  simp [nat3, nat2, nat1, be3, be2]; omega

@[simp] theorem length_tagRecordBytes (t : TagRecord) : (tagRecordBytes t).length = 3 := rfl

@[simp] theorem length_tagListBytes (ts : List TagRecord) : (tagListBytes ts).length = 1 + 3 * ts.length := by
  unfold tagListBytes
  rw [List.length_append, length_be1]
  congr 1
  induction ts with
  | nil => rfl
  | cons t ts ih => rw [List.flatMap_cons, List.length_append, ih, length_tagRecordBytes, List.length_cons]; omega

@[simp] theorem length_tripRecordBytes (r : TripRecord) : (tripRecordBytes r).length = 18 := rfl

/-- The CRC goes on byte by byte (R106). -/
theorem crc_append (a b : List Byte) : crc (a ++ b) = b.foldl crcByte (crc a) := by
  simp [crc, List.foldl_append]

/-! ### Codes (R192) -/

theorem seqStateOf_code (x : SeqState) : seqStateOf x.code = some x := by cases x <;> rfl
theorem causeOf_code (x : Cause) : causeOf x.code = some x := by cases x <;> rfl
theorem positionOf_code (x : Position) : positionOf x.code = some x := by cases x <;> rfl
theorem eventKindOf_code (x : EventKind) : eventKindOf x.code = some x := by cases x <;> rfl
theorem requestKindOf_code (x : RequestKind) : requestKindOf x.code = some x := by cases x <;> rfl
theorem roleOf_code (x : Role) : roleOf x.code = x := by cases x <;> rfl

/-! ### Either order -/

/-- What two askings of one event do: one of the two orders, with one more free value drawn. -/
theorem eitherOrder_cases (f g : State → State) (s : State) :
    eitherOrder f g s = g (f { s with free := s.free + 1 }) ∨
      eitherOrder f g s = f (g { s with free := s.free + 1 }) := by
  unfold eitherOrder
  by_cases h : Config.firstAsker s.free = true
  · exact .inl (by simp [h])
  · exact .inr (by simp [h])

/-- What both askings keep, the two together keep, in either order. -/
theorem eitherOrder_keeps (P : State → Prop) (f g : State → State) (s : State)
    (h : P { s with free := s.free + 1 }) (hf : ∀ u, P u → P (f u)) (hg : ∀ u, P u → P (g u)) :
    P (eitherOrder f g s) := by
  rcases eitherOrder_cases f g s with e | e <;> rw [e]
  · exact hg _ (hf _ h)
  · exact hf _ (hg _ h)

/-- An event that leaves no test in progress aborts none. -/
theorem withAbort_of_no_test (f : State → State) (s : State) (h : (f s).bcu.test = none) :
    withAbort f s = f s := by
  simp [withAbort, h]

/-- What an event that may abort a test does: its own effect alone, or that and the abort in one of the two
orders. -/
theorem withAbort_cases (f : State → State) (s : State) :
    withAbort f s = f s ∨ withAbort f s = f (State.abortTest { s with free := s.free + 1 }) ∨
      withAbort f s = State.abortTest (f { s with free := s.free + 1 }) := by
  unfold withAbort
  split
  · exact .inr (eitherOrder_cases _ _ _)
  · exact .inl rfl

end Sys2Proof.Machine
end

