-- ==== Sys2Proof/Laws/Queue.lean ====
section
/-! SUPPORT. What asking for a frame can do to the state: the transmit queue and the access of the LNK, and
nothing else.  One lemma for each operation through which a block reaches the queue. -/

namespace Sys2Proof.Machine

/-- `t` is `s` with at most the transmit queue and the access of the LNK changed. -/
def OnlyQueue (s t : State) : Prop :=
  ∃ (q : Txq) (a : Access) (o : Option Nat) (x : Option Timer),
    t = { s with txq := q, lnk := { s.lnk with access := a, selected := o, slot := x } }

theorem OnlyQueue.refl (s : State) : OnlyQueue s s := ⟨s.txq, s.lnk.access, s.lnk.selected, s.lnk.slot, rfl⟩

theorem OnlyQueue.trans {s t u : State} (h : OnlyQueue s t) (k : OnlyQueue t u) : OnlyQueue s u := by
  obtain ⟨_, _, _, _, rfl⟩ := h
  obtain ⟨q, a, o, x, rfl⟩ := k
  exact ⟨q, a, o, x, rfl⟩

/-- What stands across an asking, field by field. -/
theorem OnlyQueue.stands {s t : State} (h : OnlyQueue s t) :
    t.sfe = s.sfe ∧ t.peu = s.peu ∧ t.sqc = s.sqc ∧ t.mdu = s.mdu ∧ t.bcu = s.bcu ∧ t.pvt = s.pvt ∧
      t.tgt = s.tgt ∧ t.rsl = s.rsl ∧ t.stl = s.stl ∧ t.rtm = s.rtm ∧ t.clock = s.clock ∧
      t.transit = s.transit ∧ t.free = s.free ∧ t.pending = s.pending := by
  obtain ⟨_, _, _, _, rfl⟩ := h
  simp

/-! ### The LNK's part (R114, R120) -/

theorem State.search_onlyQueue (s : State) : OnlyQueue s s.search := by
  unfold State.search
  split
  · split
    · exact ⟨_, _, _, _, rfl⟩
    · exact .refl s
  · exact .refl s

theorem State.returnSelected_onlyQueue (s : State) : OnlyQueue s s.returnSelected :=
  OnlyQueue.trans (t := { s with lnk := s.lnk.released }) ⟨_, _, _, _, rfl⟩ (State.search_onlyQueue _)

theorem State.dropEntry_onlyQueue (s : State) (n : Nat) : OnlyQueue s (s.dropEntry n) := by
  have h : OnlyQueue s { s with txq := s.txq.remove n } := ⟨_, _, _, _, rfl⟩
  unfold State.dropEntry
  split
  · exact h.trans (State.returnSelected_onlyQueue _)
  · exact h.trans (State.search_onlyQueue _)

theorem State.afterJoin_onlyQueue (s : State) (p : Nat) : OnlyQueue s (s.afterJoin p) := by
  unfold State.afterJoin
  split
  · split
    · exact State.returnSelected_onlyQueue s
    · exact State.search_onlyQueue s
  · exact State.search_onlyQueue s

/-! ### Joining and demands (R124 to R127) -/

theorem State.join_onlyQueue (s : State) (c : Content) : OnlyQueue s (s.join c) := by
  unfold State.join
  exact OnlyQueue.trans ⟨_, s.lnk.access, s.lnk.selected, s.lnk.slot, rfl⟩ (State.afterJoin_onlyQueue _ _)

theorem State.joinStatus_onlyQueue (s : State) (r : Reasons) : OnlyQueue s (s.joinStatus r) := by
  unfold State.joinStatus
  split
  · exact State.join_onlyQueue s _
  · split
    · exact (State.dropEntry_onlyQueue s _).trans (State.join_onlyQueue _ _)
    · exact .refl s

theorem State.statusDemand_onlyQueue (s : State) (r : Reason) : OnlyQueue s (s.statusDemand r) := by
  unfold State.statusDemand
  split
  · exact State.joinStatus_onlyQueue s _
  · split <;> exact ⟨_, s.lnk.access, s.lnk.selected, s.lnk.slot, rfl⟩

theorem State.joinFrame_onlyQueue (s : State) (c : Content) : OnlyQueue s (s.joinFrame c) := by
  unfold State.joinFrame
  split
  · exact State.join_onlyQueue s c
  · split
    · exact ((State.dropEntry_onlyQueue s _).trans (State.join_onlyQueue _ _)).trans
        (State.statusDemand_onlyQueue _ _)
    · exact State.statusDemand_onlyQueue s _

/-! ### What the blocks ask for (R129) -/

theorem State.askSeqEvent_onlyQueue (s : State) (k : EventKind) : OnlyQueue s (s.askSeqEvent k) :=
  (State.joinFrame_onlyQueue s _).trans (State.statusDemand_onlyQueue _ _)

theorem State.askTagNotice_onlyQueue (s : State) : OnlyQueue s s.askTagNotice :=
  (State.joinFrame_onlyQueue s _).trans (State.statusDemand_onlyQueue _ _)

theorem State.askResult_onlyQueue (s : State) (n : Nat) (k : RequestKind) (o : RequestOutcome) :
    OnlyQueue s (s.askResult n k o) := State.joinFrame_onlyQueue s _

theorem State.askPickup_onlyQueue (s : State) (e : ElementSet) : OnlyQueue s (s.askPickup e) :=
  State.joinFrame_onlyQueue s _

theorem State.askBattery_onlyQueue (s : State) : OnlyQueue s s.askBattery := by
  unfold State.askBattery
  split
  · exact State.joinFrame_onlyQueue s _
  · split <;> exact ⟨_, s.lnk.access, s.lnk.selected, s.lnk.slot, rfl⟩

/-! ### The list (R124, R125) -/

/-- A join puts exactly the new entry into the list. -/
theorem mem_insertEntry (e x : Entry) (l : List Entry) : x ∈ insertEntry e l ↔ x = e ∨ x ∈ l := by
  induction l with
  | nil => simp [insertEntry]
  | cons y ys ih =>
    unfold insertEntry
    split
    · simp only [List.mem_cons, ih]; tauto
    · simp only [List.mem_cons]

@[simp] theorem length_insertEntry (e : Entry) (l : List Entry) :
    (insertEntry e l).length = l.length + 1 := by
  induction l with
  | nil => rfl
  | cons y ys ih => unfold insertEntry; split <;> simp [ih]

theorem lessUrgent_eq (a b : Entry) : lessUrgent a b = a ∨ lessUrgent a b = b := by
  unfold lessUrgent; split <;> simp

/-- A fold that picks the less urgent of two entries answers one of them. -/
theorem foldl_lessUrgent_mem (l : List Entry) (e : Entry) : l.foldl lessUrgent e ∈ e :: l := by
  induction l generalizing e with
  | nil => simp
  | cons y ys ih =>
    rcases lessUrgent_eq e y with h | h <;> simp only [List.foldl_cons, h]
    · have := ih e; simp only [List.mem_cons] at this ⊢; tauto
    · have := ih y; simp only [List.mem_cons] at this ⊢; tauto

/-- The entry that overflow looks at is one of the list, and not in flight (R125). -/
theorem Txq.victim_mem {q : Txq} {v : Entry} (h : q.victim = some v) :
    v ∈ q.entries ∧ v.inFlight = false := by
  unfold Txq.victim at h
  split at h
  · cases h
  · next e es he =>
    have hm : v ∈ q.entries.filter fun e => !e.inFlight := by
      rw [he]; cases h; exact foldl_lessUrgent_mem es e
    simpa using hm

@[simp] theorem Txq.change_entries (q : Txq) (n : Nat) (f : Entry → Entry) :
    (q.change n f).entries = q.entries.map fun e => if e.order = n then f e else e := rfl

@[simp] theorem Txq.remove_entries (q : Txq) (n : Nat) :
    (q.remove n).entries = q.entries.filter fun e => e.order ≠ n := rfl

@[simp] theorem Txq.change_nextOrder (q : Txq) (n : Nat) (f : Entry → Entry) :
    (q.change n f).nextOrder = q.nextOrder := rfl

@[simp] theorem Txq.remove_nextOrder (q : Txq) (n : Nat) : (q.remove n).nextOrder = q.nextOrder := rfl

/-- The entry of a join order is in the list and bears it. -/
theorem Txq.entry_mem {q : Txq} {n : Nat} {e : Entry} (h : q.entry n = some e) :
    e ∈ q.entries ∧ e.order = n := by
  refine ⟨List.mem_of_find?_eq_some h, ?_⟩
  simpa using List.find?_some h

/-- The selected entry is in the list. -/
theorem State.selectedEntry_mem {s : State} {e : Entry} (h : s.selectedEntry = some e) :
    e ∈ s.txq.entries ∧ s.lnk.selected = some e.order := by
  unfold State.selectedEntry at h
  split at h
  · next o ho => obtain ⟨h1, rfl⟩ := Txq.entry_mem h; exact ⟨h1, ho⟩
  · cases h

end Sys2Proof.Machine
end

