-- ==== Sys2Proof/Laws/Settle.lean ====
section
/-! SUPPORT. What the operations of the sequence, the mechanism and the end of an event leave alone. -/

namespace Sys2Proof.Machine

/-! ### The sequence (R20, R40, R41) -/

/-- Entering a state changes the SQC and, where the state does not keep it, the element state (R20). -/
theorem State.enter_frame (s : State) (st : SeqState) (c : Option Cause) :
    ∃ p, s.enter st c = { s with
      sqc := { s.sqc with
        state := some st, cause := c,
        demandTimer := if st = SeqState.lockout then s.sqc.demandTimer else none },
      peu := p } ∧ p = if st.keepsElements then s.peu else Peu.start := by
  refine ⟨_, ?_, rfl⟩
  unfold State.enter State.handState
  cases st <;> rfl

/-- An entry to LOCKOUT changes the SQC, the element state and what its SEQ_EVENT asks for. -/
theorem State.toLockout_frame (s : State) (c : Cause) :
    ∃ q, OnlyQueue { s with sqc := q, peu := Peu.start } (s.toLockout c) ∧ q.state = some .lockout ∧
      q.cause = some c ∧ q.shot = s.sqc.shot := by
  refine ⟨_, State.askSeqEvent_onlyQueue _ _, ?_⟩
  exact ⟨rfl, rfl, rfl⟩

/-- A trip operation asked of the MDU changes the SQC and the MDU. -/
theorem State.askTrip_frame (s : State) (c : OpCause) (e : ElementSet) (r : Ch4 Nat) :
    ∃ q m, s.askTrip c e r = { s with sqc := q, mdu := m } ∧ q.state = s.sqc.state := ⟨_, _, rfl, rfl⟩

/-- A trip taken changes the SQC and the MDU alone. -/
theorem State.trip_frame (s : State) (c : OpCause) (e : ElementSet) (r : Ch4 Nat) :
    ∃ q m, s.trip c e r = { s with sqc := q, mdu := m } ∧ q.state = some .tripping ∧
      q.opCause = some c ∧ q.shot = s.sqc.shot := ⟨_, _, rfl, rfl, rfl, rfl⟩

/-- The rms of a trip that no element asked for: they may draw free values, and change nothing else. -/
theorem State.latestRms_frame (s : State) : ∃ n, s.latestRms.2 = { s with free := n } := by
  unfold State.latestRms
  split
  · exact ⟨s.free, rfl⟩
  · exact ⟨_, rfl⟩

theorem State.tripUnasked_frame (s : State) (c : OpCause) :
    ∃ q m n, s.tripUnasked c = { s with sqc := q, mdu := m, free := n } ∧ q.state = some .tripping ∧
      q.opCause = some c ∧ q.shot = s.sqc.shot := by
  obtain ⟨n, h⟩ := State.latestRms_frame s
  unfold State.tripUnasked
  rw [h]
  exact ⟨_, _, n, rfl, rfl, rfl, rfl⟩

/-- A close asked of the MDU begins there or puts a CLOSE_FAIL on its way. -/
theorem State.askClose_frame (s : State) : ∃ m r, s.askClose = { s with mdu := m, transit := r } := by
  unfold State.askClose
  split
  · exact ⟨_, s.transit, rfl⟩
  · exact ⟨s.mdu, _, rfl⟩

theorem State.beginClose_frame (s : State) (src : CloseSource) :
    ∃ q m r, s.beginClose src = { s with sqc := q, mdu := m, transit := r } ∧ q.state = some .closing ∧
      q.closeSource = some src ∧ q.shot = s.sqc.shot := by
  unfold State.beginClose
  have e : ∀ x : State, x.enter .closing none =
      { x with sqc := { x.sqc with state := some .closing, cause := none, demandTimer := none } } :=
    fun _ => rfl
  rw [e]
  obtain ⟨m, r, h⟩ := State.askClose_frame
    { s with
      sqc := { { s.sqc.stopTimers with closeSource := some src } with
        state := some .closing, cause := none, demandTimer := none } }
  exact ⟨_, m, r, h, rfl, rfl, rfl⟩

/-! ### The restoration logic -/

theorem State.restoreOpen_frame (s : State) :
    ∃ q m n, s.restoreOpen.1 = { s with sqc := q, mdu := m, free := n } := by
  unfold State.restoreOpen
  split
  · obtain ⟨q, m, n, h, -⟩ := State.tripUnasked_frame s .restoreOpen
    exact ⟨q, m, n, h⟩
  · exact ⟨s.sqc, s.mdu, s.free, rfl⟩

theorem State.restoreClose_frame (s : State) :
    ∃ q m r, s.restoreClose.1 = { s with sqc := q, mdu := m, transit := r } := by
  unfold State.restoreClose
  split
  · exact ⟨s.sqc, s.mdu, s.transit, rfl⟩
  · split
    · obtain ⟨q, m, r, h, -⟩ := State.beginClose_frame s .restore
      exact ⟨q, m, r, h⟩
    · exact ⟨s.sqc, s.mdu, s.transit, rfl⟩

/-- A check of a midpoint changes the RSL and what a trip of RESTORE_OPEN changes. -/
theorem State.midpointCheck_frame (s : State) :
    ∃ q m l n, s.midpointCheck = { s with sqc := q, mdu := m, rsl := l, free := n } := by
  unfold State.midpointCheck
  split
  · obtain ⟨q, m, n, h⟩ := State.restoreOpen_frame s
    split
    · next t e => rw [e] at h; subst h; exact ⟨q, m, _, n, rfl⟩
    · next t o _ e => rw [e] at h; subst h; exact ⟨q, m, s.rsl, n, rfl⟩
  · exact ⟨s.sqc, s.mdu, s.rsl, s.free, rfl⟩

/-- The RSL's entry to TIMING changes the RSL and what its check changes. -/
theorem State.midpointEnter_frame (s : State) :
    ∃ q m l n, s.midpointEnter = { s with sqc := q, mdu := m, rsl := l, free := n } := by
  unfold State.midpointEnter
  simp only
  split
  · obtain ⟨q, m, l, n, h⟩ := State.midpointCheck_frame
      { s with rsl := { s.rsl with state := .timing none, timer := none, expired := true } }
    exact ⟨q, m, l, n, h⟩
  · exact ⟨s.sqc, s.mdu, _, s.free, rfl⟩

theorem State.rslExits_frame (s : State) : ∃ l, s.rslExits = { s with rsl := l } := by
  unfold State.rslExits
  split <;> first
    | (split <;> exact ⟨_, rfl⟩)
    | exact ⟨s.rsl, rfl⟩

theorem State.rslEntry_frame (s : State) :
    ∃ q m l n, s.rslEntry = { s with sqc := q, mdu := m, rsl := l, free := n } := by
  unfold State.rslEntry
  split
  · split
    · exact State.midpointEnter_frame s
    · exact ⟨s.sqc, s.mdu, s.rsl, s.free, rfl⟩
  · split
    · split
      · exact ⟨s.sqc, s.mdu, _, s.free, rfl⟩
      · exact ⟨s.sqc, s.mdu, s.rsl, s.free, rfl⟩
    · exact ⟨s.sqc, s.mdu, s.rsl, s.free, rfl⟩
  · exact ⟨s.sqc, s.mdu, s.rsl, s.free, rfl⟩

/-- The RSL's look at the end of an event. -/
theorem State.rslReview_frame (s : State) (b : RslInputs) (x : Bool) :
    ∃ q m l n, s.rslReview b x = { s with sqc := q, mdu := m, rsl := l, free := n } := by
  unfold State.rslReview
  obtain ⟨l, h⟩ := State.rslExits_frame { s with rsl := { s.rsl with inhibit := s.formInhibit } }
  simp only [h]
  split
  · split
    · obtain ⟨q, m, l', n, k⟩ := State.rslEntry_frame { s with rsl := l }
      exact ⟨q, m, l', n, k⟩
    · exact ⟨s.sqc, s.mdu, l, s.free, rfl⟩
  · split
    · obtain ⟨q, m, l', n, k⟩ := State.rslEntry_frame (State.stopWait { s with rsl := l })
      exact ⟨q, m, l', n, k⟩
    · exact ⟨s.sqc, s.mdu, _, s.free, rfl⟩

/-! ### The battery test, the charger, the listen enable -/

theorem State.abortTest_frame (s : State) : ∃ b, OnlyQueue { s with bcu := b } s.abortTest :=
  ⟨_, State.askBattery_onlyQueue _⟩

theorem State.abortReview_frame (s : State) : ∃ b, OnlyQueue { s with bcu := b } s.abortReview := by
  unfold State.abortReview
  split
  · exact State.abortTest_frame s
  · exact ⟨s.bcu, OnlyQueue.refl s⟩

theorem State.endReception_frame (s : State) :
    ∃ r h t, s.endReception = { s with lnk := { s.lnk with reception := r, holdLimit := h }, transit := t } := by
  unfold State.endReception
  split
  · exact ⟨_, _, _, rfl⟩
  · exact ⟨s.lnk.reception, s.lnk.holdLimit, s.transit, rfl⟩

theorem State.listenReview_frame (s : State) :
    ∃ r h t, s.listenReview = { s with lnk := { s.lnk with reception := r, holdLimit := h }, transit := t } := by
  unfold State.listenReview
  split
  · exact ⟨s.lnk.reception, s.lnk.holdLimit, s.transit, rfl⟩
  · exact State.endReception_frame s

theorem State.listenReview_of_none {s : State} (h : s.lnk.reception = none) : s.listenReview = s := by
  unfold State.listenReview State.endReception
  rw [h]
  simp

/-! ### The end of an event -/

/-- What settles after an event: the SQC, the MDU, the BCU, the LNK, the TXQ, the RSL, the hand-offs in
transit and the draw counter may change; every other part of the state stands. -/
theorem State.settle_frame (s : State) (b : RslInputs) (x : Bool) :
    ∃ q m l n c k u tr, s.settle b x =
      { s with sqc := q, mdu := m, rsl := l, free := n, bcu := c, lnk := k, txq := u, transit := tr } := by
  unfold State.settle
  obtain ⟨q, m, l, n, h1⟩ := State.rslReview_frame s b x
  obtain ⟨c, h2⟩ := State.abortReview_frame (s.rslReview b x)
  obtain ⟨u, a, o, y, h2⟩ := h2
  rw [h2, h1]
  obtain ⟨r, hl, tr, h3⟩ := State.listenReview_frame (State.chargerReview
    { s with
      sqc := q, mdu := m, rsl := l, free := n, bcu := c, txq := u,
      lnk := { s.lnk with access := a, selected := o, slot := y } })
  exact ⟨q, _, l, n, c, _, u, tr, h3⟩

/-- The fields that the end of an event never changes. -/
theorem State.settle_stands (s : State) (b : RslInputs) (x : Bool) :
    (s.settle b x).sfe = s.sfe ∧ (s.settle b x).peu = s.peu ∧ (s.settle b x).pvt = s.pvt ∧
      (s.settle b x).tgt = s.tgt ∧ (s.settle b x).stl = s.stl ∧ (s.settle b x).rtm = s.rtm ∧
      (s.settle b x).clock = s.clock ∧ (s.settle b x).pending = s.pending := by
  obtain ⟨_, _, _, _, _, _, _, _, h⟩ := State.settle_frame s b x
  rw [h]
  simp

/-- What settles after an event keeps the link but for its access and its reception. -/
theorem State.settle_lnk (s : State) (b : RslInputs) (x : Bool) :
    ∃ a o y r h, (s.settle b x).lnk =
      { s.lnk with access := a, selected := o, slot := y, reception := r, holdLimit := h } := by
  unfold State.settle
  obtain ⟨q, m, l, n, h1⟩ := State.rslReview_frame s b x
  obtain ⟨c, h2⟩ := State.abortReview_frame (s.rslReview b x)
  obtain ⟨u, a, o, y, h2⟩ := h2
  rw [h2, h1]
  obtain ⟨r, hl, tr, h3⟩ := State.listenReview_frame (State.chargerReview
    { s with
      sqc := q, mdu := m, rsl := l, free := n, bcu := c, txq := u,
      lnk := { s.lnk with access := a, selected := o, slot := y } })
  exact ⟨a, o, y, r, hl, by rw [h3]; rfl⟩

/-! ### The position fault and the tag answer (R64, R163) -/

@[simp] theorem Mdu.publish_position (m : Mdu) (p : Position) : (m.publish p).position = some p := rfl
@[simp] theorem Mdu.publish_faultReported (m : Mdu) (p : Position) : (m.publish p).faultReported = false := rfl
@[simp] theorem Mdu.publish_op (m : Mdu) (p : Position) : (m.publish p).op = m.op := rfl

/-- The position-fault timer's expiry stops the timer, marks the stay, and reports an unmarked one. -/
theorem State.faultTimerOver_eq (s : State) :
    s.faultTimerOver = { s with
      mdu := { s.mdu with faultTimer := none, faultReported := true },
      transit := { s.transit with
        reports := s.transit.reports ++ if s.mdu.faultReported then [] else [Report.positionFault] } } := by
  unfold State.faultTimerOver
  split <;> simp_all [State.report]

/-- The TGT answers CLEAR exactly without a tag of its own and without a peer that tags the segment. -/
theorem State.tagAnswer_eq_clear (s : State) (g : Nat) :
    s.tagAnswer g = .clear ↔ s.tagHold = false ∧ (g ≠ 0 → s.taggingPeers g = []) := by
  unfold State.tagAnswer State.askedTags
  by_cases h : g = 0 <;> cases s.tagHold <;> simp [h]

end Sys2Proof.Machine
end

