-- ==== Sys2Proof/WellFormed.lean ====
section
/-! DEFINITION. Well-formed commands.

Every operand of a command has a type that holds exactly the values the manual allows it: a level is
a `Bool`, a byte of the line a `Byte`, a settings word a `Word16`, a store one of two names.  No
operand can be ill-formed, so there is no check to make and every command is well formed. -/

namespace Sys2Proof

/-- A command is well formed when each operand lies in its range; the operand types leave nothing to check. -/
def Instr.wellFormed (_ : Instr) : Bool := true

end Sys2Proof
end

