-- ==== Sys2Proof/Tests/Slice0.lean ====
section
/-! SUPPORT. The model's own tests.

First the numbers that the manual works out (its check values, worked cases and tables), then one state or
a few for each statement whose premises could be empty, so that every clause is met somewhere. -/

namespace Sys2Proof.Tests

-- The tests are checked one after another: side by side they need more threads than the sandbox grants.
set_option Elab.async false

open Sys2Proof.Machine Sys2Proof.Safety Sys2Proof.Claims

/-! ### Numbers of the manual -/

/-- Every command is well formed: the operand types hold exactly the manual's values, so there is no
ill-formed term to refuse. -/
theorem test_no_ill_formed_command (c : Instr) : c.wellFormed = true := rfl

/-- The table gives no row any bits: no word spells a command. -/
theorem test_no_word_spells (n w : Nat) (s : State) :
    decodeTableWord n w = none ∧ s.withFetchWord n w = s := ⟨rfl, rfl⟩

/-- 1.10: y of sample 4 is 16,777,216, and s is 32,768, clipped and clamped to 32,767. -/
theorem test_filter_full_scale : scale 16777216 = 32768 ∧ fullScale (scale 16777216) = true ∧
    clampSample (scale 16777216) = 32767 ∧ scale 2829056 = 5526 ∧ scale 8388608 = 16384 := by decide

/-- 1.10: the combs at samples 1 to 3, from the values of I3. -/
theorem test_combs :
    let c1 : Cic := ⟨0, 0, 2829056, 0, 0, 0⟩
    let c2 : Cic := { c1.comb with i3 := 22500864 }
    let c3 : Cic := { c2.comb with i3 := 75792640 }
    c1.output = 2829056 ∧ c2.output = 14013696 ∧ c3.output = 16777216 := by decide

/-- 1.11: the DC estimate at the first three used samples of 1,000 with A_I = 3. -/
theorem test_dc_removal :
    (⟨0, 0, 0, false⟩ : AcChannel).estimate 3 1000 = 8000 ∧
      (⟨8000, 0, 0, false⟩ : AcChannel).estimate 3 1000 = 15999 ∧
      (⟨15999, 0, 0, false⟩ : AcChannel).estimate 3 1000 = 23997 ∧
      (⟨15999, 0, 0, false⟩ : AcChannel).filtered 3 1000 = 1000 := by decide

/-- 1.12: the rms of updates 1 and 2, and of a full-scale channel at 50 Hz. -/
theorem test_rms : (⟨0, 0, 20000000, false⟩ : AcChannel).rms 40 = 707 ∧
    (⟨0, 20000000, 20000000, false⟩ : AcChannel).rms 40 = 1000 ∧
    (⟨0, 25768230936, 25768230936, false⟩ : AcChannel).rms 48 = 32767 := by decide +kernel

/-- 1.13: updates 7 to 11 of the deciding of LIVE and DEAD. -/
theorem test_presence :
    let p : Presence := ⟨.unknown, 2, 0, 0, false⟩
    let q := p.update false 81 2000 600 2200 false
    q = ⟨.live, 3, 0, 81, false⟩ ∧
      ((q.update false 91 2000 600 400 false).update false 101 2000 600 300 false).update false 111
        2000 600 0 false = ⟨.dead, 0, 3, 111, false⟩ := by decide

/-- 1.14: 14,000 mV and −1,001 mA. -/
theorem test_means : converted 30720000 4480 = 14000 ∧ converted (-491999) 20000 = -1001 := by decide

/-- 2.11: the derived rates, the multiple 60, and the rate at Mq 60. -/
theorem test_rates : ceilDiv 65536 240 = 274 ∧ ceilDiv 65536 60 = 1093 ∧ resetOf 200 = some 328 ∧
    multiple 1500 400 = 60 ∧ rateAt [274, 274, 274, 1093, 2000, 3000, 4000, 5000, 6000] 60 = 1093 ∧
    rise false 64487 1093 = 65536 ∧ fall 33338 (some 328) = 33010 := by decide

/-- 2.11: 390 counts stay picked up at a pickup of 400, 370 drop out. -/
theorem test_dropout_band : tocFlag true 390 400 = true ∧ tocFlag false 390 400 = false ∧
    tocFlag true 370 400 = false := by decide

/-- 2.12: under a hold the sum 65,813 is capped at 65,535. -/
theorem test_hold_cap : rise true 63082 2731 = 65535 ∧ fall 65535 (some 3277) = 62258 := by decide

/-- 5.9: R = 50 mΩ, PASS, RESISTANCE 175, SoC 99. -/
theorem test_battery_result : judge 80 11600 13620 13210 8200 = ⟨.pass, 13620, 13210, 8200, some 50⟩ ∧
    resistanceValue 40 50 = 175 ∧ stateOfCharge 360000000 358400000 false = 99 ∧
    chargeAfter 360000000 358400000 (-4950) = 358395050 := by decide

/-- R106: the CRC over the digits 1 to 9. -/
theorem test_crc_check_value :
    crc [0x31, 0x32, 0x33, 0x34, 0x35, 0x36, 0x37, 0x38, 0x39] = 0x29B1#16 := by decide +kernel

/-- 6.7: the seed of station 4, its first two draws, and their widths. -/
theorem test_random_draws : rngSeed 0x3A7C#16 (some 4) = 0x7A7C#16 ∧ rngNext 0x7A7C#16 = 0x3D3E#16 ∧
    rngNext 0x3D3E#16 = 0x1E9F#16 ∧ backoffWidth 2 0 = 2 ∧ backoffWidth 0 1 = 1 := by decide

/-- R103: a 64-byte frame takes 66.67 ms, 67 whole ms. -/
theorem test_send_time : sendMs 64 = 67 ∧ sendMs 24 = 25 := by decide

/-- R87: a poor battery counts half its capacity, and SoC stops at 100. -/
theorem test_poor_battery : stateOfCharge 72000000 36000000 false = 50 ∧
    stateOfCharge 72000000 36000000 true = 100 := by decide

/-- R179: an absent memory fails the CHECKSUM check. -/
theorem test_absent_memory :
    checkBlock (List.replicate 96 0xFFFF#16) = some ⟨95, .checksum⟩ := by decide +kernel

/-! ### A station at rest -/

/-- Settings within the ranges of chapter 12: 50 Hz, L = 3, the default priority map. -/
def settings : Settings :=
  { groupCode := 0x1234, stationId := some 3, lineHz := 50, role := .none, sUp := 2, sDn := 3, aI := 3,
    aV := 3, vLive := 2000, vDead := 600, vbGain := 4480, ibGain := 20000, pPu := 400, gPu := 200,
    pInst := 4000, gInst := 2000, fast := List.replicate 9 20, delayed := List.replicate 9 120,
    tResetP := 120, tResetG := 0, l := 3, fastShots := 1, instMask := 1, holdTime := 10, qQuiet := 60,
    seqCoord := true, dt1 := 50, dt2 := 1500, dt3 := 3000, tReclaim := 30, tEwait := 10, tSlow := 60,
    tSlowClose := 90, wearLimit := 1000, capacityAh := 20, iBulk := 2000, vAbs := 14400, iTail := 200,
    vFloat := 13600, vEcon := 12200, vProt := 11800, vCut := 10800, testInterval := 30, rMax := 150,
    vTestMin := 11500, rRef := 50, thresholds := ⟨100, 100, 100, 100⟩, priorityMap := 0x0E50,
    statusPeriod := 60, silenceLimit := 300, tMid := 60, tTie := 120, fallbackVoltage := false }

/-- An update record with every rms at 500 counts. -/
def record : UpdateRecord :=
  ⟨99990, false, Ch6.all 500, Ch6.all false, .live, .live⟩

/-- A store READY. -/
def readyStore : Store := ⟨.ready, some true, false, none, none⟩

/-- A station without a role, up for 100 s: CLOSED, both stores READY, both sides LIVE, in FLOAT and NORMAL,
the radio ACTIVE, no tag, nothing queued. -/
def rest : State :=
  { sfe := { Sfe.start with
      discard := 0, warming := 0, vs := ⟨.live, 3, 0, 81, false⟩, vl := ⟨.live, 3, 0, 81, false⟩,
      latest := some record },
    peu := Peu.start,
    sqc := { Sqc.start with state := some .closed, nonreclose := false, nonrecloseRead := true },
    mdu := { Mdu.start with
      openC := some false, closedC := some true, position := some .closed, lastEnd := some .closed,
      handleDown := false, handleRead := true, trip := readyStore, close := readyStore },
    bcu := { Bcu.start with
      supplyOk := true, supplyRead := true, mode := .float, duty := 37, floatSeconds := 18000,
      soc := some 83, cls := some .normal, latestMean := some ⟨13620, 120, 99500⟩ },
    lnk := { Lnk.start with power := .active, rng := 0x7A7C, link := some ⟨90000, 300000⟩ },
    txq := { Txq.start with nextOrder := 7 }, pvt := [], tgt := ⟨false, true, none⟩,
    rsl := Rsl.start, stl := ⟨.up, settings, tablesOf settings 0x3A7C, none⟩,
    rtm := Rtm.written { Retained.cold 72000000 with tagUnknown := false, q := 60000000, qUncertain := false },
    clock := ⟨100000, 100, 99700⟩, transit := ⟨[], []⟩, free := 0, pending := [] }

/-- The state after a command. -/
def after (c : Instr) (s : State) : State :=
  match exec c s with
  | .next t => t
  | .fault _ => s
  | .refused _ => s

/-- A station at rest in another sequence state, with the inhibit reason of that state. -/
def restIn (st : SeqState) (c : Option Cause) : State :=
  { rest with
    sqc := { rest.sqc with state := some st, cause := c },
    rsl := { rest.rsl with inhibit := if st = .stuck then some .stuck else none } }

/-- A hand-off on its way to the SQC of a station in a sequence state. -/
def handing (st : SeqState) (r : Report) : State :=
  { restIn st none with transit := ⟨[r], []⟩ }

/-- An ended reception of the bytes of a frame. -/
def ended (b : List Byte) : EndedReception := ⟨b, b.length, 99950⟩

/-- A station at rest with an ended reception. -/
def hearing (b : List Byte) : State := { rest with transit := ⟨[], [ended b]⟩ }

/-- The frame of a CREW_REQUEST of crew 77 to station 3. -/
def request (crew : Nat) (k : RequestKind) : List Byte :=
  frameBytes 0x10 0x1234 128 (be2 crew ++ be1 k.code ++ be1 3 ++ be1 0)

/-- The request in such a frame. -/
def asked (crew : Nat) (k : RequestKind) : CrewRequest := ⟨crew, k, .station 3, .hold⟩

/-- The frame of a STATUS of station 6, composed by a station like this one. -/
def peerStatus : List Byte := frameBytes 0x01 0x1234 6 (rest.statusBody Reasons.empty)

/-- A peer heard 50 ms ago. -/
def peer (id : Nat) : PeerEntry :=
  { PeerEntry.blank id 99950 with
    segments := some ⟨9, 10⟩, role := some .none, tags := some ⟨[], false⟩ }

/-- An entry of the transmit queue. -/
def entry (c : Content) (priority order : Nat) : Entry := ⟨c, priority, order, 99000, 0, false, false⟩

/-- A REQUEST_RESULT to send. -/
def resultContent : Content := .result ⟨77, .trip, .accepted⟩

/-- A station with one entry selected, in an access state. -/
def sendingState (a : Access) (e : Entry) : State :=
  { rest with
    txq := { rest.txq with entries := [e] },
    lnk := { rest.lnk with access := a, selected := some e.order } }

/-! ### States that meet the premises of the statements -/

/-- A station with work in hand: two frames queued, a tag, two peers, an accumulator at its cap under a hold. -/
def busy : State :=
  { rest with
    txq := { rest.txq with
      entries := [entry (.pickup ⟨⟨Ch4.all true, Ch4.all false⟩, 0, 60, 2, 3⟩) 0 5, entry resultContent 1 3] },
    rtm := Rtm.written { rest.rtm.items with tags := [⟨77, .hold, .segment 31⟩] },
    pvt := [peer 1, peer 15],
    peu := { Peu.start with toc := { Ch4.all ⟨false, 0, none, false⟩ with ia := ⟨true, 65535, some ⟨6, 99900⟩, false⟩ } },
    pending := [.panelTrip] }

/-- A station that every law holds of, with frames queued, a tag placed, two peers and a hold in force; its step runs a command. -/
theorem witness_laws :
    SettledWhenUp busy ∧ QueueSound busy ∧ TagsSound busy ∧ PeersSound busy ∧ RetainedSound busy ∧
    ChargeSound busy ∧ ShotSound busy ∧ AccumulatorsSound busy ∧ RadioSound busy ∧ ChargerSound busy ∧
    StoresSound busy ∧ PositionSound busy ∧ busy.up = true ∧ busy.pending = [.panelTrip] := by
  refine ⟨(by unfold SettledWhenUp Settled; decide +kernel), (by unfold QueueSound before; decide +kernel),
    (by unfold TagsSound TagSound; decide +kernel), (by unfold PeersSound; decide +kernel),
    (by unfold RetainedSound; decide +kernel), (by unfold ChargeSound; decide +kernel),
    (by unfold ShotSound; decide +kernel),
    (by unfold AccumulatorsSound AccumulatorSound; decide +kernel),
    (by unfold RadioSound; decide +kernel), (by unfold ChargerSound; decide +kernel),
    (by unfold StoresSound StoreSound; decide +kernel), (by unfold PositionSound; decide +kernel),
    (by decide +kernel), (by decide +kernel)⟩

/-- Before BRING-UP a command that is no part of a start, and an empty queue in each case of the idle step. -/
theorem witness_idle_and_start :
    State.reset.up = false ∧ ofStart .panelTrip = false ∧ rest.pending = [] ∧ rest.due = none ∧ (handing
    .closed .positionFault).due = some .positionFault ∧ State.reset.pending = [] := by
  refine ⟨(by decide +kernel), (by decide +kernel), (by decide +kernel), (by decide +kernel),
    (by decide +kernel), (by decide +kernel)⟩

/-- A close begins. -/
theorem witness_close_begins :
    exec (.panelClose) (restIn .lockout (some .manual)) = .next (after (.panelClose) (restIn .lockout (some .manual))) ∧
    Calm (restIn .lockout (some .manual)) ∧ (restIn .lockout (some .manual)).mdu.op ≠ .close ∧ (after
    .panelClose (restIn .lockout (some .manual))).mdu.op = .close := by
  refine ⟨rfl, (by unfold Calm Settled; decide +kernel), (by decide +kernel), (by decide +kernel)⟩

/-- A trip pulse begins. -/
theorem witness_trip_pulse_begins :
    exec (.panelTrip) (rest) = .next (after (.panelTrip) (rest)) ∧
    rest.mdu.tripCoil = false ∧ (after .panelTrip rest).mdu.tripCoil = true := by
  refine ⟨rfl, (by decide +kernel), (by decide +kernel)⟩

/-- A station with ID_CLASH, MECH_SLOW and MECH_WEAR. -/
def alarmed : State :=
  { rest with
    lnk := { rest.lnk with idClash := true }, mdu := { rest.mdu with mechSlow := true },
    rtm := Rtm.written { rest.rtm.items with mechWear := true } }

/-- A station with its three latched alarms set. -/
theorem witness_alarms_set :
    exec (.panelTrip) (alarmed) = .next (after (.panelTrip) (alarmed)) ∧
    alarmed.up = true ∧ alarmed.lnk.idClash = true ∧ alarmed.mdu.mechSlow = true ∧
    alarmed.rtm.items.mechWear = true := by
  refine ⟨rfl, (by decide +kernel), (by decide +kernel), (by decide +kernel), (by decide +kernel)⟩

/-- TAG_UNKNOWN set, and the HOTLINE switch on for less than 5 s. -/
def acknowledging : State :=
  { rest with
    tgt := ⟨true, true, some ⟨98000, 5000⟩⟩, rtm := Rtm.written { rest.rtm.items with tagUnknown := true } }

/-- TAG_UNKNOWN is cleared at the panel, and a tag is placed. -/
theorem witness_tags_change :
    exec (.hotlineSwitchChange false) (acknowledging) = .next (after (.hotlineSwitchChange false) (acknowledging)) ∧
    exec (.crewTagPlace) (hearing (request 77 .tagPlace)) = .next (after (.crewTagPlace) (hearing (request 77 .tagPlace))) ∧
    acknowledging.rtm.items.tagUnknown = true ∧ (after (.hotlineSwitchChange false)
    acknowledging).rtm.items.tagUnknown = false ∧ (after .crewTagPlace (hearing (request 77
    .tagPlace))).rtm.items.tags = [⟨77, .hold, .station⟩] := by
  refine ⟨rfl, rfl, (by decide +kernel), (by decide +kernel), (by decide +kernel)⟩

/-- A test in progress, with a loaded mean kept. -/
def testing : State :=
  { rest with
    bcu := { rest.bcu with
      mode := .test, duty := 0, floatSeconds := 0,
      test := some ⟨.crew, 13620, 91000, some ⟨13210, -8200, 99500⟩⟩, loadTimer := some ⟨91000, 10000⟩ } }

/-- A test goes on over one command and is aborted by another. -/
theorem witness_test_in_progress :
    exec (.collideActive) (testing) = .next (after (.collideActive) (testing)) ∧
    exec (.panelTrip) (testing) = .next (after (.panelTrip) (testing)) ∧
    Calm testing ∧ testing.bcu.test ≠ none ∧ ofStart .collideActive = false ∧ (after .collideActive
    testing).bcu.test ≠ none ∧ (after .panelTrip testing).bcu.test = none := by
  refine ⟨rfl, rfl, (by unfold Calm Settled; decide +kernel), (by decide +kernel), (by decide +kernel),
    (by decide +kernel), (by decide +kernel)⟩

/-- The trip store and then the close store take the charger. -/
theorem witness_charger_serves :
    exec (.readyInputChange .trip false) (rest) = .next (after (.readyInputChange .trip false) (rest)) ∧
    exec (.readyInputChange .close false) (rest) = .next (after (.readyInputChange .close false) (rest)) ∧
    Calm rest ∧ (after (.readyInputChange .trip false) rest).mdu.trip.wants = true ∧ (after
    (.readyInputChange .close false) rest).mdu.close.enable = true := by
  refine ⟨rfl, rfl, (by unfold Calm Settled; decide +kernel), (by decide +kernel), (by decide +kernel)⟩

/-- The feeding peer of segments 2 and 3 in a state with a cause, its contacts open, with no tag. -/
def feeder (seg : Nat) (st : SeqState) (c : Cause) : PeerEntry :=
  { peer 6 with
    segments := some ⟨1, seg⟩, state := some st, cause := some c, position := some .opened }

/-- A midpoint in TIMING before a dead source, its feeding peer locked out by protection. -/
def midpoint : State :=
  { rest with
    stl := { rest.stl with image := { settings with role := .midpoint } },
    sfe := { rest.sfe with
      vs := { rest.sfe.vs with state := .dead }, vl := { rest.sfe.vl with state := .dead } },
    rsl := { Rsl.start with state := .timing none, timer := some ⟨90000, 60000⟩ },
    pvt := [feeder 2 .lockout .protection] }

/-- A tie in TIMING with one dead side, the feeding peer of that side in a state with a cause. -/
def tie (side : Side) (st : SeqState) (c : Cause) : State :=
  { rest with
    stl := { rest.stl with image := { settings with role := .tie } },
    sqc := { rest.sqc with state := some .lockout, cause := some .tieOpen },
    sfe := { rest.sfe with
      vs := { rest.sfe.vs with state := if side = .up then .dead else .live },
      vl := { rest.sfe.vl with state := if side = .up then .live else .dead } },
    rsl := { Rsl.start with state := .timing (some side), timer := some ⟨0, 99000⟩ },
    pvt := [feeder (if side = .up then 2 else 3) st c] }

/-- TIMING stands over a command at a midpoint and at both sides of a tie. -/
theorem witness_timing_stands :
    exec (.collideActive) (midpoint) = .next (after (.collideActive) (midpoint)) ∧
    Calm midpoint ∧ Calm (tie .up (.lockout) .protection) ∧ Calm (tie .dn (.lockout) .protection) ∧
    (after .collideActive midpoint).rsl.state = .timing none ∧ (after .collideActive (tie .up (.lockout)
    .protection)).rsl.state = .timing (some .up) ∧ (after .collideActive (tie .dn (.lockout)
    .protection)).rsl.state = .timing (some .dn) := by
  refine ⟨rfl, (by unfold Calm Settled; decide +kernel), (by unfold Calm Settled; decide +kernel),
    (by unfold Calm Settled; decide +kernel), (by decide +kernel), (by decide +kernel),
    (by decide +kernel)⟩

/-- A tie whose table knows no feeding peer, the voltage fallback on, its fallback timer at its end. -/
def silentTie : State :=
  { tie .up .lockout .restoreOpen with
    stl := { rest.stl with image := { settings with role := .tie, fallbackVoltage := true } },
    rsl := { (tie .up .lockout .restoreOpen).rsl with expired := true, timer := some ⟨40000, 60000⟩ },
    pvt := [] }

/-- A restoration close begins, on consent and on the voltage fallback. -/
theorem witness_restoration_close :
    exec (.tieTimerExpiry) (tie .up .lockout .restoreOpen) = .next (after (.tieTimerExpiry) (tie .up .lockout .restoreOpen)) ∧
    exec (.tieTimerExpiry) (silentTie) = .next (after (.tieTimerExpiry) (silentTie)) ∧
    Calm (tie .up .lockout .restoreOpen) ∧ (tie .up .lockout .restoreOpen).rsl.state ≠ .restored ∧
    (after .tieTimerExpiry (tie .up .lockout .restoreOpen)).rsl.state = .restored ∧ Calm silentTie ∧
    silentTie.rsl.state ≠ .restored ∧ (after .tieTimerExpiry silentTie).rsl.state = .restored := by
  refine ⟨rfl, rfl, (by unfold Calm Settled; decide +kernel), (by decide +kernel), (by decide +kernel),
    (by unfold Calm Settled; decide +kernel), (by decide +kernel), (by decide +kernel)⟩

/-- The ends of the ranges of the measurement arithmetic. -/
theorem witness_arithmetic :
    (1 : Nat) ≤ 7 ∧ (-32768 : Int) ≤ 32767 ∧ (-2147483648 : Int) ≤ 2147483647 ∧ (⟨0, 20 * 32768 ^ 2, 20
    * 32768 ^ 2, true⟩ : AcChannel).hPrev ≤ 40 / 2 * 32768 ^ 2 ∧ (⟨2147483647, 0, 0, false⟩ :
    AcChannel).estimate 7 (-32768) ≤ 2147483647 := by
  refine ⟨(by decide +kernel), (by decide +kernel), (by decide +kernel), (by decide +kernel),
    (by decide +kernel)⟩

/-- An element near its trip and one part of the way. -/
def elements : State :=
  { rest with
    peu := { Peu.start with
      toc := ⟨⟨true, 65000, none, false⟩, ⟨true, 30000, none, false⟩, ⟨false, 0, none, false⟩,
        ⟨false, 9, none, false⟩⟩ } }

/-- A record with no current. -/
def quiet : UpdateRecord := { record with rms := Ch6.all 0 }

/-- An eligible episode of two updates that ends with the next record. -/
def stepping : State := { elements with peu := { elements.peu with episode := some ⟨2, true⟩ } }

/-- A record of the present uptime, with current in the phases alone. -/
def present : UpdateRecord := { record with time := 100000, rms := { Ch6.all 500 with ig := 0 } }

/-- Holds of 100 ms on four elements: over its time, within it, not yet taken, and at a drop-out. -/
def holding : State :=
  { rest with
    peu := { Peu.start with
      toc := ⟨⟨true, 0, some ⟨6, 99900⟩, false⟩, ⟨true, 0, some ⟨6, 99910⟩, false⟩, ⟨false, 0, none, false⟩,
        ⟨true, 0, some ⟨6, 99990⟩, false⟩⟩ },
    pvt := [{ peer 6 with segments := some ⟨3, 4⟩, lastPickup := some 99750 }] }

/-- An evaluated update: one element dropping out, one rising, and one that trips. -/
theorem witness_update_evaluated :
    rest.evaluates record = true ∧ (elements.evaluate record).peu.toc.ia.pickedUp = true ∧
    elements.evaluates quiet = true ∧ (elements.evaluate quiet).peu.toc.ib.pickedUp = false ∧
    (elements.evaluate record).peu.outstanding = true ∧ (restIn .lockout none).evaluates record = false
    ∧ stepping.evaluates quiet = true ∧ (stepping.evaluate quiet).transit.reports = [.sequenceStep
    99990] ∧ holding.evaluates present = true ∧ present.time = holding.now ∧ (holding.evaluate
    present).peu.toc.ia.hold = none ∧ (holding.evaluate present).peu.toc.ib.hold = some ⟨6, 99910⟩ ∧
    (holding.evaluate present).peu.toc.ic.hold = some ⟨6, 100000⟩ ∧ holding.peu.toc.ig.hold = some ⟨6,
    99990⟩ ∧ (holding.evaluate present).peu.toc.ig.hold = none := by
  refine ⟨(by decide +kernel), (by decide +kernel), (by decide +kernel), (by decide +kernel),
    (by decide +kernel), (by decide +kernel), (by decide +kernel), (by decide +kernel),
    (by decide +kernel), (by decide +kernel), (by decide +kernel), (by decide +kernel),
    (by decide +kernel), (by decide +kernel), (by decide +kernel)⟩

/-- A TAG_NOTICE of four tags, with the panel slot and TAG_UNKNOWN. -/
def noticed : TagNoticeContent :=
  ⟨true, [⟨1, .hold, .station⟩, ⟨4095, .hotline, .segment 31⟩, ⟨77, .hold, .segment 1⟩, ⟨78, .hotline, .station⟩],
    true⟩

/-- A trip record at the ends of its ranges. -/
def resultRecord : TripRecord :=
  ⟨4, .restoreOpen, ⟨Ch4.all true, Ch4.all true⟩, Ch4.all 32768, 4294967295, some 65535⟩

/-- A station with every item of a STATUS in range, with four tags, a settings fault and a trip record. -/
def reporting : State :=
  { rest with
    rtm := Rtm.written { rest.rtm.items with tags := noticed.tags, opCounter := 999999 },
    sqc := { rest.sqc with shot := 3, record := some resultRecord },
    stl := { rest.stl with fault := some ⟨95, .checksum⟩ },
    lnk := { rest.lnk with good := 255, bad := 255 } }

/-- The content of a BATTERY_REPORT of this station. -/
def batteryNews : BatteryContent :=
  { attempt := some .fail, last := some ⟨.fail, 13620, 9000, 9000, some 65535⟩, health := rest.rtm.items.health,
    thresholds := settings.thresholds, poor := true, soc := some 100, qUncertain := false,
    cls := some .cutoff, mode := .test, days := 65535 }

/-- A reception long enough for its length byte, whole and with its CRC spoilt; fields in range for the frames of a peer. -/
theorem witness_received_frames :
    8 ≤ nat1 (request 77 .trip) 1 ∧ nat1 (request 77 .trip) 1 ≤ 64 ∧ nat1 (request 77 .trip) 1 ≤
    (request 77 .trip).length ∧ classify 0x1234 (some 3) (ended (request 77 .trip)) ≠ .badCrc ∧ classify
    0x1234 (some 3) (ended ((request 77 .trip).set 5 0xFF)) = .badCrc ∧ (⟨Ch4.all false, { Ch4.all false
    with ig := true }⟩ : ElementSet).any = true ∧ noticed.tags.length ≤ 4 ∧ (∀ x ∈ noticed.tags,
    TagSound x) ∧ classify 0x1234 (some 3) ⟨frameBytes 4 0x1234 6 (tagNoticeBody noticed), 21, 99990⟩ =
    .accepted (.tagNotice 6 ⟨⟨0, .hotline, .station⟩ :: noticed.tags, true⟩) ∧ (4095 : Nat) ≤ 4095 ∧
    TagsSound reporting ∧ reporting.stl.image.sUp ≤ 31 ∧ reporting.stl.image.sDn ≤ 31 ∧
    reporting.sqc.shot ≤ 4 ∧ reporting.bcu.soc.getD 0 ≤ 100 ∧ reporting.rtm.items.opCounter ≤ 999999 ∧
    reporting.lnk.good ≤ 255 ∧ reporting.lnk.bad ≤ 255 ∧ (reporting.stl.fault.map (·.index)).getD 0 ≤ 95
    ∧ reporting.stl.fault.isSome = true ∧ reporting.sqc.record.isSome = true ∧ resultRecord.number ≤ 4 ∧
    resultRecord.rms.ia ≤ 32768 ∧ resultRecord.operating.getD 0 ≤ 65535 ∧
    batteryNews.health.resistance.raw ≤ 65535 ∧ batteryNews.health.absorbLimit.value ≤ 200 ∧
    batteryNews.thresholds.testFails ≤ 199 ∧ batteryNews.soc.getD 0 ≤ 100 ∧ batteryNews.days ≤ 65535 := by
  refine ⟨(by decide +kernel), (by decide +kernel), (by decide +kernel), (by decide +kernel),
    (by decide +kernel), (by decide +kernel), (by decide +kernel),
    (by unfold TagSound; decide +kernel), (by decide +kernel), (by decide +kernel),
    (by unfold TagsSound TagSound; decide +kernel), (by decide +kernel), (by decide +kernel),
    (by decide +kernel), (by decide +kernel), (by decide +kernel), (by decide +kernel),
    (by decide +kernel), (by decide +kernel), (by decide +kernel), (by decide +kernel),
    (by decide +kernel), (by decide +kernel), (by decide +kernel), (by decide +kernel),
    (by decide +kernel), (by decide +kernel), (by decide +kernel), (by decide +kernel)⟩

/-- A station in ECONOMY. -/
def economical : State :=
  { rest with
    bcu := { rest.bcu with cls := some .economy },
    lnk := { rest.lnk with power := .duty, cycle := some ⟨true, 99750⟩ } }

/-- A start with some words of 0 read. -/
def reading (n : Nat) : State :=
  { State.reset with stl := { State.reset.stl with phase := .read (List.replicate n 0) } }

/-- A register that is not 0, 95 words read, and the two classes with a period. -/
theorem witness_random_generator :
    rest.lnk.rng ≠ 0 ∧ (reading 95).stl.phase = .read (List.replicate 95 0) ∧ rest.bcu.cls = some
    .normal ∧ economical.bcu.cls = some .economy := by
  refine ⟨(by decide +kernel), (by decide +kernel), (by decide +kernel), (by decide +kernel)⟩

/-- Inputs that enter a worse class, that leave a class, and that reach CUTOFF. -/
theorem witness_class_inputs :
    worstEntered settings ⟨25, false, 13000, true, false⟩ = .protectOnly ∧ leaves settings ⟨80, false,
    13000, true, false⟩ .economy = true ∧ classAfter settings ⟨80, false, 10000, true, true⟩ (some
    .normal) = .cutoff ∧ (1 : Nat) ≤ settings.rRef ∧ (0 : Nat) ≤ 65535 := by
  refine ⟨(by decide +kernel), (by decide +kernel), (by decide +kernel), (by decide +kernel),
    (by decide +kernel)⟩

/-- Eight frames of priority 1. -/
def fullQueue : State :=
  { rest with
    txq := { rest.txq with entries := (List.range 8).map fun n => entry resultContent 1 n, nextOrder := 8 } }

/-- Eight frames of priority 0. -/
def urgentQueue : State :=
  { rest with
    txq := { rest.txq with entries := (List.range 8).map fun n => entry resultContent 0 n, nextOrder := 8 } }

/-- Eight frames of priority 3. -/
def fullOfLast : State :=
  { rest with
    txq := { rest.txq with entries := (List.range 8).map fun n => entry resultContent 3 n, nextOrder := 8 } }

/-- A full queue that evicts for a frame of priority 1, drops one of priority 3 behind urgent frames, and room in the list. -/
theorem witness_full_queue :
    QueueSound fullQueue ∧ (fullQueue.txq.evicts 1).isSome = true ∧ QueueSound urgentQueue ∧
    urgentQueue.txq.evicts 3 = none ∧ QueueSound busy ∧ busy.txq.entries.length ≤ 6 ∧
    fullQueue.txq.entries.length = 8 ∧ urgentQueue.txq.entries.length = 8 ∧ fullQueue.txq.entries.all
    (fun e => !e.isStatus) = true ∧ (fullQueue.txq.evicts (fullQueue.stl.image.priorityMap / 256 %
    4)).isSome = false ∧ (fullOfLast.txq.evicts (fullOfLast.stl.image.priorityMap / 256 % 4)).isSome =
    true ∧ QueueSound fullOfLast ∧ fullOfLast.txq.entries.all (fun e => !e.isStatus) = true ∧
    busy.txq.entries.all (fun e => !e.isStatus) = true := by
  refine ⟨(by unfold QueueSound before; decide +kernel), (by decide +kernel),
    (by unfold QueueSound before; decide +kernel), (by decide +kernel),
    (by unfold QueueSound before; decide +kernel), (by decide +kernel), (by decide +kernel),
    (by decide +kernel), (by decide +kernel), (by decide +kernel), (by decide +kernel),
    (by unfold QueueSound before; decide +kernel), (by decide +kernel), (by decide +kernel)⟩

/-- A frame to select, none eligible, and an access in progress. -/
theorem witness_search :
    QueueSound busy ∧ busy.lnk.access = .idle ∧ busy.lnk.eligible busy.stl.image.stationId.isSome 0 =
    true ∧ ({ busy with lnk := { busy.lnk with power := .off } } : State).lnk.eligible true 0 = false ∧
    (sendingState .gap (entry resultContent 1 3)).lnk.access ≠ .idle := by
  refine ⟨(by unfold QueueSound before; decide +kernel), (by decide +kernel), (by decide +kernel),
    (by decide +kernel), (by decide +kernel)⟩

/-- Twelve peers last heard at an uptime: ids 4 to 15. -/
def fullTable (heard : Uptime) : State :=
  { rest with pvt := (List.range 12).map fun n => { peer (n + 4) with lastHeard := heard } }

/-- A full table that evicts a SILENT entry, a FRESH one for an adjacent newcomer, or none. -/
theorem witness_full_table :
    (fullTable 99950).evictedPeer false = none ∧ ((fullTable 99950).evictedPeer true).isSome = true ∧
    ((fullTable 4294667000).evictedPeer false).isSome = true ∧ (fullTable 99950).pvt.length = 12 := by
  refine ⟨(by decide +kernel), (by decide +kernel), (by decide +kernel), (by decide +kernel)⟩

/-- The 256th bit taken. -/
def sampling : State := { rest with sfe := { rest.sfe with bitCount := 256 } }

/-- W/2 samples used: VS about to become LIVE, VL about to become DEAD. -/
def updating : State :=
  { rest with
    sfe := { rest.sfe with
      halfCount := 24, vs := ⟨.unknown, 2, 0, 0, false⟩, vl := ⟨.live, 0, 2, 0, false⟩,
      ac := { Ch6.all AcChannel.start with vs := ⟨0, 96000000, 96000000, false⟩ } } }

/-- A part that takes a bit, completes a sample with and without discard, and updates while warming, into LIVE and into DEAD. -/
theorem witness_measurement :
    rest.up = true ∧ rest.sfe.bitCount < 256 ∧ sampling.sfe.discard = 0 ∧ 256 ≤ sampling.sfe.bitCount ∧
    sampling.sfe.halfCount < sampling.stl.tables.w / 2 ∧ sampling.sfe.batCount < 2400 ∧ ({ sampling with
    sfe := { sampling.sfe with discard := 3 } } : State).sfe.discard ≠ 0 ∧ updating.stl.tables.w / 2 ≤
    updating.sfe.halfCount ∧ updating.sfe.warming = 0 ∧ updating.sfe.vs.state ≠ .live ∧
    updating.sfe.vs.liveRun = 2 ∧ updating.stl.image.vLive ≤ isqrt ((updating.sfe.ac.vs.hPrev +
    updating.sfe.ac.vs.hCur) / updating.stl.tables.w) ∧ updating.sfe.vl.state ≠ .dead ∧
    updating.sfe.vl.deadRun = 2 ∧ isqrt ((updating.sfe.ac.vl.hPrev + updating.sfe.ac.vl.hCur) /
    updating.stl.tables.w) < updating.stl.image.vDead := by
  refine ⟨(by decide +kernel), (by decide +kernel), (by decide +kernel), (by decide +kernel),
    (by decide +kernel), (by decide +kernel), (by decide +kernel), (by decide +kernel),
    (by decide +kernel), (by decide +kernel), (by decide +kernel), (by decide +kernel),
    (by decide +kernel), (by decide +kernel), (by decide +kernel)⟩

/-- 2,400 samples used. -/
def second : State :=
  { rest with sfe := { rest.sfe with batCount := 2400, vbSum := 30720000, ibatSum := 24000 } }

/-- The last second of a tail run. -/
def tailEnd : State :=
  { second with
    sfe := { second.sfe with ibatSum := -491999 }, bcu := { rest.bcu with mode := .absorb, tailRun := 59 } }

/-- The tenth second in a row below V_cut. -/
def lowSecond : State :=
  { second with
    sfe := { second.sfe with vbSum := 20000000 }, bcu := { rest.bcu with cutoffRun := 9 } }

/-- A second below V_prot in the middle of a send. -/
def sendingSecond : State :=
  { second with
    sfe := { second.sfe with vbSum := 25000000 },
    txq := { rest.txq with entries := [{ entry resultContent 1 3 with inFlight := true }] },
    lnk := { rest.lnk with access := .sending, selected := some 3, sendTimer := some ⟨99990, 25⟩ } }

/-- A second that takes the charge of a test low enough to end it. -/
def lastSecond : State :=
  { second with
    sfe := { second.sfe with ibatSum := -491999 },
    rtm := Rtm.written { rest.rtm.items with q := 43200000 }, bcu := testing.bcu }

/-- A day counted. -/
def dayEnd : State := { rest with bcu := { rest.bcu with daySeconds := 86400 } }

/-- One-second updates with the charge rising, with a tail end of ABSORB, and with a rollover due; a rollover with no test falling due. -/
theorem witness_seconds :
    Calm second ∧ 2400 ≤ second.sfe.batCount ∧ second.bcu.daySeconds < 86400 ∧ second.rtm.items.q ≤
    second.stl.tables.qcap ∧ Calm tailEnd ∧ tailEnd.bcu.mode = .absorb ∧ 59 ≤ tailEnd.bcu.tailRun ∧ Calm
    dayEnd ∧ 86400 ≤ dayEnd.bcu.daySeconds ∧ min 65535 (dayEnd.rtm.items.daysSinceTest + 1) <
    dayEnd.stl.image.testInterval ∧ QueueSound second ∧ RadioSound second ∧ second.up = true ∧
    QueueSound lowSecond ∧ RadioSound lowSecond ∧ 2400 ≤ lowSecond.sfe.batCount ∧
    lowSecond.bcu.cutoffRun = 9 ∧ lowSecond.bcu.cls = some .normal ∧ lowSecond.sfe.vbSum / 2400 *
    lowSecond.stl.image.vbGain / 4096 < (lowSecond.stl.image.vCut : Int) ∧ QueueSound sendingSecond ∧
    RadioSound sendingSecond ∧ (after .oneSecondUpdate sendingSecond).lnk.pendingPower = some .sparse ∧
    QueueSound lastSecond ∧ RadioSound lastSecond ∧ 2400 ≤ lastSecond.sfe.batCount ∧ (after
    .oneSecondUpdate lastSecond).bcu.test = none ∧ ({ second with bcu := { second.bcu with mode := .bulk
    } } : State).bcu.mode = .bulk := by
  refine ⟨(by unfold Calm Settled; decide +kernel), (by decide +kernel), (by decide +kernel),
    (by decide +kernel), (by unfold Calm Settled; decide +kernel), (by decide +kernel),
    (by decide +kernel), (by unfold Calm Settled; decide +kernel), (by decide +kernel),
    (by decide +kernel), (by unfold QueueSound before; decide +kernel),
    (by unfold RadioSound; decide +kernel), (by decide +kernel),
    (by unfold QueueSound before; decide +kernel), (by unfold RadioSound; decide +kernel),
    (by decide +kernel), (by decide +kernel), (by decide +kernel), (by decide +kernel),
    (by unfold QueueSound before; decide +kernel), (by unfold RadioSound; decide +kernel),
    (by decide +kernel), (by unfold QueueSound before; decide +kernel),
    (by unfold RadioSound; decide +kernel), (by decide +kernel), (by decide +kernel),
    (by decide +kernel)⟩

/-- Test due, the retry timer running. -/
def attempt : State :=
  { rest with bcu := { rest.bcu with testDue := true, retryTimer := some ⟨40000, 60000⟩ } }

/-- A scheduled attempt whose preconditions hold and one whose SUPPLY_OK fails; a crew request. -/
theorem witness_attempts :
    Calm attempt ∧ attempt.bcu.retryTimer ≠ none ∧ attempt.bcu.testDue = true ∧ attempt.bcu.latestMean =
    some ⟨13620, 120, 99500⟩ ∧ attempt.testBar = none ∧ Plain (hearing (request 77 .batteryTest)) ∧
    RequestArrives (hearing (request 77 .batteryTest)) .batteryTest (asked 77 .batteryTest) (ended
    (request 77 .batteryTest)) [] := by
  refine ⟨(by unfold Calm Settled; decide +kernel), (by decide +kernel), (by decide +kernel),
    (by decide +kernel), (by decide +kernel), (by unfold Plain Calm Settled; decide +kernel),
    (by unfold RequestArrives; decide +kernel)⟩

/-- A trip request of PA. -/
def tripRequest : TripRequest :=
  ⟨99990, ⟨{ Ch4.all false with ia := true }, Ch4.all false⟩, Ch4.all 500⟩

/-- The hand-off of that request. -/
def trip : Report := .tripRequest tripRequest

/-- A trip request in each of the states that take it, absorb it and drop it. -/
theorem witness_trip_request :
    Plain (handing .closed trip) ∧ MayTrip (handing .closed trip) ∧ (handing .closed trip).sqc.shot < 3
    ∧ takeReport Report.asTrip (handing .closed trip).transit.reports = some (tripRequest, []) ∧ Plain
    (handing .reclaim trip) ∧ MayTrip (handing .reclaim trip) ∧ Plain (handing .closing trip) ∧ MayTrip
    (handing .closing trip) ∧ Plain (handing .tripping trip) ∧ Plain (handing .dead trip) ∧ Plain
    (handing .energyWait trip) ∧ Plain (handing .lockout trip) ∧ Plain (handing .stuck trip) := by
  refine ⟨(by unfold Plain Calm Settled; decide +kernel), (by unfold MayTrip; decide +kernel),
    (by decide +kernel), (by decide +kernel), (by unfold Plain Calm Settled; decide +kernel),
    (by unfold MayTrip; decide +kernel), (by unfold Plain Calm Settled; decide +kernel),
    (by unfold MayTrip; decide +kernel), (by unfold Plain Calm Settled; decide +kernel),
    (by unfold Plain Calm Settled; decide +kernel), (by unfold Plain Calm Settled; decide +kernel),
    (by unfold Plain Calm Settled; decide +kernel), (by unfold Plain Calm Settled; decide +kernel)⟩

/-- A sequence step below the effective L minus 1, and one in another state. -/
theorem witness_sequence_step :
    Plain (handing .closed (.sequenceStep 99990)) ∧ Indifferent (handing .closed (.sequenceStep 99990))
    ∧ takeReport Report.asStep (handing .closed (.sequenceStep 99990)).transit.reports = some (99990,
    []) ∧ (handing .closed (.sequenceStep 99990)).sqc.shot + 1 < (handing .closed (.sequenceStep
    99990)).effectiveL ∧ Plain (handing .dead (.sequenceStep 99990)) := by
  refine ⟨(by unfold Plain Calm Settled; decide +kernel), (by unfold Indifferent; decide +kernel),
    (by decide +kernel), (by decide +kernel), (by unfold Plain Calm Settled; decide +kernel)⟩

/-- ENERGY_WAIT with its timer. -/
def ewaiting : State :=
  { restIn .energyWait none with
    sqc := { (restIn .energyWait none).sqc with ewaitTimer := some ⟨90000, 10000⟩ } }

/-- RECLAIM with its timer. -/
def reclaimingState : State :=
  { restIn .reclaim none with
    sqc := { (restIn .reclaim none).sqc with shot := 2, reclaimTimer := some ⟨70000, 30000⟩ } }

/-- LOCKOUT with a close demand. -/
def demanding : State :=
  { restIn .lockout (some .manual) with
    sqc := { (restIn .lockout (some .manual)).sqc with demandTimer := some ⟨40000, 60000⟩ } }

/-- Each timer of the sequence running in its state. -/
theorem witness_sequence_timers :
    Plain ewaiting ∧ ewaiting.sqc.ewaitTimer ≠ none ∧ Plain reclaimingState ∧
    reclaimingState.sqc.reclaimTimer ≠ none ∧ reclaimingState.sqc.demandTimer = none ∧ Plain demanding ∧
    demanding.sqc.demandTimer ≠ none ∧ demanding.bcu.cls ≠ some .protectOnly := by
  refine ⟨(by unfold Plain Calm Settled; decide +kernel), (by decide +kernel),
    (by unfold Plain Calm Settled; decide +kernel), (by decide +kernel), (by decide +kernel),
    (by unfold Plain Calm Settled; decide +kernel), (by decide +kernel), (by decide +kernel)⟩

/-- TRIPPING with an operation cause and a shot, its open confirmation on the way. -/
def opening (c : OpCause) (shot : Nat) : State :=
  { handing .tripping (.openConfirmation 29) with
    sqc := { (handing .tripping (.openConfirmation 29)).sqc with opCause := some c, shot := shot } }

/-- The open confirmation of a protection trip below L, at L, and of a manual trip. -/
theorem witness_open_confirmed :
    Plain (opening .protection 1) ∧ Indifferent (opening .protection 1) ∧ (opening .protection
    1).sqc.shot < (opening .protection 1).effectiveL ∧ takeReport Report.asOpen (opening .protection
    1).transit.reports = some (29, []) ∧ Plain (opening .protection 3) ∧ ¬(opening .protection
    3).sqc.shot < (opening .protection 3).effectiveL ∧ Plain (opening .manual 0) := by
  refine ⟨(by unfold Plain Calm Settled; decide +kernel), (by unfold Indifferent; decide +kernel),
    (by decide +kernel), (by decide +kernel), (by unfold Plain Calm Settled; decide +kernel),
    (by decide +kernel), (by unfold Plain Calm Settled; decide +kernel)⟩

/-- STUCK with each of its reports, and the two entries to it. -/
theorem witness_stuck_reports :
    Plain (handing .stuck .positionFault) ∧ takeReport (Report.asPlain .positionFault) (handing .stuck
    .positionFault).transit.reports = some ((), []) ∧ Plain (handing .stuck (.openConfirmation 29)) ∧
    takeReport Report.asOpen (handing .stuck (.openConfirmation 29)).transit.reports = some (29, []) ∧
    Plain (handing .stuck .tripFail) ∧ takeReport (Report.asPlain .tripFail) (handing .stuck
    .tripFail).transit.reports = some ((), []) ∧ Plain (handing .tripping .tripFail) ∧ Indifferent
    (handing .tripping .tripFail) ∧ Plain (handing .lockout .positionFault) := by
  refine ⟨(by unfold Plain Calm Settled; decide +kernel), (by decide +kernel),
    (by unfold Plain Calm Settled; decide +kernel), (by decide +kernel),
    (by unfold Plain Calm Settled; decide +kernel), (by decide +kernel),
    (by unfold Plain Calm Settled; decide +kernel), (by unfold Indifferent; decide +kernel),
    (by unfold Plain Calm Settled; decide +kernel)⟩

/-- CLOSING after a dead time, an answer on the way. -/
def closingWith (r : Report) : State :=
  { handing .closing r with sqc := { (handing .closing r).sqc with shot := 1, closeSource := some .auto } }

/-- A close confirmation and a CLOSE_FAIL in CLOSING; an unsolicited open and an unsolicited close. -/
theorem witness_close_answers :
    Plain (closingWith .closeConfirmation) ∧ (closingWith .closeConfirmation).sqc.closeSource = some
    .auto ∧ Indifferent (closingWith .closeConfirmation) ∧ takeReport (Report.asPlain
    .closeConfirmation) (closingWith .closeConfirmation).transit.reports = some ((), []) ∧ Plain
    (closingWith .closeFail) ∧ takeReport (Report.asPlain .closeFail) (closingWith
    .closeFail).transit.reports = some ((), []) ∧ Plain (handing .closed (.unsolicitedOpen true)) ∧
    takeReport Report.asUnsolicitedOpen (handing .closed (.unsolicitedOpen true)).transit.reports = some
    (true, []) ∧ Plain (handing .lockout .unsolicitedClose) ∧ takeReport (Report.asPlain
    .unsolicitedClose) (handing .lockout .unsolicitedClose).transit.reports = some ((), []) := by
  refine ⟨(by unfold Plain Calm Settled; decide +kernel), (by decide +kernel),
    (by unfold Indifferent; decide +kernel), (by decide +kernel),
    (by unfold Plain Calm Settled; decide +kernel), (by decide +kernel),
    (by unfold Plain Calm Settled; decide +kernel), (by decide +kernel),
    (by unfold Plain Calm Settled; decide +kernel), (by decide +kernel)⟩

/-- DEAD with its timer. -/
def deadTimeState : State :=
  { restIn .dead none with
    sqc := { (restIn .dead none).sqc with shot := 1, deadTimer := some ⟨99500, 500⟩ } }

/-- A state with a crew's tag. -/
def tagged (s : State) : State :=
  { s with rtm := Rtm.written { s.rtm.items with tags := [⟨77, .hold, .station⟩] } }

/-- A state with the close store charging. -/
def storeless (s : State) : State :=
  { s with mdu := { s.mdu with close := ⟨.charging, some false, true, some ⟨99000, 60000⟩, none⟩ } }

/-- A dead time with the gate open, with a tag, and with the close store not READY. -/
theorem witness_dead_time :
    Plain deadTimeState ∧ deadTimeState.sqc.deadTimer ≠ none ∧ deadTimeState.mdu.op = .idle ∧
    deadTimeState.gateOpen = true ∧ Plain (tagged deadTimeState) ∧ (tagged deadTimeState).tagHold = true
    ∧ Plain (storeless deadTimeState) ∧ (storeless deadTimeState).mdu.close.state ≠ .ready := by
  refine ⟨(by unfold Plain Calm Settled; decide +kernel), (by decide +kernel), (by decide +kernel),
    (by decide +kernel), (by unfold Plain Calm Settled; decide +kernel), (by decide +kernel),
    (by unfold Plain Calm Settled; decide +kernel), (by decide +kernel)⟩

/-- The panel buttons and switches in the states they act in. -/
theorem witness_panel :
    Plain rest ∧ Indifferent rest ∧ rest.sfe.latest = some record ∧ MayTrip rest ∧ Plain (restIn .dead
    none) ∧ Plain (restIn .lockout (some .manual)) ∧ Plain (restIn .tripping none) ∧ Plain (restIn
    .stuck (some .position)) ∧ (restIn .stuck (some .position)).mdu.tripping = false ∧ (restIn .stuck
    (some .position)).sqc.stuckAttempt = false ∧ Plain (tagged (restIn .lockout (some .manual))) ∧ Plain
    (storeless (restIn .lockout (some .manual))) := by
  refine ⟨(by unfold Plain Calm Settled; decide +kernel), (by unfold Indifferent; decide +kernel),
    (by decide +kernel), (by unfold MayTrip; decide +kernel),
    (by unfold Plain Calm Settled; decide +kernel), (by unfold Plain Calm Settled; decide +kernel),
    (by unfold Plain Calm Settled; decide +kernel), (by unfold Plain Calm Settled; decide +kernel),
    (by decide +kernel), (by decide +kernel), (by unfold Plain Calm Settled; decide +kernel),
    (by unfold Plain Calm Settled; decide +kernel)⟩

/-- The part just after BRING-UP. -/
def undecided : State :=
  { rest with
    mdu := Mdu.start, sqc := Sqc.start, bcu := Bcu.start, rsl := { Rsl.start with inhibit := some .nonreclose } }

/-- The same at a station with a role, its source just dead. -/
def undecidedAs (r : Role) : State :=
  { undecided with
    sfe := { undecided.sfe with vs := ⟨.dead, 0, 3, 99000, false⟩, vl := Presence.start },
    stl := { undecided.stl with image := { settings with role := r } },
    rsl := { undecided.rsl with state := if r = .tie then .inhibited .start else .watch } }

/-- A part that has not yet decided its first position, without a role, as a midpoint and as a tie. -/
theorem witness_first_position :
    Calm undecided ∧ undecided.mdu.position = none ∧ undecided.bcu.test = none ∧ Indifferent undecided ∧
    undecided.stl.image.role ≠ .midpoint ∧ Calm (undecidedAs .midpoint) ∧ (undecidedAs
    .midpoint).mdu.position = none ∧ (undecidedAs .midpoint).bcu.test = none ∧ Indifferent (undecidedAs
    .midpoint) ∧ (undecidedAs .midpoint).sfe.vs.age (undecidedAs .midpoint).now < 1000 * settings.tMid ∧
    Calm (undecidedAs .tie) ∧ Indifferent (undecidedAs .tie) := by
  refine ⟨(by unfold Calm Settled; decide +kernel), (by decide +kernel), (by decide +kernel),
    (by unfold Indifferent; decide +kernel), (by decide +kernel),
    (by unfold Calm Settled; decide +kernel), (by decide +kernel), (by decide +kernel),
    (by unfold Indifferent; decide +kernel), (by decide +kernel),
    (by unfold Calm Settled; decide +kernel), (by unfold Indifferent; decide +kernel)⟩

/-- A trip operation in DRIVE for 29 ms. -/
def driving (a : Attempt) : State :=
  { restIn .tripping none with
    mdu := { rest.mdu with
      op := .trip .drive a, opTimer := some ⟨99971, 60⟩, driveStart := some 99971,
      opCause := some .protection, wear := some 500 } }

/-- A trip operation in STORE_WAIT, its store charging. -/
def waitingForStore (a : Attempt) : State :=
  { restIn .tripping none with
    mdu := { rest.mdu with
      op := .trip .storeWait a, opTimer := some ⟨98000, 2000⟩,
      trip := ⟨.charging, some false, true, some ⟨98000, 20000⟩, none⟩ } }

/-- A trip operation in DRIVE with the contacts between their ends. -/
def travellingTrip : State :=
  { driving .second with mdu := { (driving .second).mdu with position := some .unknown } }

/-- A close operation in flight for 60 ms. -/
def closingOp : State :=
  { restIn .closing none with
    mdu := { rest.mdu with op := .close, opTimer := some ⟨99940, 100⟩, driveStart := some 99940 } }

/-- Operations in flight: DRIVE and STORE_WAIT with their timers, and a close. -/
theorem witness_operations :
    Calm (driving .first) ∧ (driving .first).mdu.op = .trip .drive .first ∧ (driving
    .first).mdu.driveStart = some 99971 ∧ (driving .first).mdu.opTimer ≠ none ∧ Calm (driving .second) ∧
    Calm (waitingForStore .first) ∧ (waitingForStore .first).mdu.opTimer ≠ none ∧ Calm closingOp ∧
    closingOp.mdu.op = .close ∧ closingOp.mdu.driveStart = some 99940 ∧ closingOp.mdu.opTimer ≠ none ∧
    (waitingForStore .first).mdu.position ≠ some .opened ∧ (waitingForStore .first).mdu.driveStart =
    none ∧ Calm travellingTrip ∧ travellingTrip.mdu.op = .trip .drive .second ∧
    travellingTrip.mdu.position ≠ some .closed ∧ (driving .first).mdu.position ≠ some .unknown ∧
    (driving .first).mdu.faultTimer = none := by
  refine ⟨(by unfold Calm Settled; decide +kernel), (by decide +kernel), (by decide +kernel),
    (by decide +kernel), (by unfold Calm Settled; decide +kernel),
    (by unfold Calm Settled; decide +kernel), (by decide +kernel),
    (by unfold Calm Settled; decide +kernel), (by decide +kernel), (by decide +kernel),
    (by decide +kernel), (by decide +kernel), (by decide +kernel),
    (by unfold Calm Settled; decide +kernel), (by decide +kernel), (by decide +kernel),
    (by decide +kernel), (by decide +kernel)⟩

/-- LOCKOUT with the contacts open. -/
def openState : State :=
  { restIn .lockout (some .manual) with
    mdu := { rest.mdu with
      openC := some true, closedC := some false, position := some .opened, lastEnd := some .opened } }

/-- The position UNKNOWN for 20 ms. -/
def travelling : State :=
  { rest with mdu := { rest.mdu with position := some .unknown, faultTimer := some ⟨99980, 20⟩ } }

/-- The same stay, reported before an operation that has ended within it. -/
def reportedStay : State :=
  { travelling with mdu := { travelling.mdu with faultReported := true } }

/-- Changes of position from CLOSED and from OPEN, and a running fault timer. -/
theorem witness_positions :
    Calm rest ∧ rest.mdu.op = .idle ∧ rest.mdu.position ≠ some (positionFrom false false) ∧
    rest.mdu.position ≠ some (positionFrom true false) ∧ rest.mdu.lastEnd = some .closed ∧ Calm
    openState ∧ openState.mdu.position ≠ some (positionFrom false true) ∧ openState.mdu.lastEnd = some
    .opened ∧ Calm travelling ∧ travelling.mdu.faultTimer ≠ none ∧ PositionSound travelling ∧ (after
    .positionFaultTimerExpiry travelling).transit.reports = [.positionFault] ∧ Calm reportedStay ∧
    PositionSound reportedStay ∧ reportedStay.mdu.faultTimer ≠ none ∧ (after .positionFaultTimerExpiry
    reportedStay).transit.reports = [] ∧ (after (.positionChange false true)
    reportedStay).mdu.faultReported = false := by
  refine ⟨(by unfold Calm Settled; decide +kernel), (by decide +kernel), (by decide +kernel),
    (by decide +kernel), (by decide +kernel), (by unfold Calm Settled; decide +kernel),
    (by decide +kernel), (by decide +kernel), (by unfold Calm Settled; decide +kernel),
    (by decide +kernel), (by unfold PositionSound; decide +kernel), (by decide +kernel),
    (by unfold Calm Settled; decide +kernel), (by unfold PositionSound; decide +kernel),
    (by decide +kernel), (by decide +kernel), (by decide +kernel)⟩

/-- The close store in FAULT, its retry timer running. -/
def faulty : State :=
  { rest with mdu := { rest.mdu with close := ⟨.fault, some false, false, none, some ⟨40000, 60000⟩⟩ } }

/-- Stores that become READY, leave READY, pass their charge limit, and end their retry wait. -/
theorem witness_stores :
    Calm (waitingForStore .first) ∧ StoresSound (waitingForStore .first) ∧ ((waitingForStore
    .first).mdu.store .trip).ready ≠ some true ∧ (waitingForStore .first).sqc.state ≠ some .energyWait ∧
    Calm rest ∧ StoresSound rest ∧ (rest.mdu.store .close).ready ≠ some false ∧ (rest.mdu.store
    .close).state = .ready ∧ ((waitingForStore .first).mdu.store .trip).limit ≠ none ∧ ((waitingForStore
    .first).mdu.store .trip).enable = true ∧ Calm faulty ∧ StoresSound faulty ∧ (faulty.mdu.store
    .close).retry ≠ none ∧ (faulty.mdu.store .close).state = .fault ∧ faulty.mdu.trip.ready ≠ none ∧
    faulty.mdu.close.ready ≠ none := by
  refine ⟨(by unfold Calm Settled; decide +kernel), (by unfold StoresSound StoreSound; decide +kernel),
    (by decide +kernel), (by decide +kernel), (by unfold Calm Settled; decide +kernel),
    (by unfold StoresSound StoreSound; decide +kernel), (by decide +kernel), (by decide +kernel),
    (by decide +kernel), (by decide +kernel), (by unfold Calm Settled; decide +kernel),
    (by unfold StoresSound StoreSound; decide +kernel), (by decide +kernel), (by decide +kernel),
    (by decide +kernel), (by decide +kernel)⟩

/-- A BATTERY_REPORT in the queue, in flight or not. -/
def withBattery (flying : Bool) : State :=
  { rest with
    txq := { rest.txq with entries := [{ entry (.battery batteryNews) 3 5 with inFlight := flying }] } }

/-- A station without supply. -/
def unsupplied : State :=
  { rest with bcu := { rest.bcu with supplyOk := false, mode := .off, duty := 0, floatSeconds := 0 } }

/-- A charger with supply and one without, and a test with a loaded mean. -/
theorem witness_battery :
    Calm rest ∧ ChargerSound rest ∧ rest.bcu.test = none ∧ Calm unsupplied ∧ ChargerSound unsupplied ∧
    Calm testing ∧ testing.bcu.test = some ⟨.crew, 13620, 91000, some ⟨13210, -8200, 99500⟩⟩ ∧
    testing.bcu.loadTimer ≠ none ∧ ChargerSound testing ∧ testing.lnk.reception = none ∧ QueueSound
    fullQueue ∧ fullQueue.txq.entries.all (fun e => !e.isBattery) = true ∧ QueueSound (withBattery
    false) ∧ QueueSound (withBattery true) ∧ (withBattery true).txq.entries.all (fun e => e.isBattery &&
    e.inFlight) = true ∧ (withBattery false).txq.entries.all (fun e => e.isBattery && !e.inFlight) =
    true := by
  refine ⟨(by unfold Calm Settled; decide +kernel), (by unfold ChargerSound; decide +kernel),
    (by decide +kernel), (by unfold Calm Settled; decide +kernel),
    (by unfold ChargerSound; decide +kernel), (by unfold Calm Settled; decide +kernel),
    (by decide +kernel), (by decide +kernel), (by unfold ChargerSound; decide +kernel),
    (by decide +kernel), (by unfold QueueSound before; decide +kernel), (by decide +kernel),
    (by unfold QueueSound before; decide +kernel), (by unfold QueueSound before; decide +kernel),
    (by decide +kernel), (by decide +kernel)⟩

/-- A station in CUTOFF. -/
def deaf : State :=
  { rest with bcu := { rest.bcu with cls := some .cutoff }, lnk := { rest.lnk with power := .off } }

/-- Two bytes of a frame. -/
def halfHeard : Reception := ⟨[0x01, 0x1B], 2, ⟨99990, 5⟩⟩

/-- A station in ECONOMY with its window open or closed, and a reception in progress or none. -/
def cycling (isOpen : Bool) (gap : Option Timer) : State :=
  { rest with
    bcu := { rest.bcu with cls := some .economy },
    lnk := { rest.lnk with
      power := .duty, cycle := some ⟨isOpen, 99750⟩, reception := gap.map fun _ => halfHeard } }

/-- A reception held beyond its window. -/
def held : State :=
  { cycling false (some ⟨99990, 5⟩) with
    lnk := { (cycling false (some ⟨99990, 5⟩)).lnk with holdLimit := some ⟨99990, 70⟩ } }

/-- A station that listens, one that does not, and the parts of a listen cycle. -/
theorem witness_listening :
    Calm rest ∧ rest.lnk.listenEnable = true ∧ Calm deaf ∧ deaf.lnk.listenEnable = false ∧ Calm (cycling
    true none) ∧ (cycling true none).lnk.cycle = some ⟨true, 99750⟩ ∧ Calm (cycling false none) ∧ Calm
    (cycling true (some ⟨99990, 5⟩)) ∧ (cycling true (some ⟨99990, 5⟩)).lnk.reception = some halfHeard ∧
    Calm held ∧ held.lnk.holdLimit ≠ none ∧ held.lnk.power ≠ .active ∧ held.lnk.access = .idle ∧
    held.lnk.cycle.any (·.windowOpen) = false ∧ held.lnk.reception = some halfHeard := by
  refine ⟨(by unfold Calm Settled; decide +kernel), (by decide +kernel),
    (by unfold Calm Settled; decide +kernel), (by decide +kernel),
    (by unfold Calm Settled; decide +kernel), (by decide +kernel),
    (by unfold Calm Settled; decide +kernel), (by unfold Calm Settled; decide +kernel),
    (by decide +kernel), (by unfold Calm Settled; decide +kernel), (by decide +kernel),
    (by decide +kernel), (by decide +kernel), (by decide +kernel), (by decide +kernel)⟩

/-- A radio warming up, with the quiet timer running. -/
def warming : State :=
  { rest with lnk := { rest.lnk with warmUp := some ⟨99980, 20⟩, quiet := some ⟨99900, 600⟩ } }

/-- A PICKUP in the queue. -/
def pickupEntry : Entry := entry (.pickup ⟨⟨Ch4.all true, Ch4.all false⟩, 0, 60, 2, 3⟩) 0 5

/-- The timers of the link running, and the life of a PICKUP in flight and not in flight. -/
theorem witness_link_timers :
    Calm warming ∧ warming.lnk.warmUp ≠ none ∧ warming.lnk.reception = none ∧ warming.lnk.quiet ≠ none ∧
    warming.lnk.link ≠ none ∧ Calm busy ∧ busy.txq.ageingPickup = some (entry (.pickup ⟨⟨Ch4.all true,
    Ch4.all false⟩, 0, 60, 2, 3⟩) 0 5) ∧ Calm (sendingState .sending { pickupEntry with inFlight := true
    }) ∧ (sendingState .sending { pickupEntry with inFlight := true }).txq.ageingPickup = some {
    pickupEntry with inFlight := true } := by
  refine ⟨(by unfold Calm Settled; decide +kernel), (by decide +kernel), (by decide +kernel),
    (by decide +kernel), (by decide +kernel), (by unfold Calm Settled; decide +kernel),
    (by decide +kernel), (by unfold Calm Settled; decide +kernel), (by decide +kernel)⟩

/-- A REQUEST_RESULT in the queue. -/
def resultEntry : Entry := entry resultContent 1 3

/-- A STATUS in the queue. -/
def statusEntry : Entry := entry (.status ⟨true, false, false, false, false, false⟩) 2 4

/-- A STATUS in SENSE with a PICKUP waiting. -/
def preempted : State :=
  { sendingState .sense statusEntry with
    txq := { rest.txq with entries := [pickupEntry, statusEntry] } }

/-- A selected entry in GAP, in BACKOFF and in SENSE, with a draw that is not 0, and one that a priority-0 frame waits behind. -/
theorem witness_access :
    Calm (sendingState .gap resultEntry) ∧ QueueSound (sendingState .gap resultEntry) ∧ (sendingState
    .gap resultEntry).lnk.reception = none ∧ (sendingState .gap resultEntry).selectedEntry = some
    resultEntry ∧ Calm (sendingState .backoff resultEntry) ∧ Calm (sendingState .sense resultEntry) ∧
    (sendingState .sense resultEntry).selectedEntry = some resultEntry ∧ (rngNext (sendingState .sense
    resultEntry).lnk.rng).toNat % 2 ^ min (resultEntry.attempts + 2) 6 ≠ 0 ∧ Calm preempted ∧
    preempted.selectedEntry = some statusEntry ∧ 2 ≤ statusEntry.priority ∧ preempted.txq.entries.any
    (fun x => x.priority = 0) = true := by
  refine ⟨(by unfold Calm Settled; decide +kernel), (by unfold QueueSound before; decide +kernel),
    (by decide +kernel), (by decide +kernel), (by unfold Calm Settled; decide +kernel),
    (by unfold Calm Settled; decide +kernel), (by decide +kernel), (by decide +kernel),
    (by unfold Calm Settled; decide +kernel), (by decide +kernel), (by decide +kernel),
    (by decide +kernel)⟩

/-- One entry in flight, with or without a collision. -/
def inFlight (e : Entry) (collide : Bool) : State :=
  { sendingState .sending { e with inFlight := true } with
    lnk := { (sendingState .sending { e with inFlight := true }).lnk with collide := collide } }

/-- A collided send of priority 2 with the quiet timer running. -/
def quieted : State :=
  { inFlight { resultEntry with priority := 2 } true with
    lnk := { (inFlight { resultEntry with priority := 2 } true).lnk with quiet := some ⟨99900, 600⟩ } }

/-- A STATUS in flight with reasons owed. -/
def owing : State :=
  { inFlight statusEntry false with
    txq := { rest.txq with
      entries := [{ statusEntry with inFlight := true }],
      owed := some ⟨false, false, true, false, false, false⟩ } }

/-- A running status period. -/
def periodic : State := { rest with txq := { rest.txq with period := some ⟨40000, 60000⟩ } }

/-- Sends that end clean, at the attempt limit, under the quiet timer, and with a backoff; a STATUS with reasons owed; a running period. -/
theorem witness_sends :
    Calm (inFlight resultEntry false) ∧ (inFlight resultEntry false).selectedEntry = some { resultEntry
    with inFlight := true } ∧ (inFlight resultEntry false).lnk.pendingPower = none ∧ Calm (inFlight {
    resultEntry with attempts := 4 } true) ∧ Calm quieted ∧ quieted.lnk.quiet ≠ none ∧ Calm (inFlight
    resultEntry true) ∧ (rngNext (inFlight resultEntry true).lnk.rng).toNat % 2 ^ 3 ≠ 0 ∧ Calm owing ∧
    QueueSound owing ∧ owing.selectedEntry = some { statusEntry with inFlight := true } ∧ owing.txq.owed
    ≠ none ∧ Calm periodic ∧ QueueSound periodic ∧ periodic.txq.period ≠ none ∧
    periodic.txq.entries.length < 8 ∧ RadioSound (inFlight resultEntry false) ∧ QueueSound (inFlight
    resultEntry false) ∧ QueueSound preempted ∧ preempted.txq.entries.any (fun x => x.isStatus &&
    !x.inFlight) = true ∧ owing.txq.entries.any (fun x => x.isStatus && x.inFlight) = true := by
  refine ⟨(by unfold Calm Settled; decide +kernel), (by decide +kernel), (by decide +kernel),
    (by unfold Calm Settled; decide +kernel), (by unfold Calm Settled; decide +kernel),
    (by decide +kernel), (by unfold Calm Settled; decide +kernel), (by decide +kernel),
    (by unfold Calm Settled; decide +kernel), (by unfold QueueSound before; decide +kernel),
    (by decide +kernel), (by decide +kernel), (by unfold Calm Settled; decide +kernel),
    (by unfold QueueSound before; decide +kernel), (by decide +kernel), (by decide +kernel),
    (by unfold RadioSound; decide +kernel), (by unfold QueueSound before; decide +kernel),
    (by unfold QueueSound before; decide +kernel), (by decide +kernel), (by decide +kernel)⟩

/-- A frame of each class that is not ACCEPTED. -/
theorem witness_rejected :
    Plain (hearing [1, 2]) ∧ (hearing [1, 2]).classOf (ended [1, 2]) = .runt ∧ (hearing (0x10 :: 0x41 ::
    List.replicate 20 0)).classOf (ended (0x10 :: 0x41 :: List.replicate 20 0)) = .long ∧ (hearing
    ((request 77 .trip).set 5 0xFF)).classOf (ended ((request 77 .trip).set 5 0xFF)) = .badCrc ∧
    (hearing (frameBytes 5 0x4321 6 [0, 77, 4, 0])).classOf (ended (frameBytes 5 0x4321 6 [0, 77, 4,
    0])) = .foreign ∧ (hearing (frameBytes 9 0x1234 6 [0])).classOf (ended (frameBytes 9 0x1234 6 [0]))
    = .unknown ∧ (hearing (frameBytes 5 0x1234 3 [0, 77, 4, 0])).classOf (ended (frameBytes 5 0x1234 3
    [0, 77, 4, 0])) = .clash := by
  refine ⟨(by unfold Plain Calm Settled; decide +kernel), (by decide +kernel), (by decide +kernel),
    (by decide +kernel), (by decide +kernel), (by decide +kernel), (by decide +kernel)⟩

/-- A frame of each kind of a peer, at a station with room in its table. -/
theorem witness_peer_frames :
    Plain (hearing peerStatus) ∧ (hearing peerStatus).pvt.length < 12 ∧ FrameArrives (hearing
    peerStatus) (.status 6 ⟨⟨2, 3⟩, .none, some .closed, none, some .closed, ⟨[], false⟩⟩) (ended
    peerStatus) [] ∧ FrameArrives (hearing (frameBytes 3 0x1234 6 [2, 0, 0, 0, 9, 4, 1, 0, 1]))
    (.seqEvent 6 ⟨.deadTime, some .dead, none, some .opened⟩) (ended (frameBytes 3 0x1234 6 [2, 0, 0, 0,
    9, 4, 1, 0, 1])) [] ∧ FrameArrives (hearing (frameBytes 4 0x1234 6 [2, 0])) (.tagNotice 6 ⟨[⟨0,
    .hotline, .station⟩], false⟩) (ended (frameBytes 4 0x1234 6 [2, 0])) [] ∧ FrameArrives (hearing
    (frameBytes 5 0x1234 6 [0, 77, 4, 0])) (.report 6) (ended (frameBytes 5 0x1234 6 [0, 77, 4, 0])) []
    ∧ FrameArrives (hearing (frameBytes 2 0x1234 6 [1, 0, 60, 3, 4])) (.pickup 6 ⟨3, 4⟩ 60) (ended
    (frameBytes 2 0x1234 6 [1, 0, 60, 3, 4])) [] ∧ (hearing (frameBytes 2 0x1234 6 [1, 0, 60, 3,
    4])).lnk.access = .idle ∧ remaining (ended (frameBytes 2 0x1234 6 [1, 0, 60, 3, 4])).arrival none <
    10 * 60 := by
  refine ⟨(by unfold Plain Calm Settled; decide +kernel), (by decide +kernel),
    (by unfold FrameArrives; decide +kernel), (by unfold FrameArrives; decide +kernel),
    (by unfold FrameArrives; decide +kernel), (by unfold FrameArrives; decide +kernel),
    (by unfold FrameArrives; decide +kernel), (by decide +kernel), (by decide +kernel)⟩

/-- A full table without station 6, and a STATUS of station 6. -/
def crowded (heard : Uptime) : State :=
  { hearing peerStatus with
    pvt := [1, 2, 4, 5, 7, 8, 9, 10, 11, 12, 13, 14].map fun n => { peer n with lastHeard := heard } }

/-- The same table, and a PICKUP of station 6. -/
def crowdedByPickup : State :=
  { crowded 99950 with transit := ⟨[], [ended (frameBytes 2 0x1234 6 [1, 0, 60, 3, 4])]⟩ }

/-- A midpoint in TIMING, and a STATUS of its feeding peer. -/
def midpointHearing : State := { midpoint with transit := ⟨[], [ended peerStatus]⟩ }

/-- A STATUS of an unknown station at a full table: refused when every entry is FRESH, and taken when one is SILENT. -/
theorem witness_unknown_station :
    Plain (crowded 99950) ∧ FrameArrives (crowded 99950) (.status 6 ⟨⟨2, 3⟩, .none, some .closed, none,
    some .closed, ⟨[], false⟩⟩) (ended peerStatus) [] ∧ (crowded 99950).pvt.length = 12 ∧ (crowded
    99950).pvt.all (fun e => e.id ≠ 6) = true ∧ ((crowded 4294667000).evictedPeer true).isSome = true ∧
    ((carries 99990 (.status 6 ⟨⟨2, 3⟩, .none, some .closed, none, some .closed, ⟨[], false⟩⟩)).map fun
    p => (p.1, p.2.1)) = some (.receiveStatus, 6) ∧ Plain crowdedByPickup ∧ FrameArrives crowdedByPickup
    (.pickup 6 ⟨3, 4⟩ 60) (ended (frameBytes 2 0x1234 6 [1, 0, 60, 3, 4])) [] ∧
    crowdedByPickup.pvt.length = 12 ∧ Calm midpointHearing ∧ midpointHearing.pvt.length < 12 ∧
    FrameArrives midpointHearing (.status 6 ⟨⟨2, 3⟩, .none, some .closed, none, some .closed, ⟨[],
    false⟩⟩) (ended peerStatus) [] := by
  refine ⟨(by unfold Plain Calm Settled; decide +kernel), (by unfold FrameArrives; decide +kernel),
    (by decide +kernel), (by decide +kernel), (by decide +kernel), (by decide +kernel),
    (by unfold Plain Calm Settled; decide +kernel), (by unfold FrameArrives; decide +kernel),
    (by decide +kernel), (by unfold Calm Settled; decide +kernel), (by decide +kernel),
    (by unfold FrameArrives; decide +kernel)⟩

/-- Four tags of other crews, and a TAG_PLACE of crew 77. -/
def fourTags : State :=
  { hearing (request 77 .tagPlace) with
    rtm := Rtm.written { rest.rtm.items with tags := [1, 2, 3, 4095].map fun n => ⟨n, .hold, .segment 31⟩ } }

/-- A TAG_PLACE in a dead time. -/
def deadTagged : State := { deadTimeState with transit := ⟨[], [ended (request 77 .tagPlace)]⟩ }

/-- TAG_PLACE of crew 0, of a new crew, repeated, changing a record, meeting a full list, and in a dead time; TAG_REMOVE and CLEAR_UNKNOWN. -/
theorem witness_tag_requests :
    Plain (hearing (request 77 .tagPlace)) ∧ TagsSound (hearing (request 77 .tagPlace)) ∧ RequestArrives
    (hearing (request 77 .tagPlace)) .tagPlace (asked 77 .tagPlace) (ended (request 77 .tagPlace)) [] ∧
    RequestArrives (hearing (request 0 .tagPlace)) .tagPlace (asked 0 .tagPlace) (ended (request 0
    .tagPlace)) [] ∧ Plain (tagged (hearing (request 77 .tagPlace))) ∧ TagsSound (tagged (hearing
    (request 77 .tagPlace))) ∧ (tagged (hearing (request 77 .tagPlace))).rtm.items.tags = [⟨77, .hold,
    .station⟩] ∧ Plain fourTags ∧ TagsSound fourTags ∧ fourTags.rtm.items.tags.length = 4 ∧ Plain
    deadTagged ∧ Indifferent deadTagged ∧ deadTagged.tagHold = false ∧ Waiting deadTagged ∧ Calm (tagged
    (hearing (request 77 .tagRemove))) ∧ RequestArrives (tagged (hearing (request 77 .tagRemove)))
    .tagRemove (asked 77 .tagRemove) (ended (request 77 .tagRemove)) [] ∧ RequestArrives (hearing
    (request 77 .clearUnknown)) .clearUnknown (asked 77 .clearUnknown) (ended (request 77
    .clearUnknown)) [] := by
  refine ⟨(by unfold Plain Calm Settled; decide +kernel), (by unfold TagsSound TagSound; decide +kernel),
    (by unfold RequestArrives; decide +kernel), (by unfold RequestArrives; decide +kernel),
    (by unfold Plain Calm Settled; decide +kernel), (by unfold TagsSound TagSound; decide +kernel),
    (by decide +kernel), (by unfold Plain Calm Settled; decide +kernel),
    (by unfold TagsSound TagSound; decide +kernel), (by decide +kernel),
    (by unfold Plain Calm Settled; decide +kernel), (by unfold Indifferent; decide +kernel),
    (by decide +kernel), (by unfold Waiting; decide +kernel),
    (by unfold Calm Settled; decide +kernel), (by unfold RequestArrives; decide +kernel),
    (by unfold RequestArrives; decide +kernel)⟩

/-- The switch not yet read. -/
def unreadSwitch : State := { rest with tgt := Tgt.start }

/-- The HOTLINE switch before its first reading, off, on, and off in a dead time; the acknowledgement timer running. -/
theorem witness_hotline :
    Plain unreadSwitch ∧ Indifferent unreadSwitch ∧ unreadSwitch.tgt.hotlineRead = false ∧ Plain rest ∧
    rest.tgt.hotlineRead = true ∧ rest.tgt.hotlineOn = false ∧ ¬(rest.tagHold = false ∧ Waiting rest) ∧
    Plain deadTimeState ∧ deadTimeState.tgt.hotlineRead = true ∧ deadTimeState.tagHold = false ∧ Waiting
    deadTimeState ∧ Plain acknowledging ∧ acknowledging.tgt.hotlineOn = true ∧
    acknowledging.tgt.ackTimer ≠ none := by
  refine ⟨(by unfold Plain Calm Settled; decide +kernel), (by unfold Indifferent; decide +kernel),
    (by decide +kernel), (by unfold Plain Calm Settled; decide +kernel), (by decide +kernel),
    (by decide +kernel), (by decide +kernel), (by unfold Plain Calm Settled; decide +kernel),
    (by decide +kernel), (by decide +kernel), (by unfold Waiting; decide +kernel),
    (by unfold Plain Calm Settled; decide +kernel), (by decide +kernel), (by decide +kernel)⟩

/-- A sequence state with a crew request heard. -/
def hearingIn (st : SeqState) (k : RequestKind) : State :=
  { restIn st none with transit := ⟨[], [ended (request 77 k)]⟩ }

/-- Crew TRIP in CLOSED, in a dead time and in LOCKOUT; crew CLOSE; STATUS_NOW; a request for another station. -/
theorem witness_crew_operations :
    Plain (hearing (request 77 .trip)) ∧ Indifferent (hearing (request 77 .trip)) ∧ (hearing (request 77
    .trip)).sfe.latest = some record ∧ MayTrip (hearing (request 77 .trip)) ∧ RequestArrives (hearing
    (request 77 .trip)) .trip (asked 77 .trip) (ended (request 77 .trip)) [] ∧ Plain (hearingIn .dead
    .trip) ∧ RequestArrives (hearingIn .dead .trip) .trip (asked 77 .trip) (ended (request 77 .trip)) []
    ∧ Plain (hearingIn .lockout .trip) ∧ Plain (hearingIn .stuck .trip) ∧ (hearingIn .stuck
    .trip).mdu.tripping = false ∧ (hearingIn .stuck .trip).sqc.stuckAttempt = false ∧ Plain (hearingIn
    .lockout .close) ∧ (hearingIn .lockout .close).mdu.op = .idle ∧ RequestArrives (hearingIn .lockout
    .close) .close (asked 77 .close) (ended (request 77 .close)) [] ∧ RequestArrives (hearing (request
    77 .statusNow)) .statusNow (asked 77 .statusNow) (ended (request 77 .statusNow)) [] ∧ FrameArrives
    (hearing (frameBytes 0x10 0x1234 128 [0, 77, 4, 5, 0])) (.request ⟨77, .trip, .station 5, .hold⟩)
    (ended (frameBytes 0x10 0x1234 128 [0, 77, 4, 5, 0])) [] ∧ (⟨77, .trip, .station 5, .hold⟩ :
    CrewRequest).actedOn settings = false := by
  refine ⟨(by unfold Plain Calm Settled; decide +kernel), (by unfold Indifferent; decide +kernel),
    (by decide +kernel), (by unfold MayTrip; decide +kernel),
    (by unfold RequestArrives; decide +kernel), (by unfold Plain Calm Settled; decide +kernel),
    (by unfold RequestArrives; decide +kernel), (by unfold Plain Calm Settled; decide +kernel),
    (by unfold Plain Calm Settled; decide +kernel), (by decide +kernel), (by decide +kernel),
    (by unfold Plain Calm Settled; decide +kernel), (by decide +kernel),
    (by unfold RequestArrives; decide +kernel), (by unfold RequestArrives; decide +kernel),
    (by unfold FrameArrives; decide +kernel), (by decide +kernel)⟩

/-- A tie that waits for its close store. -/
def storeWaiting : State :=
  { storeless (tie .up .lockout .restoreOpen) with
    rsl := { (tie .up .lockout .restoreOpen).rsl with expired := true, storeWait := some ⟨95000, 10000⟩ } }

/-- A tie in INHIBITED(STORE) with both sides LIVE. -/
def inhibitedTie : State :=
  { tie .up .lockout .restoreOpen with
    sfe := rest.sfe, rsl := { Rsl.start with state := .inhibited .store } }

/-- A midpoint whose answer opens and one whose answer is silence; a tie for each finding; a store wait; an INHIBITED tie. -/
theorem witness_restoration :
    Calm midpoint ∧ midpoint.rsl.timer ≠ none ∧ midpoint.mdu.tripping = false ∧ midpoint.bcu.test = none
    ∧ midpoint.feedingPeer 2 = .fresh (feeder 2 .lockout .protection) ∧ ({ midpoint with pvt := [] } :
    State).feedingPeer 2 = .absent ∧ Calm (tie .up .lockout .protection) ∧ (tie .up .lockout
    .protection).rsl.timer ≠ none ∧ (tie .up .lockout .protection).feedingPeer 2 = .fresh (feeder 2
    .lockout .protection) ∧ Calm (tie .dn .closed .restart) ∧ (tie .dn .closed .restart).feedingPeer 3 =
    .fresh (feeder 3 .closed .restart) ∧ Calm (tie .up .lockout .restoreOpen) ∧ (tie .up .lockout
    .restoreOpen).tagHold = false ∧ (tie .up .lockout .restoreOpen).taggingPeers 2 = [] ∧ Calm (tagged
    (tie .up .lockout .restoreOpen)) ∧ Calm storeWaiting ∧ storeWaiting.rsl.storeWait ≠ none ∧
    storeWaiting.stl.image.role = .tie ∧ Calm inhibitedTie ∧ inhibitedTie.rsl.state = .inhibited .store
    ∧ inhibitedTie.sfe.vs.state = .live ∧ inhibitedTie.sfe.vl.state = .live := by
  refine ⟨(by unfold Calm Settled; decide +kernel), (by decide +kernel), (by decide +kernel),
    (by decide +kernel), (by decide +kernel), (by decide +kernel),
    (by unfold Calm Settled; decide +kernel), (by decide +kernel), (by decide +kernel),
    (by unfold Calm Settled; decide +kernel), (by decide +kernel),
    (by unfold Calm Settled; decide +kernel), (by decide +kernel), (by decide +kernel),
    (by unfold Calm Settled; decide +kernel), (by unfold Calm Settled; decide +kernel),
    (by decide +kernel), (by decide +kernel), (by unfold Calm Settled; decide +kernel),
    (by decide +kernel), (by decide +kernel), (by decide +kernel)⟩

/-- A midpoint in TIMING with a hand-off on its way. -/
def midpointWith (r : Report) : State := { midpoint with transit := ⟨[r], []⟩ }

/-- A test in progress, and a trip request. -/
def testingTripped : State := { testing with transit := ⟨[trip], []⟩ }

/-- A state at a midpoint in OPENED. -/
def openedAs (s : State) : State :=
  { s with
    stl := { s.stl with image := { settings with role := .midpoint } },
    rsl := { s.rsl with state := .opened } }

/-- A state at a tie in RESTORED. -/
def restoredAs (s : State) : State :=
  { s with
    stl := { s.stl with image := { settings with role := .tie } },
    rsl := { s.rsl with state := .restored } }

/-- Each event of the sequence at a midpoint or a tie, and beside a test; the close store becoming READY in ENERGY_WAIT and in a store wait. -/
theorem witness_any_station :
    Calm (midpointWith trip) ∧ MayTrip (midpointWith trip) ∧ (midpointWith trip).sqc.shot <
    (midpointWith trip).stl.image.l ∧ takeReport Report.asTrip (midpointWith trip).transit.reports =
    some (tripRequest, []) ∧ Calm testingTripped ∧ MayTrip testingTripped ∧ testingTripped.bcu.test ≠
    none ∧ Calm (openedAs (opening .restoreOpen 0)) ∧ (openedAs (opening .restoreOpen 0)).sqc.opCause =
    some .restoreOpen ∧ takeReport Report.asOpen (openedAs (opening .restoreOpen 0)).transit.reports =
    some (29, []) ∧ Calm (restoredAs (opening .protection 1)) ∧ (restoredAs (opening .protection
    1)).rsl.state = .restored ∧ Calm (restoredAs (closingWith .closeConfirmation)) ∧ Calm (restoredAs
    (closingWith .closeFail)) ∧ Calm (openedAs (handing .tripping .tripFail)) ∧ Calm (midpointWith
    .positionFault) ∧ Calm (midpointWith (.unsolicitedOpen false)) ∧ takeReport Report.asUnsolicitedOpen
    (midpointWith (.unsolicitedOpen false)).transit.reports = some (false, []) ∧ Calm (openedAs (handing
    .lockout .unsolicitedClose)) ∧ Calm (restoredAs reclaimingState) ∧ (restoredAs
    reclaimingState).sqc.reclaimTimer ≠ none ∧ (restoredAs reclaimingState).sfe.vs.state ≠ .dead ∧
    midpoint.sfe.latest = some record ∧ MayTrip midpoint ∧ Calm (openedAs (restIn .lockout (some
    .manual))) ∧ (openedAs (restIn .lockout (some .manual))).mdu.close.state = .ready ∧ Calm (storeless
    ewaiting) ∧ StoresSound (storeless ewaiting) ∧ (storeless ewaiting).mdu.close.ready ≠ some true ∧
    (storeless ewaiting).mdu.op = .idle ∧ (storeless ewaiting).rsl.storeWait = none ∧ Calm storeWaiting
    ∧ StoresSound storeWaiting ∧ storeWaiting.mdu.close.ready ≠ some true ∧ storeWaiting.rsl.expired =
    true ∧ storeWaiting.feedingPeer 2 = .fresh (feeder 2 .lockout .restoreOpen) ∧
    storeWaiting.taggingPeers 2 = [] := by
  refine ⟨(by unfold Calm Settled; decide +kernel), (by unfold MayTrip; decide +kernel),
    (by decide +kernel), (by decide +kernel), (by unfold Calm Settled; decide +kernel),
    (by unfold MayTrip; decide +kernel), (by decide +kernel),
    (by unfold Calm Settled; decide +kernel), (by decide +kernel), (by decide +kernel),
    (by unfold Calm Settled; decide +kernel), (by decide +kernel),
    (by unfold Calm Settled; decide +kernel), (by unfold Calm Settled; decide +kernel),
    (by unfold Calm Settled; decide +kernel), (by unfold Calm Settled; decide +kernel),
    (by unfold Calm Settled; decide +kernel), (by decide +kernel),
    (by unfold Calm Settled; decide +kernel), (by unfold Calm Settled; decide +kernel),
    (by decide +kernel), (by decide +kernel), (by decide +kernel),
    (by unfold MayTrip; decide +kernel), (by unfold Calm Settled; decide +kernel),
    (by decide +kernel), (by unfold Calm Settled; decide +kernel),
    (by unfold StoresSound StoreSound; decide +kernel), (by decide +kernel), (by decide +kernel),
    (by decide +kernel), (by unfold Calm Settled; decide +kernel),
    (by unfold StoresSound StoreSound; decide +kernel), (by decide +kernel), (by decide +kernel),
    (by decide +kernel), (by decide +kernel)⟩

/-- A collided STATUS with reasons owed. -/
def owingCollided : State := { owing with lnk := { owing.lnk with collide := true } }

/-- A collided STATUS with reasons owed, at its attempt limit. -/
def owingAtLimit : State :=
  { owingCollided with
    txq := { owingCollided.txq with entries := [{ statusEntry with inFlight := true, attempts := 4 }] } }

/-- A BATTERY_REPORT in the queue. -/
def batteryEntry : Entry := entry (.battery rest.batteryContent) 3 6

/-- A clean send of a BATTERY_REPORT with another pending. -/
def reportSent : State :=
  { inFlight batteryEntry false with
    txq := { (inFlight batteryEntry false).txq with
      pendingReport := some { rest.batteryContent with soc := some 12 } } }

/-- The same, collided. -/
def reportAgain : State := { reportSent with lnk := { reportSent.lnk with collide := true } }

/-- A collided PICKUP whose life is over. -/
def stalePickup : State := inFlight { pickupEntry with lifeOver := true } true

/-- A collided STATUS with a PICKUP waiting. -/
def overtaken : State :=
  { owingCollided with
    txq := { owingCollided.txq with entries := [pickupEntry, { statusEntry with inFlight := true }] } }

/-- A collided send whose backoff is of 0 slots. -/
def sensingAgain : State :=
  { inFlight resultEntry true with lnk := { (inFlight resultEntry true).lnk with rng := 0x7A70 } }

/-- Collided sends: a STATUS with reasons owed, kept and abandoned; a BATTERY_REPORT with a pending one; a stale PICKUP; a STATUS that a PICKUP waits behind; a draw of 0 slots and one that is not 0. -/
theorem witness_sends_collided :
    Calm owingCollided ∧ QueueSound owingCollided ∧ owingCollided.selectedEntry = some { statusEntry
    with inFlight := true } ∧ owingCollided.txq.owed ≠ none ∧ (rngNext owingCollided.lnk.rng).toNat % 2
    ^ 3 ≠ 0 ∧ Calm owingAtLimit ∧ QueueSound owingAtLimit ∧ owingAtLimit.selectedEntry = some {
    statusEntry with inFlight := true, attempts := 4 } ∧ (after .sendEnd owingAtLimit).txq.entries.any
    (fun x => x.order = 7 && x.attempts = 0) = true ∧ QueueSound quieted ∧ quieted.selectedEntry = some
    { resultEntry with priority := 2, inFlight := true } ∧ Calm reportAgain ∧ QueueSound reportAgain ∧
    reportAgain.selectedEntry = some { batteryEntry with inFlight := true } ∧ batteryEntry.isBattery =
    true ∧ reportAgain.txq.pendingReport ≠ none ∧ reportAgain.lnk.pendingPower = none ∧ Calm reportSent
    ∧ reportSent.lnk.collide = false ∧ reportSent.selectedEntry = some { batteryEntry with inFlight :=
    true } ∧ reportSent.lnk.pendingPower = none ∧ Calm stalePickup ∧ QueueSound stalePickup ∧
    stalePickup.selectedEntry = some { pickupEntry with inFlight := true, lifeOver := true } ∧ Calm
    overtaken ∧ QueueSound overtaken ∧ overtaken.selectedEntry = some { statusEntry with inFlight :=
    true } ∧ overtaken.txq.entries.any (fun x => x.priority = 0) = true ∧ Calm sensingAgain ∧ QueueSound
    sensingAgain ∧ (rngNext sensingAgain.lnk.rng).toNat % 2 ^ 3 = 0 ∧ sensingAgain.lnk.warmUp = none := by
  refine ⟨(by unfold Calm Settled; decide +kernel), (by unfold QueueSound before; decide +kernel),
    (by decide +kernel), (by decide +kernel), (by decide +kernel),
    (by unfold Calm Settled; decide +kernel), (by unfold QueueSound before; decide +kernel),
    (by decide +kernel), (by decide +kernel), (by unfold QueueSound before; decide +kernel),
    (by decide +kernel), (by unfold Calm Settled; decide +kernel),
    (by unfold QueueSound before; decide +kernel), (by decide +kernel), (by decide +kernel),
    (by decide +kernel), (by decide +kernel), (by unfold Calm Settled; decide +kernel),
    (by decide +kernel), (by decide +kernel), (by decide +kernel),
    (by unfold Calm Settled; decide +kernel), (by unfold QueueSound before; decide +kernel),
    (by decide +kernel), (by unfold Calm Settled; decide +kernel),
    (by unfold QueueSound before; decide +kernel), (by decide +kernel), (by decide +kernel),
    (by unfold Calm Settled; decide +kernel), (by unfold QueueSound before; decide +kernel),
    (by decide +kernel), (by decide +kernel)⟩

/-- A midpoint in WATCH before a source dead for 100 ms. -/
def deadMidpoint : State :=
  { midpoint with
    rsl := Rsl.start, pvt := [],
    sfe := { midpoint.sfe with vs := { midpoint.sfe.vs with lastChange := 99900 } } }

/-- The same, the source dead for longer than t_mid. -/
def longDead : State :=
  { deadMidpoint with
    sfe := { midpoint.sfe with vs := { midpoint.sfe.vs with lastChange := 81 } } }

/-- The same, its feeding peer locked out by protection. -/
def longDeadFaulted : State := { longDead with pvt := midpoint.pvt }

/-- A tie in WATCH with one dead side. -/
def watching (side : Side) : State := { tie side .lockout .restoreOpen with rsl := Rsl.start }

/-- The entry to TIMING: a midpoint at a second, with the age of VS below t_mid and past it; a tie at a second, and a tie whose sides have changed over. -/
theorem witness_restoration_entered :
    Calm deadMidpoint ∧ ofStart .timeBaseSecond = false ∧ (after .timeBaseSecond deadMidpoint).rsl.state
    = .timing none ∧ (after .timeBaseSecond deadMidpoint).rsl.timer = some ⟨100000, 59900⟩ ∧ Calm
    longDead ∧ (after .timeBaseSecond longDead).rsl.state = .timing none ∧ (after .timeBaseSecond
    longDead).rsl.expired = true ∧ Calm longDeadFaulted ∧ longDeadFaulted.rsl.state = .watch ∧ (after
    .timeBaseSecond longDeadFaulted).rsl.state = .opened ∧ Calm (watching .up) ∧ (after .timeBaseSecond
    (watching .up)).rsl.state = .timing (some .up) ∧ Calm (watching .dn) ∧ (after .timeBaseSecond
    (watching .dn)).rsl.state = .timing (some .dn) ∧ (after .timeBaseSecond (watching .dn)).rsl.timer =
    some ⟨100000, 120000⟩ := by
  refine ⟨(by unfold Calm Settled; decide +kernel), (by decide +kernel), (by decide +kernel),
    (by decide +kernel), (by unfold Calm Settled; decide +kernel), (by decide +kernel),
    (by decide +kernel), (by unfold Calm Settled; decide +kernel), (by decide +kernel),
    (by decide +kernel), (by unfold Calm Settled; decide +kernel), (by decide +kernel),
    (by unfold Calm Settled; decide +kernel), (by decide +kernel), (by decide +kernel)⟩

/-- A state with the expired mark set. -/
def expired (s : State) : State := { s with rsl := { s.rsl with expired := true } }

/-- A tie without a READY close store and with a t_ewait of 0. -/
def unwaiting : State :=
  { storeless (tie .up .lockout .restoreOpen) with
    stl := { rest.stl with image := { settings with role := .tie, tEwait := 0 } } }

/-- The two expiries of a tie and its checks at seconds: faulted, consent with the store READY, not READY with and without a t_ewait, a store wait in progress, no consent; a midpoint with the mark set. -/
theorem witness_restoration_checked :
    (tie .up .lockout .protection).mdu.op = .idle ∧ (tie .up .lockout .protection).rsl.storeWait = none
    ∧ Calm (tie .up .lockout .restoreOpen) ∧ (tie .up .lockout .restoreOpen).rsl.timer ≠ none ∧ (after
    .tieTimerExpiry (tie .up .lockout .restoreOpen)).rsl.state = .restored ∧ Calm (storeless (tie .up
    .lockout .restoreOpen)) ∧ (storeless (tie .up .lockout .restoreOpen)).mdu.op = .idle ∧ (after
    .tieTimerExpiry (storeless (tie .up .lockout .restoreOpen))).rsl.storeWait = some ⟨100000, 10000⟩ ∧
    Calm unwaiting ∧ unwaiting.rsl.timer ≠ none ∧ unwaiting.rsl.state = .timing (some .up) ∧
    unwaiting.mdu.op = .idle ∧ unwaiting.rsl.storeWait = none ∧ (after .tieTimerExpiry
    unwaiting).rsl.state = .inhibited .store ∧ Calm silentTie ∧ silentTie.rsl.timer ≠ none ∧
    silentTie.rsl.expired = true ∧ silentTie.mdu.op = .idle ∧ silentTie.rsl.storeWait = none ∧ Calm (tie
    .dn .closed .restart) ∧ (after .tieTimerExpiry (tie .dn .closed .restart)).rsl.timer = some ⟨100000,
    60000⟩ ∧ Calm (expired midpoint) ∧ (after .timeBaseSecond (expired midpoint)).rsl.state = .opened ∧
    Calm (expired (tie .up .lockout .protection)) ∧ (after .timeBaseSecond (expired (tie .up .lockout
    .protection))).rsl.state = .inhibited .faultedSegment ∧ Calm (expired (tie .up .lockout
    .restoreOpen)) ∧ (after .timeBaseSecond (expired (tie .up .lockout .restoreOpen))).rsl.state =
    .restored ∧ Calm (expired unwaiting) ∧ (after .timeBaseSecond (expired unwaiting)).rsl.state =
    .inhibited .store ∧ Calm storeWaiting ∧ (after .timeBaseSecond storeWaiting).rsl.storeWait = some
    ⟨95000, 10000⟩ ∧ Calm (tagged storeWaiting) ∧ (after .timeBaseSecond (tagged
    storeWaiting)).rsl.storeWait = none ∧ midpoint.rsl.expired = false ∧ (after .timeBaseSecond
    midpoint).rsl = midpoint.rsl := by
  refine ⟨(by decide +kernel), (by decide +kernel), (by unfold Calm Settled; decide +kernel),
    (by decide +kernel), (by decide +kernel), (by unfold Calm Settled; decide +kernel),
    (by decide +kernel), (by decide +kernel), (by unfold Calm Settled; decide +kernel),
    (by decide +kernel), (by decide +kernel), (by decide +kernel), (by decide +kernel),
    (by decide +kernel), (by unfold Calm Settled; decide +kernel), (by decide +kernel),
    (by decide +kernel), (by decide +kernel), (by decide +kernel),
    (by unfold Calm Settled; decide +kernel), (by decide +kernel),
    (by unfold Calm Settled; decide +kernel), (by decide +kernel),
    (by unfold Calm Settled; decide +kernel), (by decide +kernel),
    (by unfold Calm Settled; decide +kernel), (by decide +kernel),
    (by unfold Calm Settled; decide +kernel), (by decide +kernel),
    (by unfold Calm Settled; decide +kernel), (by decide +kernel),
    (by unfold Calm Settled; decide +kernel), (by decide +kernel), (by decide +kernel),
    (by decide +kernel)⟩

/-- An INHIBITED tie in DEAD with one dead side. -/
def inhibitedDead : State :=
  { tie .up .lockout .restoreOpen with
    sqc := { rest.sqc with state := some .dead }, rsl := { Rsl.start with state := .inhibited .store } }

/-- An INHIBITED tie that has heard a crew request. -/
def inhibitedHearing (k : RequestKind) : State :=
  { inhibitedTie with transit := ⟨[], [ended (request 77 k)]⟩ }

/-- The same with one dead side. -/
def halfDeadHearing : State :=
  { inhibitedHearing .statusNow with sfe := (tie .up .lockout .restoreOpen).sfe }

/-- An INHIBITED tie for each press and each request: a TRIP in DEAD that finds the entry to TIMING, presses in LOCKOUT behind a tag and with the gate open, requests in LOCKOUT, and a STATUS_NOW with both sides LIVE and with one DEAD. -/
theorem witness_restoration_rearmed :
    inhibitedTie.rsl.storeWait = none ∧ inhibitedTie.stl.image.role = .tie ∧ inhibitedTie.sqc.state =
    some .lockout ∧ inhibitedTie.tagHold = false ∧ inhibitedTie.mdu.handleDown = false ∧
    inhibitedTie.mdu.op = .idle ∧ inhibitedTie.mdu.close.state = .ready ∧ Calm (tagged inhibitedTie) ∧
    (tagged inhibitedTie).tagHold = true ∧ (tagged inhibitedTie).rsl.state = .inhibited .store ∧ Calm
    inhibitedDead ∧ Waiting inhibitedDead ∧ (after .panelTrip inhibitedDead).rsl.state = .timing (some
    .up) ∧ Calm (inhibitedHearing .trip) ∧ RequestArrives (inhibitedHearing .trip) .trip (asked 77
    .trip) (ended (request 77 .trip)) [] ∧ (inhibitedHearing .trip).lnk.reception = none ∧
    RequestArrives (inhibitedHearing .close) .close (asked 77 .close) (ended (request 77 .close)) [] ∧
    Calm (tagged (inhibitedHearing .close)) ∧ (tagged (inhibitedHearing .close)).tagHold = true ∧
    RequestArrives (tagged (inhibitedHearing .close)) .close (asked 77 .close) (ended (request 77
    .close)) [] ∧ RequestArrives (inhibitedHearing .statusNow) .statusNow (asked 77 .statusNow) (ended
    (request 77 .statusNow)) [] ∧ (after .crewStatusNow (inhibitedHearing .statusNow)).rsl.state =
    .watch ∧ Calm halfDeadHearing ∧ RequestArrives halfDeadHearing .statusNow (asked 77 .statusNow)
    (ended (request 77 .statusNow)) [] ∧ (after .crewStatusNow halfDeadHearing).rsl.state = .inhibited
    .store := by
  refine ⟨(by decide +kernel), (by decide +kernel), (by decide +kernel), (by decide +kernel),
    (by decide +kernel), (by decide +kernel), (by decide +kernel),
    (by unfold Calm Settled; decide +kernel), (by decide +kernel), (by decide +kernel),
    (by unfold Calm Settled; decide +kernel), (by unfold Waiting; decide +kernel),
    (by decide +kernel), (by unfold Calm Settled; decide +kernel),
    (by unfold RequestArrives; decide +kernel), (by decide +kernel),
    (by unfold RequestArrives; decide +kernel), (by unfold Calm Settled; decide +kernel),
    (by decide +kernel), (by unfold RequestArrives; decide +kernel),
    (by unfold RequestArrives; decide +kernel), (by decide +kernel),
    (by unfold Calm Settled; decide +kernel), (by unfold RequestArrives; decide +kernel),
    (by decide +kernel)⟩

/-- The tables of a part that is up, before a bring-up and after it; an element that rises at breakpoint 0 and one at breakpoint 2; multiples at the ends of the staircase. -/
theorem witness_rates :
    RatesSound State.reset ∧ rest.up = true ∧ RatesSound rest ∧ RatesSound { reading 95 with pending :=
    [.settingsWordRead 0] } ∧ RatesSound (after (.settingsWordRead 0) (reading 95)) ∧ rest.evaluates
    record = true ∧ (rest.evaluate record).peu.toc.ia.pickedUp = true ∧ (rest.evaluate
    record).peu.toc.ia.acc = 3277 ∧ (rest.evaluate record).peu.toc.ig.pickedUp = true ∧ min 639 (16 *
    500 / settings.gPu) = 40 ∧ (List.replicate 9 3277).length = 9 ∧ [0, 15, 16, 23, 24, 31, 32, 47,
    48].map breakpointOf = [0, 0, 0, 0, 1, 1, 2, 2, 3] ∧ [63, 64, 95, 96, 127, 128, 191, 192, 319, 320,
    639].map breakpointOf = [3, 4, 4, 5, 5, 6, 6, 7, 7, 8, 8] := by
  refine ⟨(by unfold RatesSound; decide +kernel), (by decide +kernel),
    (by unfold RatesSound; decide +kernel), (by unfold RatesSound; decide +kernel),
    (by unfold RatesSound; decide +kernel), (by decide +kernel), (by decide +kernel),
    (by decide +kernel), (by decide +kernel), (by decide +kernel), (by decide +kernel),
    (by decide +kernel), (by decide +kernel)⟩

/-- A reception for each check of the filter, at a station of id 3, with the lengths at their ends, and a request ACCEPTED. -/
theorem witness_filter :
    classify 0x1234 (some 3) ⟨[5, 8, 0x12, 0x34, 6, 0, 0], 7, 0⟩ = .runt ∧ classify 0x1234 (some 3) ⟨[5,
    7, 0x12, 0x34, 6, 0, 0, 0], 8, 0⟩ = .runt ∧ classify 0x1234 (some 3) ⟨[5, 65, 0x12, 0x34, 6, 0, 0,
    0], 8, 0⟩ = .long ∧ classify 0x1234 (some 3) ⟨[5, 9, 0x12, 0x34, 6, 0, 0, 0], 8, 0⟩ = .runt ∧
    classify 0x1234 (some 3) ⟨[5, 8, 0x12, 0x34, 6, 0, 0, 0], 8, 0⟩ = .badCrc ∧ [5, 8, 0x12, 0x34, 6, 0,
    0].length = min 64 7 ∧ (frameBytes 5 0x1234 3 [0, 77, 4, 0]).length = min 64 11 ∧ (frameBytes 5
    0x1234 3 [0, 77, 4, 0]).drop 9 = crcBytes (crc ((frameBytes 5 0x1234 3 [0, 77, 4, 0]).take 9)) ∧
    StationBody 5 [0, 77, 4, 0] ∧ ¬StationBody 9 [0] ∧ ¬StationBody 2 [1, 5, 60, 3, 4] ∧ StationBody 2
    [1, 4, 60, 3, 4] ∧ HandsetBody [0, 77, 4, 3, 9] ∧ ¬HandsetBody [0, 77, 1, 3, 2] ∧ classify 0x1234
    (some 3) (ended (frameBytes 2 0x1234 6 [1, 5, 60, 3, 4])) = .unknown ∧ classify 0x1234 (some 3)
    (ended (request 77 .trip)) = .accepted (.request (asked 77 .trip)) := by
  refine ⟨(by decide +kernel), (by decide +kernel), (by decide +kernel), (by decide +kernel),
    (by decide +kernel), (by decide +kernel), (by decide +kernel), (by decide +kernel),
    (by simp [StationBody, byteOf, pairOf]), (by simp [StationBody]),
    (by simp [StationBody, byteOf]), (by simp [StationBody, byteOf]),
    (by simp [HandsetBody, byteOf, pairOf]), (by simp [HandsetBody, byteOf, pairOf]),
    (by decide +kernel), (by decide +kernel)⟩

/-- The frame of a REQUEST_RESULT of station 6. -/
def peerReport : List Byte := frameBytes 5 0x1234 6 [0, 77, 4, 0]

/-- A state that has heard it. -/
def reported (s : State) : State := { s with transit := ⟨[], [ended peerReport]⟩ }

/-- A midpoint with the expired mark and the fallback on, in a full table that does not know station 6. -/
def crowdedAs (heard : Uptime) : State :=
  { expired midpoint with
    pvt := (crowded heard).pvt,
    stl := { rest.stl with image := { settings with role := .midpoint, fallbackVoltage := true } } }

/-- A frame of a known peer at a midpoint and at a tie with the expired mark set, a newcomer that takes the place of a SILENT one, a newcomer refused, and a frame without the mark. -/
theorem witness_notices :
    Calm (reported (expired midpoint)) ∧ FrameArrives (reported (expired midpoint)) (.report 6) (ended
    peerReport) [] ∧ (carries 99950 (.report 6)).map (fun p => (p.1, p.2.1)) = some (.receivePeerReport,
    6) ∧ (after .receivePeerReport (reported (expired midpoint))).rsl.state = .opened ∧ Calm (reported
    (expired (tie .up .lockout .restoreOpen))) ∧ (after .receivePeerReport (reported (expired (tie .up
    .lockout .restoreOpen)))).rsl.state = .restored ∧ Calm (reported (expired (tie .dn .lockout
    .protection))) ∧ (after .receivePeerReport (reported (expired (tie .dn .lockout
    .protection)))).rsl.state = .inhibited .faultedSegment ∧ Calm (reported (crowdedAs 4294667000)) ∧
    FrameArrives (reported (crowdedAs 4294667000)) (.report 6) (ended peerReport) [] ∧ (reported
    (crowdedAs 4294667000)).pvt.length = 12 ∧ ((reported (crowdedAs 4294667000)).evictedPeer
    false).isSome = true ∧ (after .receivePeerReport (reported (crowdedAs 4294667000))).rsl.state =
    .opened ∧ Calm (reported (crowdedAs 99950)) ∧ (reported (crowdedAs 99950)).evictedPeer false = none
    ∧ (after .receivePeerReport (reported (crowdedAs 99950))).rsl.state = .timing none ∧ Calm (reported
    midpoint) ∧ (after .receivePeerReport (reported midpoint)).rsl.state = .timing none := by
  refine ⟨(by unfold Calm Settled; decide +kernel), (by unfold FrameArrives; decide +kernel),
    (by decide +kernel), (by decide +kernel), (by unfold Calm Settled; decide +kernel),
    (by decide +kernel), (by unfold Calm Settled; decide +kernel), (by decide +kernel),
    (by unfold Calm Settled; decide +kernel), (by unfold FrameArrives; decide +kernel),
    (by decide +kernel), (by decide +kernel), (by decide +kernel),
    (by unfold Calm Settled; decide +kernel), (by decide +kernel), (by decide +kernel),
    (by unfold Calm Settled; decide +kernel), (by decide +kernel)⟩

/-- A state in PROTECT_ONLY. -/
def protecting (s : State) : State :=
  { s with
    bcu := { s.bcu with cls := some .protectOnly, soc := some 35 },
    lnk := { s.lnk with power := .sparse } }

/-- A state with the close store empty and without the charger. -/
def emptied (s : State) : State :=
  { s with mdu := { s.mdu with close := ⟨.empty, some false, false, none, none⟩ } }

/-- At a tie, in RESTORED or in PROTECT_ONLY: the dead time over with the store charged and not, the energy wait over, a close demand, a step at a midpoint in TIMING, the switch and HANDLE in a dead time. -/
theorem witness_dead_states :
    Calm (restoredAs deadTimeState) ∧ deadTimeState.sqc.deadTimer ≠ none ∧ deadTimeState.mdu.op = .idle
    ∧ deadTimeState.sqc.demandTimer = none ∧ Calm (protecting (emptied (restoredAs deadTimeState))) ∧
    (after .deadTimerExpiry (protecting (emptied (restoredAs deadTimeState)))).mdu.close.enable = true ∧
    (after .deadTimerExpiry (tagged (restoredAs deadTimeState))).rsl.state = .inhibited .afterRestore ∧
    Calm (tagged (restoredAs deadTimeState)) ∧ Calm (protecting (storeless ewaiting)) ∧ (after
    .energyWaitExpiry (protecting (storeless ewaiting))).sqc.state = some .lockout ∧ Calm (protecting
    (demandStarted (storeless (restIn .lockout (some .manual))))) ∧ (demandStarted rest).sqc.demandTimer
    ≠ none ∧ (after .closeDemandExpiry (protecting (demandStarted (storeless (restIn .lockout (some
    .manual)))))).mdu.close.enable = false ∧ Calm (midpointWith (.sequenceStep 99990)) ∧ takeReport
    Report.asStep (midpointWith (.sequenceStep 99990)).transit.reports = some (99990, []) ∧
    (midpointWith (.sequenceStep 99990)).sqc.shot + 1 < (midpointWith (.sequenceStep 99990)).effectiveL
    ∧ (after .sequenceStep (midpointWith (.sequenceStep 99990))).rsl.state = .watch ∧ (after
    (.nonrecloseChange true) (restoredAs deadTimeState)).sqc.state = some .lockout ∧ (after
    (.handleChange true) (restoredAs deadTimeState)).sqc.state = some .lockout := by
  refine ⟨(by unfold Calm Settled; decide +kernel), (by decide +kernel), (by decide +kernel),
    (by decide +kernel), (by unfold Calm Settled; decide +kernel), (by decide +kernel),
    (by decide +kernel), (by unfold Calm Settled; decide +kernel),
    (by unfold Calm Settled; decide +kernel), (by decide +kernel),
    (by unfold Calm Settled; decide +kernel), (by decide +kernel), (by decide +kernel),
    (by unfold Calm Settled; decide +kernel), (by decide +kernel), (by decide +kernel),
    (by decide +kernel), (by decide +kernel), (by decide +kernel)⟩

/-- A tie in LOCKOUT and PROTECT_ONLY with its close store empty, and a crew CLOSE heard. -/
def refused : State :=
  protecting (emptied
    { hearingIn .lockout .close with stl := { rest.stl with image := { settings with role := .tie } } })

/-- At a tie or a midpoint, in PROTECT_ONLY: a TRIP in a dead time, in STUCK and ignored; a CLOSE refused for its store alone, at the panel and of a crew; a crew TRIP. -/
theorem witness_presses :
    Calm (restoredAs deadTimeState) ∧ (restoredAs deadTimeState).sfe.latest = some record ∧ Waiting
    (restoredAs deadTimeState) ∧ Calm (openedAs (restIn .stuck (some .position))) ∧ (openedAs (restIn
    .stuck (some .position))).mdu.tripping = false ∧ Calm (openedAs (restIn .lockout (some .manual))) ∧
    Calm refused ∧ refused.mdu.op = .idle ∧ refused.sfe.latest = some record ∧ refused.sqc.state = some
    .lockout ∧ (after .panelClose refused).mdu.close.enable = true ∧ (after .panelClose
    refused).sqc.demandTimer = some ⟨100000, 60000⟩ ∧ RequestArrives refused .close (asked 77 .close)
    (ended (request 77 .close)) [] ∧ (after .crewClose refused).sqc.demandTimer = some ⟨100000, 60000⟩ ∧
    Calm (restoredAs (hearingIn .dead .trip)) ∧ RequestArrives (restoredAs (hearingIn .dead .trip))
    .trip (asked 77 .trip) (ended (request 77 .trip)) [] ∧ Calm (protecting (restoredAs (hearingIn
    .reclaim .trip))) ∧ MayTrip (protecting (restoredAs (hearingIn .reclaim .trip))) ∧ Calm (openedAs
    (hearingIn .stuck .trip)) ∧ Calm (openedAs (hearingIn .lockout .trip)) := by
  refine ⟨(by unfold Calm Settled; decide +kernel), (by decide +kernel),
    (by unfold Waiting; decide +kernel), (by unfold Calm Settled; decide +kernel),
    (by decide +kernel), (by unfold Calm Settled; decide +kernel),
    (by unfold Calm Settled; decide +kernel), (by decide +kernel), (by decide +kernel),
    (by decide +kernel), (by decide +kernel), (by decide +kernel),
    (by unfold RequestArrives; decide +kernel), (by decide +kernel),
    (by unfold Calm Settled; decide +kernel), (by unfold RequestArrives; decide +kernel),
    (by unfold Calm Settled; decide +kernel), (by unfold MayTrip; decide +kernel),
    (by unfold Calm Settled; decide +kernel), (by unfold Calm Settled; decide +kernel)⟩

/-- W/2 samples used, with 500 counts on every channel. -/
def halved (s : State) : State :=
  { s with sfe := { s.sfe with halfCount := 24, ac := Ch6.all ⟨0, 6000000, 6000000, false⟩ } }

/-- The same with an element near its trip. -/
def halfCycle : State := halved elements

/-- W/2 samples used with an element near its trip, from rest, and beside a test. -/
theorem witness_update_of_half_cycle :
    Calm halfCycle ∧ halfCycle.stl.tables.w / 2 ≤ halfCycle.sfe.halfCount ∧ (after .halfCycleUpdate
    halfCycle).peu.outstanding = true ∧ (after .halfCycleUpdate halfCycle).transit.reports.length = 1 ∧
    Calm (halved rest) ∧ (halved rest).bcu.test = none ∧ (halved rest).lnk.reception = none ∧ (after
    .halfCycleUpdate (halved rest)).txq.entries.any (·.isPickup) = true ∧ Calm (halved testing) ∧
    testing.bcu.test ≠ none := by
  refine ⟨(by unfold Calm Settled; decide +kernel), (by decide +kernel), (by decide +kernel),
    (by decide +kernel), (by unfold Calm Settled; decide +kernel), (by decide +kernel),
    (by decide +kernel), (by decide +kernel), (by unfold Calm Settled; decide +kernel),
    (by decide +kernel)⟩

/-- A state at the end of the 30th day since a test. -/
def thirtieth (s : State) : State :=
  { s with
    bcu := { s.bcu with daySeconds := 86400 },
    rtm := Rtm.written { s.rtm.items with daysSinceTest := 29 } }

/-- A rollover at which a scheduled test falls due: with the preconditions held, without supply, and in a test. -/
theorem witness_test_falls_due :
    Calm (thirtieth rest) ∧ 86400 ≤ (thirtieth rest).bcu.daySeconds ∧ (thirtieth rest).bcu.testDue =
    false ∧ (thirtieth rest).bcu.latestMean = some ⟨13620, 120, 99500⟩ ∧ (thirtieth
    rest).stl.image.testInterval ≤ min 65535 ((thirtieth rest).rtm.items.daysSinceTest + 1) ∧
    TestMayBegin (thirtieth rest) ∧ (after .dayRollover (thirtieth rest)).bcu.test = some ⟨.scheduled,
    13620, 100000, some ⟨13620, 120, 99500⟩⟩ ∧ Calm (thirtieth unsupplied) ∧ (thirtieth
    unsupplied).bcu.latestMean = some ⟨13620, 120, 99500⟩ ∧ (after .dayRollover (thirtieth
    unsupplied)).bcu.retryTimer = some ⟨100000, 60000⟩ ∧ Calm (thirtieth testing) ∧ (thirtieth
    testing).bcu.latestMean = some ⟨13620, 120, 99500⟩ ∧ (after .dayRollover (thirtieth
    testing)).bcu.retryTimer = some ⟨100000, 60000⟩ := by
  refine ⟨(by unfold Calm Settled; decide +kernel), (by decide +kernel), (by decide +kernel),
    (by decide +kernel), (by decide +kernel), (by decide +kernel), (by decide +kernel),
    (by unfold Calm Settled; decide +kernel), (by decide +kernel), (by decide +kernel),
    (by unfold Calm Settled; decide +kernel), (by decide +kernel), (by decide +kernel)⟩

/-- A state that has heard a BATTERY_TEST. -/
def testAsked (s : State) : State := { s with transit := ⟨[], [ended (request 77 .batteryTest)]⟩ }

/-- A crew BATTERY_TEST beside a running test, and at a tie. -/
theorem witness_crew_test :
    Calm (testAsked testing) ∧ (testAsked testing).lnk.reception = none ∧ (testAsked testing).bcu.test ≠
    none ∧ (testAsked testing).bcu.latestMean = some ⟨13620, 120, 99500⟩ ∧ RequestArrives (testAsked
    testing) .batteryTest (asked 77 .batteryTest) (ended (request 77 .batteryTest)) [] ∧ Calm (testAsked
    inhibitedTie) ∧ (testAsked inhibitedTie).lnk.reception = none ∧ RequestArrives (testAsked
    inhibitedTie) .batteryTest (asked 77 .batteryTest) (ended (request 77 .batteryTest)) [] := by
  refine ⟨(by unfold Calm Settled; decide +kernel), (by decide +kernel), (by decide +kernel),
    (by decide +kernel), (by unfold RequestArrives; decide +kernel),
    (by unfold Calm Settled; decide +kernel), (by decide +kernel),
    (by unfold RequestArrives; decide +kernel)⟩

/-- A PICKUP at its first attempt in SENSE: its backoff is of 0 slots, and it is sent. -/
theorem witness_deferral_at_once :
    Calm (sendingState .sense pickupEntry) ∧ (sendingState .sense pickupEntry).selectedEntry = some
    pickupEntry ∧ pickupEntry.priority = 0 ∧ pickupEntry.attempts = 0 ∧ (after (.busyChange false)
    (sendingState .sense pickupEntry)).lnk.access = .sending := by
  refine ⟨(by unfold Calm Settled; decide +kernel), (by decide +kernel), (by decide +kernel),
    (by decide +kernel), (by decide +kernel)⟩

/-- A PICKUP that joins beside a STATUS in GAP, in BACKOFF and in SENSE. -/
theorem witness_join_displaces :
    QueueSound (sendingState .gap statusEntry) ∧ QueueSound (sendingState .backoff statusEntry) ∧
    QueueSound (sendingState .sense statusEntry) ∧ ((sendingState .gap statusEntry).join
    pickupEntry.content).lnk.selected = some 7 ∧ ((sendingState .backoff statusEntry).join
    pickupEntry.content).lnk.selected = some 7 ∧ ((sendingState .sense statusEntry).join
    pickupEntry.content).lnk.selected = some 4 := by
  refine ⟨(by unfold QueueSound before; decide +kernel), (by unfold QueueSound before; decide +kernel),
    (by unfold QueueSound before; decide +kernel), (by decide +kernel), (by decide +kernel),
    (by decide +kernel)⟩

/-- A STATUS selected, and a PICKUP of station 6 heard. -/
def quieting (a : Access) : State :=
  { sendingState a statusEntry with
    transit := ⟨[], [ended (frameBytes 2 0x1234 6 [1, 0, 60, 3, 4])]⟩ }

/-- A PICKUP heard beside a STATUS in GAP, SENSE, BACKOFF and SENDING. -/
theorem witness_pickup_returns :
    Plain (quieting .gap) ∧ (quieting .gap).pvt.length < 12 ∧ FrameArrives (quieting .gap) (.pickup 6
    ⟨3, 4⟩ 60) (ended (frameBytes 2 0x1234 6 [1, 0, 60, 3, 4])) [] ∧ (after .receivePickup (quieting
    .gap)).lnk.access = .idle ∧ (after .receivePickup (quieting .gap)).lnk.quiet = some ⟨99950, 600⟩ ∧
    Plain (quieting .sense) ∧ (after .receivePickup (quieting .sense)).lnk.access = .idle ∧ Plain
    (quieting .backoff) ∧ (after .receivePickup (quieting .backoff)).lnk.access = .idle ∧ Plain
    (quieting .sending) ∧ (after .receivePickup (quieting .sending)).lnk.access = .sending := by
  refine ⟨(by unfold Plain Calm Settled; decide +kernel), (by decide +kernel),
    (by unfold FrameArrives; decide +kernel), (by decide +kernel), (by decide +kernel),
    (by unfold Plain Calm Settled; decide +kernel), (by decide +kernel),
    (by unfold Plain Calm Settled; decide +kernel), (by decide +kernel),
    (by unfold Plain Calm Settled; decide +kernel), (by decide +kernel)⟩

/-- The close operation, its contacts still elsewhere. -/
def closingFrom (p : Position) : State := { closingOp with mdu := { closingOp.mdu with position := some p } }

/-- A close operation in which CLOSED, OPEN and UNKNOWN arrive. -/
theorem witness_close_positions :
    Calm (closingFrom .opened) ∧ (closingFrom .opened).mdu.op = .close ∧ (closingFrom
    .opened).mdu.driveStart = some 99940 ∧ (closingFrom .opened).mdu.position = some .opened ∧
    (closingFrom .opened).mdu.faultTimer = none ∧ (after (.positionChange false true) (closingFrom
    .opened)).transit.reports = [.closeConfirmation] ∧ (after (.positionChange false false) (closingFrom
    .opened)).mdu.position = some .unknown ∧ (after (.positionChange false false) (closingFrom
    .opened)).mdu.op = .close ∧ Calm (closingFrom .unknown) ∧ (after (.positionChange true false)
    (closingFrom .unknown)).mdu.position = some .opened := by
  refine ⟨(by unfold Calm Settled; decide +kernel), (by decide +kernel), (by decide +kernel),
    (by decide +kernel), (by decide +kernel), (by decide +kernel), (by decide +kernel),
    (by decide +kernel), (by unfold Calm Settled; decide +kernel), (by decide +kernel)⟩

/-- A state with a radio power state pending. -/
def turning (p : RadioPower) (s : State) : State := { s with lnk := { s.lnk with pendingPower := some p } }

/-- A send that ends with a power state pending: a clean one, a collided STATUS returned by SPARSE, and a draw of 0 slots. -/
theorem witness_pending_power :
    Calm (turning .duty (inFlight resultEntry false)) ∧ QueueSound (turning .duty (inFlight resultEntry
    false)) ∧ (turning .duty (inFlight resultEntry false)).lnk.power ≠ .off ∧ (turning .duty (inFlight
    resultEntry false)).lnk.warmUp = none ∧ (after .sendEnd (turning .duty (inFlight resultEntry
    false))).lnk.cycle = some ⟨true, 100000⟩ ∧ Calm (turning .sparse (inFlight statusEntry true)) ∧
    QueueSound (turning .sparse (inFlight statusEntry true)) ∧ (after .sendEnd (turning .sparse
    (inFlight statusEntry true))).lnk.access = .idle ∧ (after .sendEnd (turning .sparse (inFlight
    statusEntry true))).lnk.power = .sparse ∧ Calm (turning .duty sensingAgain) ∧ QueueSound (turning
    .duty sensingAgain) ∧ (after .sendEnd (turning .duty sensingAgain)).lnk.access = .sending := by
  refine ⟨(by unfold Calm Settled; decide +kernel), (by unfold QueueSound before; decide +kernel),
    (by decide +kernel), (by decide +kernel), (by decide +kernel),
    (by unfold Calm Settled; decide +kernel), (by unfold QueueSound before; decide +kernel),
    (by decide +kernel), (by decide +kernel), (by unfold Calm Settled; decide +kernel),
    (by unfold QueueSound before; decide +kernel), (by decide +kernel)⟩

/-- The tenth second below V_cut, in the middle of a send after two collisions. -/
def cutSecond : State :=
  { lowSecond with
    txq := { rest.txq with entries := [{ resultEntry with inFlight := true, attempts := 2 }] },
    lnk := sendingSecond.lnk }

/-- The second that enters CUTOFF in mid-frame. -/
theorem witness_cut_by_off :
    Calm cutSecond ∧ QueueSound cutSecond ∧ 2400 ≤ cutSecond.sfe.batCount ∧ cutSecond.bcu.daySeconds <
    86400 ∧ cutSecond.bcu.test = none ∧ cutSecond.bcu.cls ≠ some .cutoff ∧ cutSecond.sqc.state ≠ some
    .energyWait ∧ cutSecond.lnk.access = .sending ∧ cutSecond.selectedEntry = some { resultEntry with
    inFlight := true, attempts := 2 } := by
  refine ⟨(by unfold Calm Settled; decide +kernel), (by unfold QueueSound before; decide +kernel),
    (by decide +kernel), (by decide +kernel), (by decide +kernel), (by decide +kernel),
    (by decide +kernel), (by decide +kernel), (by decide +kernel)⟩

/-- The second that enters CUTOFF does so whichever block asks first, BATTERY_POOR staying clear, and returns the
entry with its attempt count. -/
theorem witness_cutoff_entered :
    (after .oneSecondUpdate cutSecond).bcu.cls = some .cutoff ∧ (after .oneSecondUpdate cutSecond).poor = false ∧
      (after .oneSecondUpdate cutSecond).txq.entries = [{ resultEntry with attempts := 2 }] := by
  have hu : cutSecond.up = true := by decide +kernel
  have hs : cutSecond.secondDue = true := by decide +kernel
  have hd : cutSecond.dayDue = false := by decide +kernel
  simp only [after, exec, execOneSecondUpdate, whenUp, whenDue, State.secondEvent, event, hu, hs, hd, if_true,
    Bool.false_eq_true, if_false]
  rw [State.oneSecond, State.batterySecond, State.evaluateClass]
  dsimp only
  generalize h : eitherOrder _ _ _ = x
  obtain rfl | rfl : x = _ ∨ x = _ := h ▸ eitherOrder_cases _ _ _
  · decide +kernel
  · decide +kernel

/-- A state in ECONOMY. -/
def sparing (s : State) : State := { s with bcu := { s.bcu with cls := some .economy } }

/-- In ECONOMY: a STATUS sent clean, and a period at its end. -/
theorem witness_economy_period :
    Calm (sparing owing) ∧ QueueSound (sparing owing) ∧ (sparing owing).selectedEntry = some {
    statusEntry with inFlight := true } ∧ (sparing owing).bcu.cls = some .economy ∧ (after .sendEnd
    (sparing owing)).txq.period.any (fun t => 240000 ≤ t.ms) = true ∧ Calm (sparing periodic) ∧
    QueueSound (sparing periodic) ∧ (sparing periodic).txq.period ≠ none ∧ (after .statusPeriodExpiry
    (sparing periodic)).txq.period.any (fun t => 240000 ≤ t.ms) = true := by
  refine ⟨(by unfold Calm Settled; decide +kernel), (by unfold QueueSound before; decide +kernel),
    (by decide +kernel), (by decide +kernel), (by decide +kernel),
    (by unfold Calm Settled; decide +kernel), (by unfold QueueSound before; decide +kernel),
    (by decide +kernel), (by decide +kernel)⟩

/-- A station in ECONOMY at some point of its listen cycle. -/
def turned (c : ListenCycle) : State := { rest with lnk := { rest.lnk with power := .duty, cycle := some c } }

/-- A station in SPARSE with its window closed. -/
def sparsely (openedAt : Uptime) : State :=
  { rest with lnk := { rest.lnk with power := .sparse, cycle := some ⟨false, openedAt⟩ } }

/-- Events that fall due: the listen windows, the first position, the time base, counts, arrivals and timers. -/
theorem witness_due :
    (cycling true none).due = some .listenWindowClose ∧ (turned ⟨false, 98000⟩).due = some
    .listenWindowOpen ∧ (turned ⟨false, 98001⟩).due = none ∧ (turned ⟨true, 99751⟩).due = none ∧
    (sparsely 70000).due = some .listenWindowOpen ∧ (sparsely 70001).due = none ∧ undecided.due = some
    .firstPositionTimeout ∧ ({ rest with clock := ⟨100000, 100, 99000⟩ } : State).due = some
    .timeBaseSecond ∧ sampling.due = some .decimatedSample ∧ (halved rest).due = some .halfCycleUpdate ∧
    second.due = some .oneSecondUpdate ∧ dayEnd.due = some .dayRollover ∧ (hearing (request 77
    .trip)).due = some .crewTrip ∧ (hearing [1, 2]).due = some .frameRejected ∧ (hearing peerStatus).due
    = some .receiveStatus ∧ (handing .closed trip).due = some .tripRequest ∧ periodic.due = some
    .statusPeriodExpiry ∧ busy.due = some .pickupLifeExpiry := by
  refine ⟨(by decide +kernel), (by decide +kernel), (by decide +kernel), (by decide +kernel),
    (by decide +kernel), (by decide +kernel), (by decide +kernel), (by decide +kernel),
    (by decide +kernel), (by decide +kernel), (by decide +kernel), (by decide +kernel),
    (by decide +kernel), (by decide +kernel), (by decide +kernel), (by decide +kernel),
    (by decide +kernel), (by decide +kernel)⟩

/-- LOCKOUT with cause PROTECTION, the shot at L. -/
def atLimit : State :=
  { restIn .lockout (some .protection) with
    sqc := { (restIn .lockout (some .protection)).sqc with shot := 3 } }

/-- The CLOSING of a manual close taken there, with a report on its way. -/
def closingAtLimit (r : Report) : State := { after .panelClose atLimit with transit := ⟨[r], []⟩ }

/-- A manual close taken in a LOCKOUT whose shot is L, its confirmation, and a trip request in its CLOSING. -/
theorem witness_shot_at_limit :
    Plain atLimit ∧ (after .panelClose atLimit).sqc.state = some .closing ∧ (after .panelClose
    atLimit).sqc.shot = settings.l ∧ Plain (closingAtLimit trip) ∧ MayTrip (closingAtLimit trip) ∧
    ShotSound (closingAtLimit trip) ∧ takeReport Report.asTrip (closingAtLimit trip).transit.reports =
    some (tripRequest, []) ∧ (after .tripRequest (closingAtLimit trip)).sqc.shot = settings.l ∧ (after
    .closeConfirmation (closingAtLimit .closeConfirmation)).sqc.shot = settings.l - 1 := by
  refine ⟨(by unfold Plain Calm Settled; decide +kernel), (by decide +kernel), (by decide +kernel),
    (by unfold Plain Calm Settled; decide +kernel), (by unfold MayTrip; decide +kernel),
    (by unfold ShotSound; decide +kernel), (by decide +kernel), (by decide +kernel),
    (by decide +kernel)⟩

/-- The block of the settings above, with its checksum word. -/
def goodBlock : List Word16 :=
  [0xE701, 4660, 3, 50, 0, 2, 3, 771, 2000, 600, 4480, 20000, 400, 200, 4000, 2000] ++
    [20, 20, 20, 20, 20, 20, 20, 20, 20, 120, 120, 120, 120, 120, 120, 120, 120, 120, 120, 0, 3, 1, 1, 2620] ++
    [1, 50, 1500, 3000, 30, 10, 60, 90, 0, 1000, 20, 2000, 14400, 200, 13600, 12200, 11800, 10800, 30, 150, 11500, 50, 100, 100, 100, 100, 3664, 60, 300, 60, 120, 0] ++
    List.replicate 23 0 ++ [7202]

/-- That block with some words changed, and its checksum word made good. -/
def altered (l : List (Nat × Word16)) : List Word16 :=
  let b := l.foldl (fun b p => b.set p.1 p.2) (goodBlock.take 95)
  b ++ [0 - blockSum b]

/-- A start with its last word to come, the retained items of a part that ran for 40 days with a larger battery. -/
def warmStart : State :=
  { reading 95 with
    rtm := Rtm.written { rest.rtm.items with daysSinceTest := 40, q := 200000000 } }

/-- A start in READ before its last word and at it; a good block; blocks that fail each check, the conflicts at the words named; a COLD start, and a WARM one with Q above Qcap and a test due. -/
theorem witness_start :
    exec (.settingsWordRead 0) (reading 95) = .next (after (.settingsWordRead 0) (reading 95)) ∧
    (reading 0).stl.phase = .read [] ∧ (reading 94).stl.phase = .read (List.replicate 94 0) ∧ (reading
    95).stl.phase = .read (List.replicate 95 0) ∧ goodBlock.length = 96 ∧ checkBlock goodBlock = none ∧
    checkBlock (altered [(3, 51)]) = some ⟨3, .range⟩ ∧ checkBlock (goodBlock.set 3 51) = some ⟨95,
    .checksum⟩ ∧ checkBlock (altered [(0, 0xE702)]) = some ⟨0, .format⟩ ∧ checkBlock (altered [(9,
    2000)]) = some ⟨9, .conflict⟩ ∧ checkBlock (altered [(20, 21)]) = some ⟨20, .conflict⟩ ∧ checkBlock
    (altered [(30, 121)]) = some ⟨30, .conflict⟩ ∧ checkBlock (altered [(37, 4)]) = some ⟨37, .conflict⟩
    ∧ checkBlock (altered [(4, 2), (6, 2)]) = some ⟨6, .conflict⟩ ∧ checkBlock (altered [(57, 11800)]) =
    some ⟨56, .conflict⟩ ∧ checkBlock (altered [(55, 11800)]) = some ⟨55, .conflict⟩ ∧ (after
    (.settingsWordRead 0) (reading 95)).up = true ∧ (reading 95).rtm.agrees = false ∧
    warmStart.rtm.agrees = true ∧ warmStart.stl.phase = .read (List.replicate 95 0) ∧ (after
    (.settingsWordRead 0) warmStart).bcu.testDue = true ∧ (after (.settingsWordRead 0)
    warmStart).rtm.items.qUncertain = true := by
  refine ⟨rfl, (by decide +kernel), (by decide +kernel), (by decide +kernel), (by decide +kernel),
    (by decide +kernel), (by decide +kernel), (by decide +kernel), (by decide +kernel),
    (by decide +kernel), (by decide +kernel), (by decide +kernel), (by decide +kernel),
    (by decide +kernel), (by decide +kernel), (by decide +kernel), (by decide +kernel),
    (by decide +kernel), (by decide +kernel), (by decide +kernel), (by decide +kernel),
    (by decide +kernel)⟩

end Sys2Proof.Tests
end

section
/-! The arithmetic of the measurement chain (R7 to R9): the whole-number square root, the rms and the DC
estimate. -/

namespace Sys2Proof.Machine

/-! ### Square root and clamp (Conventions, Arithmetic) -/

/-- With fuel for every argument up to `n`, the recursion brackets the root: two bits more of the argument
double the root and leave one bit to decide. -/
theorem isqrtAux_bounds {fuel n : Nat} (h : n ≤ fuel) :
    isqrtAux fuel n * isqrtAux fuel n ≤ n ∧ n < (isqrtAux fuel n + 1) * (isqrtAux fuel n + 1) := by
  induction fuel generalizing n with
  | zero => simp [isqrtAux]; omega
  | succ fuel ih =>
    obtain rfl | hn := Nat.eq_zero_or_pos n
    · simp [isqrtAux]
    · obtain ⟨hlo, hhi⟩ := ih (n := n / 4) (by omega)
      rw [isqrtAux, if_neg hn.ne']
      generalize isqrtAux fuel (n / 4) = r at hlo hhi
      have low : 4 * (r * r) ≤ n := by omega
      have high : n < 4 * ((r + 1) * (r + 1)) := by omega
      dsimp only
      split
      · exact ⟨by assumption, by linarith⟩
      · exact ⟨by linarith, by omega⟩

/-- A root does not pass a bound whose square the argument does not pass. -/
theorem isqrt_le_of_le_square {n b : Nat} (h : n ≤ b * b) : isqrt n ≤ b :=
  Nat.mul_self_le_mul_self_iff.mp ((isqrtAux_bounds (le_refl n)).1.trans h)

/-- A clamp takes its two ends in either order when they are in order. -/
theorem clamp_eq_min_max {lo hi : Int} (h : lo ≤ hi) (v : Int) : clamp lo hi v = min hi (max lo v) := by
  unfold clamp; omega

/-! ### DC removal (R7, R8) -/

/-- A part `e / k` of an error, rounded down, lies between 0 and the error, and is 0 only for an error in
0..k − 1. -/
theorem ediv_between_zero_self {k : Int} (hk : 0 < k) (e : Int) :
    (0 ≤ e → 0 ≤ e / k ∧ e / k ≤ e) ∧ (e ≤ 0 → e ≤ e / k ∧ e / k ≤ 0) ∧
      (e / k = 0 ↔ 0 ≤ e ∧ e < k) := by
  have nonneg : 0 ≤ e / k ↔ 0 ≤ e := by simpa using Int.le_ediv_iff_mul_le (a := 0) (b := e) hk
  have below_one : e / k < 1 ↔ e < k := by simpa using Int.ediv_lt_iff_lt_mul (a := e) (b := 1) hk
  refine ⟨fun h => ⟨nonneg.mpr h, Int.ediv_le_self k h⟩, fun h => ⟨?_, by omega⟩, by omega⟩
  rw [Int.le_ediv_iff_mul_le hk]
  nlinarith

/-- With A not 0 the estimate moves by the 2^(16 − A)-th part of its error, inside its range (R8). -/
theorem AcChannel.estimate_eq (c : AcChannel) {a : Nat} (x : Int) (ha : a ≠ 0) :
    c.estimate a x = clamp (-2147483648) 2147483647 (c.d + (65536 * x - c.d) / 2 ^ (16 - a)) := by
  rw [AcChannel.estimate, if_neg ha]

/-- With A not 0 the filtered sample is clamped to the sample range (R8 step 1). -/
theorem AcChannel.filtered_bounds (c : AcChannel) {a : Nat} (x : Int) (ha : a ≠ 0) :
    -32768 ≤ c.filtered a x ∧ c.filtered a x ≤ 32767 := by
  rw [AcChannel.filtered, if_neg ha]
  exact clampSample_bounds _

/-- With samples and estimates in range the clamp of the estimate never acts: the estimate moves by the
part of its error alone (R8). -/
theorem AcChannel.estimate_of_mem (c : AcChannel) {a : Nat} {x : Int} (ha : a ≠ 0) (hx : -32768 ≤ x)
    (hx' : x ≤ 32767) (hd : -2147483648 ≤ c.d) (hd' : c.d ≤ 2147483647) :
    c.estimate a x = c.d + (65536 * x - c.d) / 2 ^ (16 - a) := by
  obtain ⟨up, down, -⟩ := ediv_between_zero_self (k := 2 ^ (16 - a)) (by positivity) (65536 * x - c.d)
  rw [AcChannel.estimate_eq c x ha]
  exact clamp_of_mem (by omega) (by omega)

/-! ### The statements -/

/-- The recursion has fuel enough for the whole argument. -/
theorem squareRootRoundsDown : Claims.SquareRootRoundsDown := fun n => isqrtAux_bounds (le_refl n)

/-- The mean square over W samples is at most 32,768². -/
theorem rmsInRange : Claims.RmsInRange := by
  intro c w hw hPrev hCur
  refine isqrt_le_of_le_square ?_
  obtain rfl | rfl := hw <;> omega

theorem dcEstimateFollows : Claims.DcEstimateFollows := by
  intro c a x ha _ hx hx' hd hd'
  have ha0 : a ≠ 0 := by omega
  obtain ⟨up, down, still⟩ :=
    ediv_between_zero_self (k := 2 ^ (16 - a)) (by positivity) (65536 * x - c.d)
  rw [AcChannel.estimate_of_mem c ha0 hx hx' hd hd']
  exact ⟨by omega, by omega, by rw [← still]; omega, AcChannel.filtered_bounds c x ha0⟩

/-- Settles O16: the square root by induction on its fuel, the rms from it, the estimate from the part of
its error by which it moves. -/
theorem measurementArithmetic : Obligations.MeasurementArithmetic :=
  ⟨squareRootRoundsDown, rmsInRange, dcEstimateFollows⟩

end Sys2Proof.Machine
end

section
/-! Bits and samples (R1 to R5, R7 to R9, R15): what a clock period and a decimated sample do to the channels. -/

namespace Sys2Proof.Machine

/-! ### When an event of the measurement chain is not due (log entry 10) -/

theorem State.sampleDue_eq_true {s : State} : s.sampleDue = true ↔ 256 ≤ s.sfe.bitCount := decide_eq_true_iff
theorem State.sampleDue_eq_false {s : State} : s.sampleDue = false ↔ s.sfe.bitCount < 256 := by
  rw [State.sampleDue, decide_eq_false_iff_not, not_le]
theorem State.halfDue_eq_true {s : State} : s.halfDue = true ↔ s.stl.tables.w / 2 ≤ s.sfe.halfCount :=
  decide_eq_true_iff
theorem State.halfDue_eq_false {s : State} : s.halfDue = false ↔ s.sfe.halfCount < s.stl.tables.w / 2 := by
  rw [State.halfDue, decide_eq_false_iff_not, not_le]
theorem State.secondDue_eq_true {s : State} : s.secondDue = true ↔ 2400 ≤ s.sfe.batCount := decide_eq_true_iff
theorem State.secondDue_eq_false {s : State} : s.secondDue = false ↔ s.sfe.batCount < 2400 := by
  rw [State.secondDue, decide_eq_false_iff_not, not_le]
theorem State.dayDue_eq_false {s : State} : s.dayDue = false ↔ s.bcu.daySeconds < 86400 := by
  rw [State.dayDue, decide_eq_false_iff_not, not_le]

/-! ### A clock period (R1, R2) -/

/-- With no sample due a clock period's bits go to the integrators, and nothing else acts. -/
theorem exec_modulatorBit {s : State} (bits : Byte) (hup : s.up = true) (hbits : s.sfe.bitCount < 256) :
    exec (.modulatorBit bits) s = .next { s with sfe := s.sfe.takeBits bits } := by
  have due : s.sampleDue = false := State.sampleDue_eq_false.mpr hbits
  change whenUp (·.bitsEvent bits) s = _
  rw [whenUp_of_up hup, State.bitsEvent, whenDue_of_not due]

/-- The three integrators in cascade: each adds the new value of the one before it (R2). -/
theorem Cic.integrate_eq (b : Bool) (c : Cic) :
    c.integrate b =
      let x : Word32 := if b then 1 else -1
      { c with i1 := c.i1 + x, i2 := c.i2 + c.i1 + x, i3 := c.i3 + c.i2 + c.i1 + x } := by
  simp only [Cic.integrate, BitVec.add_assoc]

theorem bitAdvancesIntegrators : Claims.BitAdvancesIntegrators := by
  intro s bits hup hbits
  refine ⟨_, exec_modulatorBit bits hup hbits, rfl, ?_⟩
  simp only [List.forall_mem_cons, List.not_mem_nil, false_imp_iff, implies_true, and_true]
  exact ⟨Cic.integrate_eq _ _, Cic.integrate_eq _ _, Cic.integrate_eq _ _, Cic.integrate_eq _ _,
    Cic.integrate_eq _ _, Cic.integrate_eq _ _, Cic.integrate_eq _ _, Cic.integrate_eq _ _⟩

/-! ### A decimated sample (R3 to R5, R7 to R9, R15) -/

/-- With no update due a completed sample goes to the SFE, and nothing else acts. -/
theorem exec_decimatedSample {s : State} (hup : s.up = true) (hbits : 256 ≤ s.sfe.bitCount)
    (hhalf : s.sfe.halfCount < s.stl.tables.w / 2) (hbat : s.sfe.batCount < 2400) :
    exec .decimatedSample s = .next { s with sfe := s.sfe.sample s.stl.image.aI s.stl.image.aV } := by
  have due : s.sampleDue = true := State.sampleDue_eq_true.mpr hbits
  have noHalf : s.halfDue = false := State.halfDue_eq_false.mpr hhalf
  have noSecond : s.secondDue = false := State.secondDue_eq_false.mpr hbat
  change whenUp (whenDue State.sampleDue State.sampleEvent) s = _
  rw [whenUp_of_up hup, whenDue_of_due due, State.sampleEvent, whenDue_of_not noHalf,
    whenDue_of_not noSecond]

/-- The combs advance at every sample, used or thrown away (R3, R5). -/
@[simp] theorem Sfe.sample_filters (f : Sfe) (aI aV : Nat) :
    (f.sample aI aV).filters = f.filters.map Cic.comb := by
  unfold Sfe.sample Sfe.useSample
  split <;> rfl

/-- A sample still to be thrown away only counts down (R5). -/
theorem Sfe.sample_of_discard {f : Sfe} (aI aV : Nat) (h : f.discard ≠ 0) :
    f.sample aI aV =
      { f with filters := f.filters.map Cic.comb, bitCount := 0, discard := f.discard - 1 } := if_neg h

/-- A used sample goes to every channel, scaled (R4, R5). -/
theorem Sfe.sample_of_used {f : Sfe} (aI aV : Nat) (h : f.discard = 0) :
    f.sample aI aV =
      { f with filters := f.filters.map Cic.comb, bitCount := 0 }.useSample aI aV
        (f.filters.map fun c : Cic => scale c.output) := if_pos h

/-- A used sample of an AC channel, with the clip test of R4 and the clamps of R4 and R8 written out. -/
theorem AcChannel.use_eq (c : AcChannel) (a : Nat) (raw : Int) :
    c.use a raw =
      let x := min 32767 (max (-32768) raw)
      let z := if a = 0 then x else min 32767 (max (-32768) (x - (c.d + 32768) / 65536))
      { d := if a = 0 then c.d else
          min 2147483647 (max (-2147483648) (c.d + (65536 * x - c.d) / 2 ^ (16 - a))),
        hPrev := c.hPrev, hCur := c.hCur + z.natAbs ^ 2,
        clip := c.clip || 32768 ≤ raw || raw ≤ -32768 } := by
  have sample (v : Int) : clampSample v = min 32767 (max (-32768) v) := clamp_eq_min_max (by decide) v
  have range (v : Int) : clamp (-2147483648) 2147483647 v = min 2147483647 (max (-2147483648) v) :=
    clamp_eq_min_max (by decide) v
  simp only [AcChannel.use, AcChannel.estimate, AcChannel.filtered, fullScale, sample, range, Bool.or_assoc]

/-- The used samples, channel by channel. -/
theorem Sfe.useSample_scaled (f : Sfe) (aI aV : Nat) (x : Ch8 Cic) :
    f.useSample aI aV (x.map fun c => scale c.output) = { f with
      ac := ⟨f.ac.ia.use aI (scale x.ia.output), f.ac.ib.use aI (scale x.ib.output),
        f.ac.ic.use aI (scale x.ic.output), f.ac.ig.use aI (scale x.ig.output),
        f.ac.vs.use aV (scale x.vs.output), f.ac.vl.use aV (scale x.vl.output)⟩,
      halfCount := f.halfCount + 1, batCount := f.batCount + 1,
      vbSum := f.vbSum + clampSample (scale x.vb.output),
      ibatSum := f.ibatSum + clampSample (scale x.ibat.output) } := rfl

theorem sampleCompleted : Claims.SampleCompleted := by
  intro s hup hbits hhalf hbat y scaled clamped
  refine ⟨_, exec_decimatedSample hup hbits hhalf hbat, rfl, ?_, fun hdiscard => ?_, fun hused => ?_⟩
  · simp only [Sfe.sample_filters, List.forall_mem_cons, List.not_mem_nil, false_imp_iff, implies_true,
      and_true]
    exact ⟨rfl, rfl, rfl, rfl, rfl, rfl, rfl, rfl⟩
  · dsimp only
    rw [Sfe.sample_of_discard _ _ hdiscard]
  · have clamped_eq (f : Cic) : clampSample (scale f.output) = clamped f :=
      clamp_eq_min_max (by decide) _
    simp only [Sfe.sample_of_used _ _ hused, Sfe.useSample_scaled, clamped_eq, true_and,
      List.forall_mem_cons, List.not_mem_nil, false_imp_iff, implies_true, and_true]
    simp only [AcChannel.use_eq]
    exact ⟨rfl, rfl, rfl, rfl, rfl, rfl⟩

/-- Settles O23: with nothing else due a bit reaches the integrators alone and a sample the SFE alone; what
each channel makes of it is one equation for all the channels. -/
theorem bitsAndSamples : Obligations.BitsAndSamples := ⟨bitAdvancesIntegrators, sampleCompleted⟩

end Sys2Proof.Machine
end

section
/-! What the end of an event passes on: the BCU but for the abort of a test, the hand-offs to the SQC and, with
no test in progress, the transmit queue and the link. -/

namespace Sys2Proof.Machine

/-! ### The abort of a test (R97, R98) -/

/-- The BCU after the abort of a test. -/
def Bcu.aborted (b : Bcu) (now : Uptime) : Bcu :=
  { b.leaveTest with latestAttempt := some .aborted, testDue := true, retryTimer := some ⟨now, 3600000⟩ }

@[simp] theorem Bcu.aborted_latestMean (b : Bcu) (now : Uptime) : (b.aborted now).latestMean = b.latestMean := rfl
@[simp] theorem Bcu.aborted_daySeconds (b : Bcu) (now : Uptime) : (b.aborted now).daySeconds = b.daySeconds := rfl
@[simp] theorem Bcu.aborted_soc (b : Bcu) (now : Uptime) : (b.aborted now).soc = b.soc := rfl

/-- An abort changes the BCU and asks for a report. -/
theorem State.abortTest_onlyQueue (s : State) :
    OnlyQueue { s with bcu := s.bcu.aborted s.now } s.abortTest := State.askBattery_onlyQueue _

theorem State.abortReview_of_no_test {s : State} (h : s.bcu.test = none) : s.abortReview = s := by
  simp [State.abortReview, h]

/-- The look at a test in progress leaves it alone or aborts it. -/
theorem State.abortReview_cases (s : State) : s.abortReview = s ∨ s.abortReview = s.abortTest := by
  unfold State.abortReview
  split
  · exact .inr rfl
  · exact .inl rfl

/-! ### The looks at the end of an event -/

/-- The RSL's look leaves the BCU, the link, the queue and the hand-offs. -/
theorem State.rslReview_stands (s : State) (b : RslInputs) (x : Bool) :
    (s.rslReview b x).bcu = s.bcu ∧ (s.rslReview b x).lnk = s.lnk ∧ (s.rslReview b x).txq = s.txq ∧
      (s.rslReview b x).transit = s.transit ∧ (s.rslReview b x).now = s.now := by
  obtain ⟨_, _, _, _, h⟩ := State.rslReview_frame s b x
  rw [h]
  exact ⟨rfl, rfl, rfl, rfl, rfl⟩

/-- A reception that ends leaves the hand-offs to the SQC as they are. -/
theorem State.endReception_reports (s : State) : s.endReception.transit.reports = s.transit.reports := by
  unfold State.endReception
  split <;> rfl

/-- The look at the listen enable leaves the BCU, the queue and the hand-offs to the SQC. -/
theorem State.listenReview_stands (s : State) :
    s.listenReview.bcu = s.bcu ∧ s.listenReview.txq = s.txq ∧
      s.listenReview.transit.reports = s.transit.reports := by
  refine ⟨?_, ?_, ?_⟩
  · obtain ⟨_, _, _, h⟩ := State.listenReview_frame s
    rw [h]
  · obtain ⟨_, _, _, h⟩ := State.listenReview_frame s
    rw [h]
  · unfold State.listenReview
    split
    · rfl
    · exact State.endReception_reports s

/-- The end of an event leaves the BCU as it is or aborts its test. -/
theorem State.settle_bcu (s : State) (b : RslInputs) (x : Bool) :
    (s.settle b x).bcu = s.bcu ∨ (s.settle b x).bcu = s.bcu.aborted s.now := by
  obtain ⟨hbcu, -, -, -, hnow⟩ := State.rslReview_stands s b x
  obtain ⟨hlisten, -, -⟩ := State.listenReview_stands (s.rslReview b x).abortReview.chargerReview
  rw [State.settle, hlisten, State.chargerReview_bcu]
  obtain h | h := State.abortReview_cases (s.rslReview b x)
  · rw [h]
    exact .inl hbcu
  · obtain ⟨-, -, -, -, htest, -⟩ := (State.abortTest_onlyQueue (s.rslReview b x)).stands
    rw [h, htest, hbcu, hnow]
    exact .inr rfl

/-- The end of an event makes and takes no hand-off to the SQC. -/
theorem State.settle_reports (s : State) (b : RslInputs) (x : Bool) :
    (s.settle b x).transit.reports = s.transit.reports := by
  obtain ⟨-, -, -, htransit, -⟩ := State.rslReview_stands s b x
  obtain ⟨_, habort⟩ := State.abortReview_frame (s.rslReview b x)
  obtain ⟨-, -, -, -, -, -, -, -, -, -, -, ktransit, -⟩ := habort.stands
  obtain ⟨-, -, hreports⟩ := State.listenReview_stands (s.rslReview b x).abortReview.chargerReview
  rw [State.settle, hreports, State.chargerReview_transit, ktransit, htransit]

/-- With no test in progress the end of an event asks for no frame. -/
theorem State.settle_txq_of_no_test {s : State} (h : s.bcu.test = none) (b : RslInputs) (x : Bool) :
    (s.settle b x).txq = s.txq := by
  obtain ⟨hbcu, -, htxq, -, -⟩ := State.rslReview_stands s b x
  obtain ⟨-, hlisten, -⟩ := State.listenReview_stands (s.rslReview b x).abortReview.chargerReview
  rw [State.settle, hlisten, State.chargerReview_txq,
    State.abortReview_of_no_test (by rw [hbcu, h]), htxq]

/-- With no test and no reception in progress the end of an event leaves the link as it is. -/
theorem State.settle_lnk_of_no_test_no_reception {s : State} (h : s.bcu.test = none)
    (hr : s.lnk.reception = none) (b : RslInputs) (x : Bool) : (s.settle b x).lnk = s.lnk := by
  obtain ⟨hbcu, hlnk, -, -, -⟩ := State.rslReview_stands s b x
  rw [State.settle, State.abortReview_of_no_test (by rw [hbcu, h]),
    State.listenReview_of_none (by rw [State.chargerReview_lnk, hlnk, hr]), State.chargerReview_lnk, hlnk]

end Sys2Proof.Machine
end

section
/-! The half-cycle update (R9 to R13, R19): the voltage states, the published record, its evaluation, and a test
that it aborts. -/

namespace Sys2Proof.Machine

/-! ### The voltage states (R12, R13) -/

/-- The two runs after an update: a high one goes on with the live run, a low one with the dead run, and each
of them, and one in the band, breaks the other run (R12). -/
theorem Presence.runs_eq (p : Presence) (vLive vDead rms : Nat) (clip : Bool) :
    p.runs vLive vDead rms clip = { p with
      liveRun := if clip = true ∨ vLive ≤ rms then min 3 (p.liveRun + 1) else 0,
      deadRun := if ¬(clip = true ∨ vLive ≤ rms) ∧ rms < vDead then min 3 (p.deadRun + 1) else 0 } := by
  by_cases high : clip = true ∨ vLive ≤ rms
  · simp [Presence.runs, high]
  · by_cases low : rms < vDead <;> simp [Presence.runs, high, low]

/-- An update that is not WARMING: the runs, and then the third update in a row of a kind decides (R12, R13). -/
theorem Presence.update_eq (p : Presence) (now : Uptime) (vLive vDead rms : Nat) (clip : Bool) :
    p.update false now vLive vDead rms clip =
      let live := if clip = true ∨ vLive ≤ rms then min 3 (p.liveRun + 1) else 0
      let dead := if ¬(clip = true ∨ vLive ≤ rms) ∧ rms < vDead then min 3 (p.deadRun + 1) else 0
      if live = 3 ∧ p.state ≠ .live then ⟨.live, live, dead, now, false⟩
      else if dead = 3 ∧ p.state ≠ .dead then ⟨.dead, live, dead, now, false⟩
      else ⟨p.state, live, dead, p.lastChange, p.aged⟩ := by
  rw [Presence.update, if_neg Bool.false_ne_true, Presence.runs_eq]
  rfl

/-! ### The evaluation of a record (R19, R27, R29, R34) -/

/-- The elements that trip at a record (R22, R24). -/
def State.tripsAt (s : State) (r : UpdateRecord) : ElementSet :=
  { s.peu with toc := s.tocUpdates r, inst := s.instUpdates r }.tripped s.selection.inst

/-- The element state before the episode is taken (R19 steps 2 to 4). -/
def State.elementsAt (s : State) (r : UpdateRecord) : Peu :=
  { s.peu with
    toc := s.tocUpdates r, inst := s.instUpdates r,
    outstanding := (s.tripsAt r).any || s.peu.outstanding }

/-- The element state that an evaluated record leaves (R19). -/
def State.peuAt (s : State) (r : UpdateRecord) : Peu :=
  { s.elementsAt r with
    episode := episodeAfter s.peu.anyPickup (s.elementsAt r).anyPickup (s.sqc.state = some .closing)
      s.peu.episode }

/-- The trip request that an evaluated record adds to the hand-offs (R27). -/
def State.tripReportsAt (s : State) (r : UpdateRecord) : List Report :=
  if (s.tripsAt r).any then [.tripRequest ⟨r.time, s.tripsAt r, r.rms.currents⟩] else []

/-- The sequence step that an evaluated record adds to the hand-offs (R34). -/
def State.stepReportsAt (s : State) (r : UpdateRecord) : List Report :=
  if s.peu.anyPickup && !(s.elementsAt r).anyPickup && s.stepDue r s.peu.episode then
    [.sequenceStep r.time] else []

theorem State.evaluateElements_eq (s : State) (r : UpdateRecord) :
    s.evaluateElements r = { s with
      peu := s.elementsAt r,
      transit := { s.transit with reports := s.transit.reports ++ s.tripReportsAt r } } := by
  unfold State.evaluateElements State.elementsAt State.tripReportsAt
  cases h : (s.tripsAt r).any
  · simp only [Bool.false_or, Bool.false_eq_true, if_false, List.append_nil]
    exact if_neg (Bool.eq_false_iff.mp h)
  · simp only [Bool.true_or, if_true]
    exact if_pos h

/-- The episode is taken, a sequence step is reported or a PICKUP asked for, and nothing else changes (R29, R30,
R34). -/
theorem State.evaluateEpisode_onlyQueue (s : State) (r : UpdateRecord) (before : Bool) :
    OnlyQueue { s with
      peu := { s.peu with
        episode := episodeAfter before s.peu.anyPickup (s.sqc.state = some .closing) s.peu.episode },
      transit := { s.transit with
        reports := s.transit.reports ++
          if before && !s.peu.anyPickup && s.stepDue r s.peu.episode then [.sequenceStep r.time] else [] } }
      (s.evaluateEpisode r before) := by
  rw [State.evaluateEpisode]
  by_cases begins : (s.peu.anyPickup && !before && s.sqc.state ≠ some .closing) = true
  · have noStep : ¬(before && !s.peu.anyPickup && s.stepDue r s.peu.episode) = true := by
      simp only [Bool.and_eq_true] at begins
      simp [begins]
    simp only [if_pos begins, if_neg noStep, List.append_nil]
    exact State.askPickup_onlyQueue _ _
  · by_cases step : (before && !s.peu.anyPickup && s.stepDue r s.peu.episode) = true
    · simp only [if_neg begins, if_pos step]
      exact OnlyQueue.refl _
    · simp only [if_neg begins, if_neg step, List.append_nil]
      exact OnlyQueue.refl _

/-- The elements, the hand-offs and the queue are all that an evaluated record changes, the queue only by its
PICKUP. -/
theorem State.evaluate_onlyQueue {s : State} {r : UpdateRecord} (h : s.evaluates r = true) :
    OnlyQueue { s with
      peu := s.peuAt r,
      transit := { s.transit with
        reports := s.transit.reports ++ s.tripReportsAt r ++ s.stepReportsAt r } } (s.evaluate r) := by
  rw [State.evaluate, if_pos h, State.evaluateElements_eq]
  exact State.evaluateEpisode_onlyQueue _ r s.peu.anyPickup

theorem State.evaluate_of_not {s : State} {r : UpdateRecord} (h : s.evaluates r = false) :
    s.evaluate r = s := by simp [State.evaluate, h]

/-- No record changes anything but the elements, the hand-offs to the SQC and the queue. -/
theorem State.evaluate_frame (s : State) (r : UpdateRecord) :
    ∃ p rs, OnlyQueue { s with peu := p, transit := { s.transit with reports := rs } } (s.evaluate r) := by
  cases h : s.evaluates r
  · rw [State.evaluate_of_not h]
    exact ⟨s.peu, s.transit.reports, OnlyQueue.refl s⟩
  · exact ⟨_, _, State.evaluate_onlyQueue h⟩

/-- The elements do not evaluate at a WARMING record (R11, R19). -/
theorem State.evaluate_of_warming (s : State) {r : UpdateRecord} (h : r.warming = true) :
    s.evaluate r = s := State.evaluate_of_not (by simp [State.evaluates, h])

/-! ### Beside the abort of a test (R97) -/

/-- `t` is `s` with at most the BCU, the draw counter, the queue and the access of the LNK changed: what the abort
of a test may change. -/
def OnlyBattery (s t : State) : Prop := ∃ b n, OnlyQueue { s with bcu := b, free := n } t

theorem OnlyBattery.draw (s : State) (n : Nat) : OnlyBattery s { s with free := n } :=
  ⟨s.bcu, n, OnlyQueue.refl _⟩

theorem State.abortTest_onlyBattery {s t : State} (h : OnlyBattery s t) : OnlyBattery s t.abortTest := by
  obtain ⟨b, n, h⟩ := h
  obtain ⟨_, _, _, _, rfl⟩ := h
  exact ⟨_, n, OnlyQueue.trans ⟨_, _, _, _, rfl⟩ (State.abortTest_onlyQueue _)⟩

/-- The evaluation of a record reads nothing that the abort of a test changes. -/
theorem State.evaluate_of_onlyBattery {s t : State} (h : OnlyBattery s t) (r : UpdateRecord) :
    (t.evaluate r).peu = (s.evaluate r).peu ∧
      (t.evaluate r).transit.reports = (s.evaluate r).transit.reports := by
  obtain ⟨b, n, q, a, o, x, rfl⟩ := h
  cases e : s.evaluates r
  · rw [State.evaluate_of_not e, State.evaluate_of_not (by exact e)]
    exact ⟨rfl, rfl⟩
  · obtain ⟨-, hpeu, -, -, -, -, -, -, -, -, -, htransit, -⟩ := (State.evaluate_onlyQueue e).stands
    obtain ⟨-, kpeu, -, -, -, -, -, -, -, -, -, ktransit, -⟩ :=
      (State.evaluate_onlyQueue (s := { s with
        bcu := b, free := n, txq := q,
        lnk := { s.lnk with access := a, selected := o, slot := x } }) (r := r) e).stands
    rw [hpeu, htransit, kpeu, ktransit]
    exact ⟨rfl, rfl⟩

/-! ### The event (R9, R10, R19) -/

/-- The SFE after the half-cycle update of a state. -/
def State.halfSfe (s : State) : Sfe :=
  s.sfe.halfCycle s.stl.tables.w s.stl.image.vLive s.stl.image.vDead s.now

/-- The record that the half-cycle update of a state publishes (R10). -/
def State.halfRecord (s : State) : UpdateRecord :=
  ⟨s.now, decide (s.sfe.warming ≠ 0), s.sfe.ac.map (AcChannel.rms s.stl.tables.w), s.sfe.ac.map AcChannel.clip,
    s.halfSfe.vs.state, s.halfSfe.vl.state⟩

@[simp] theorem State.halfSfe_latest (s : State) : s.halfSfe.latest = some s.halfRecord := rfl

/-- The elements evaluate the record just published (R19). -/
theorem State.halfCycle_eq (s : State) : s.halfCycle = { s with sfe := s.halfSfe }.evaluate s.halfRecord := rfl

/-- `t` holds the SFE, the elements and the hand-offs to the SQC that the half-cycle update of `s` leaves, and
what that update does not touch is that of `s`. -/
structure HalfCycled (s t : State) : Prop where
  sfe : t.sfe = s.halfSfe
  peu : t.peu = s.halfCycle.peu
  reports : t.transit.reports = s.halfCycle.transit.reports
  pvt : t.pvt = s.pvt
  tgt : t.tgt = s.tgt
  stl : t.stl = s.stl
  rtm : t.rtm = s.rtm
  clock : t.clock = s.clock
  pending : t.pending = s.pending

/-- The update does the same beside whatever an abort has changed. -/
theorem State.halfCycle_halfCycled {s t : State} (h : OnlyBattery s t) : HalfCycled s t.halfCycle := by
  have read : t.halfSfe = s.halfSfe ∧ t.halfRecord = s.halfRecord ∧
      OnlyBattery { s with sfe := s.halfSfe } { t with sfe := t.halfSfe } := by
    obtain ⟨b, n, q, a, o, x, rfl⟩ := h
    exact ⟨rfl, rfl, b, n, q, a, o, x, rfl⟩
  obtain ⟨hsfe, hrecord, hbattery⟩ := read
  obtain ⟨hpeu, hreports⟩ := State.evaluate_of_onlyBattery hbattery s.halfRecord
  obtain ⟨_, _, hframe⟩ := State.evaluate_frame { t with sfe := t.halfSfe } s.halfRecord
  obtain ⟨ksfe, -, -, -, -, kpvt, ktgt, -, kstl, krtm, kclock, -, -, kpending⟩ := hframe.stands
  have same : t.pvt = s.pvt ∧ t.tgt = s.tgt ∧ t.stl = s.stl ∧ t.rtm = s.rtm ∧ t.clock = s.clock ∧
      t.pending = s.pending := by
    obtain ⟨b, n, q, a, o, x, rfl⟩ := h
    exact ⟨rfl, rfl, rfl, rfl, rfl, rfl⟩
  obtain ⟨epvt, etgt, estl, ertm, eclock, epending⟩ := same
  rw [State.halfCycle_eq t, hrecord]
  exact ⟨ksfe.trans hsfe, hpeu, hreports, kpvt.trans epvt, ktgt.trans etgt, kstl.trans estl,
    krtm.trans ertm, kclock.trans eclock, kpending.trans epending⟩

/-- An abort after the update leaves what the update did. -/
theorem HalfCycled.abortTest {s t : State} (h : HalfCycled s t) : HalfCycled s t.abortTest := by
  obtain ⟨ksfe, kpeu, -, -, -, kpvt, ktgt, -, kstl, krtm, kclock, ktransit, -, kpending⟩ :=
    (State.abortTest_onlyQueue t).stands
  exact ⟨ksfe.trans h.sfe, kpeu.trans h.peu, (congrArg Transit.reports ktransit).trans h.reports,
    kpvt.trans h.pvt, ktgt.trans h.tgt, kstl.trans h.stl, krtm.trans h.rtm, kclock.trans h.clock,
    kpending.trans h.pending⟩

/-- What settles after the update leaves what the update did. -/
theorem HalfCycled.settle {s t : State} (h : HalfCycled s t) (b : RslInputs) (x : Bool) :
    HalfCycled s (t.settle b x) := by
  obtain ⟨ksfe, kpeu, kpvt, ktgt, kstl, krtm, kclock, kpending⟩ := State.settle_stands t b x
  exact ⟨ksfe.trans h.sfe, kpeu.trans h.peu, (State.settle_reports t b x).trans h.reports,
    kpvt.trans h.pvt, ktgt.trans h.tgt, kstl.trans h.stl, krtm.trans h.rtm, kclock.trans h.clock,
    kpending.trans h.pending⟩

/-- The update as an event: alone, or beside the abort of a test in either order. -/
theorem State.halfCycleEvent_halfCycled (s : State) : HalfCycled s s.halfCycleEvent := by
  refine HalfCycled.settle ?_ _ _
  have drawn := OnlyBattery.draw s (s.free + 1)
  obtain h | h | h := withAbort_cases State.halfCycle s <;> rw [h]
  · exact State.halfCycle_halfCycled (OnlyBattery.draw s s.free)
  · exact State.halfCycle_halfCycled (State.abortTest_onlyBattery drawn)
  · exact (State.halfCycle_halfCycled drawn).abortTest

/-- With no test in progress the event is the update and what settles after it. -/
theorem State.halfCycleEvent_of_no_test {s : State} (h : s.bcu.test = none) :
    s.halfCycle.bcu.test = none ∧ s.halfCycleEvent = s.halfCycle.settle s.rslInputs false := by
  obtain ⟨_, _, hframe⟩ := State.evaluate_frame { s with sfe := s.halfSfe } s.halfRecord
  obtain ⟨-, -, -, -, hbcu, -⟩ := hframe.stands
  have noTest : s.halfCycle.bcu.test = none := (congrArg Bcu.test hbcu).trans h
  exact ⟨noTest, congrArg (State.settle · s.rslInputs false) (withAbort_of_no_test _ s noTest)⟩

/-- A half-cycle update that is due is taken as its event. -/
theorem exec_halfCycleUpdate {s : State} (hup : s.up = true) (hdue : s.stl.tables.w / 2 ≤ s.sfe.halfCount) :
    exec .halfCycleUpdate s = .next s.halfCycleEvent := by
  change whenUp (whenDue State.halfDue State.halfCycleEvent) s = _
  rw [whenUp_of_up hup, whenDue_of_due (State.halfDue_eq_true.mpr hdue)]

/-! ### The statements -/

theorem halfCycleEvent_published : Claims.HalfCyclePublished := by
  intro s hup hdue
  have h := s.halfCycleEvent_halfCycled
  refine ⟨_, exec_halfCycleUpdate hup hdue, ?_, fun hwarm => ?_, fun hwarm => ?_, h.pvt, h.tgt, h.stl, h.rtm,
    h.clock, h.pending, fun hwarm => ?_⟩
  · rw [h.sfe]
    rfl
  · rw [h.sfe]
    have still (p : Presence) (now : Uptime) (a b c : Nat) (d : Bool) :
        p.update (decide (s.sfe.warming ≠ 0)) now a b c d = p := if_pos (decide_eq_true hwarm)
    exact ⟨still _ _ _ _ _ _, still _ _ _ _ _ _⟩
  · rw [h.sfe]
    have decided (p : Presence) (now : Uptime) (a b c : Nat) (d : Bool) :
        p.update (decide (s.sfe.warming ≠ 0)) now a b c d = p.update false now a b c d := by simp [hwarm]
    simp only [List.forall_mem_cons, List.not_mem_nil, false_imp_iff, implies_true, and_true]
    exact ⟨(decided _ _ _ _ _ _).trans (Presence.update_eq _ _ _ _ _ _),
      (decided _ _ _ _ _ _).trans (Presence.update_eq _ _ _ _ _ _)⟩
  · rw [h.peu, State.halfCycle_eq, State.evaluate_of_warming _ (decide_eq_true hwarm)]

theorem updateEvaluated : Claims.UpdateEvaluated := by
  rintro s ⟨hup, -⟩ hdue
  have h := s.halfCycleEvent_halfCycled
  refine ⟨_, exec_halfCycleUpdate hup hdue, s.halfRecord, by rw [h.sfe]; rfl, ?_⟩
  rw [h.sfe, ← State.halfCycle_eq]
  refine ⟨rfl, h.peu, h.reports, fun htest => ?_⟩
  obtain ⟨noTest, event⟩ := State.halfCycleEvent_of_no_test htest
  rw [event]
  refine ⟨State.settle_txq_of_no_test noTest _ _, fun hreception => ?_⟩
  have noReception : s.halfCycle.lnk.reception = none := by
    obtain ⟨_, _, hframe⟩ := State.evaluate_frame { s with sfe := s.halfSfe } s.halfRecord
    obtain ⟨_, _, _, _, hframe⟩ := hframe
    rw [State.halfCycle_eq, hframe]
    exact hreception
  exact State.settle_lnk_of_no_test_no_reception noTest noReception _ _

/-- Settles O24: the event is the update, at most beside an abort that its evaluation does not read and that
leaves what it did; the voltage states by the cases of their class. -/
theorem halfCyclePublished : Obligations.HalfCyclePublished := ⟨halfCycleEvent_published, updateEvaluated⟩

end Sys2Proof.Machine
end

section
/-! The one-second update (R14 to R16, R81, R86 to R90): the charger's step, the charge counted, the class, and the
day second. -/

namespace Sys2Proof.Machine

/-! ### The link's part of a change of class (R112, R119, R132) -/

/-- `t` is `s` with at most the LNK and the transmit queue changed. -/
def OnlyLink (s t : State) : Prop := ∃ k q, t = { s with lnk := k, txq := q }

theorem OnlyLink.refl (s : State) : OnlyLink s s := ⟨s.lnk, s.txq, rfl⟩

theorem OnlyLink.trans {s t u : State} (h : OnlyLink s t) (k : OnlyLink t u) : OnlyLink s u := by
  obtain ⟨_, _, rfl⟩ := h
  obtain ⟨l, q, rfl⟩ := k
  exact ⟨l, q, rfl⟩

theorem OnlyQueue.onlyLink {s t : State} (h : OnlyQueue s t) : OnlyLink s t := by
  obtain ⟨q, _, _, _, rfl⟩ := h
  exact ⟨_, q, rfl⟩

theorem State.returnUnselected_onlyQueue (s : State) : OnlyQueue s s.returnUnselected := by
  unfold State.returnUnselected
  split
  · split
    · exact State.search_onlyQueue s
    · exact State.returnSelected_onlyQueue s
  · exact State.search_onlyQueue s

theorem State.applyPower_onlyLink (s : State) (p : RadioPower) : OnlyLink s (s.applyPower p) := by
  unfold State.applyPower
  split
  · exact ⟨_, _, rfl⟩
  · split
    · exact ⟨_, _, rfl⟩
    · split
      · exact ⟨_, _, rfl⟩
      · exact OnlyLink.trans ⟨_, _, rfl⟩ (State.returnUnselected_onlyQueue _).onlyLink

theorem State.cutSend_onlyLink (s : State) : OnlyLink s s.cutSend := by
  unfold State.cutSend
  split
  · dsimp only
    split
    · exact OnlyLink.trans ⟨_, _, rfl⟩ (State.applyPower_onlyLink _ _)
    · exact OnlyLink.trans ⟨_, _, rfl⟩ (State.applyPower_onlyLink _ _)
  · exact OnlyLink.trans ⟨_, _, rfl⟩ (State.applyPower_onlyLink _ _)

theorem State.takePower_onlyLink (s : State) (p : RadioPower) : OnlyLink s (s.takePower p) := by
  unfold State.takePower
  split
  · split
    · exact State.cutSend_onlyLink s
    · exact ⟨_, _, rfl⟩
  · exact State.applyPower_onlyLink s p

theorem State.startPeriod_onlyLink (s : State) : OnlyLink s s.startPeriod := by
  unfold State.startPeriod
  split
  · exact ⟨_, _, rfl⟩
  · exact OnlyLink.refl s

/-! ### What the BCU's second leaves (R81) -/

/-- What every part of the BCU's second keeps: the measurement chain, the peers, the panel, the settings, the
clock, the mean just delivered, the count of day seconds, the tags and the operation counter. -/
structure SecondKept (s t : State) : Prop where
  sfe : t.sfe = s.sfe
  pvt : t.pvt = s.pvt
  tgt : t.tgt = s.tgt
  stl : t.stl = s.stl
  clock : t.clock = s.clock
  latestMean : t.bcu.latestMean = s.bcu.latestMean
  daySeconds : t.bcu.daySeconds = s.bcu.daySeconds
  tags : t.rtm.items.tags = s.rtm.items.tags
  opCounter : t.rtm.items.opCounter = s.rtm.items.opCounter

theorem SecondKept.refl (s : State) : SecondKept s s := ⟨rfl, rfl, rfl, rfl, rfl, rfl, rfl, rfl, rfl⟩

theorem SecondKept.trans {s t u : State} (h : SecondKept s t) (k : SecondKept t u) : SecondKept s u :=
  ⟨k.sfe.trans h.sfe, k.pvt.trans h.pvt, k.tgt.trans h.tgt, k.stl.trans h.stl, k.clock.trans h.clock,
    k.latestMean.trans h.latestMean, k.daySeconds.trans h.daySeconds, k.tags.trans h.tags,
    k.opCounter.trans h.opCounter⟩

theorem OnlyLink.secondKept {s t : State} (h : OnlyLink s t) : SecondKept s t := by
  obtain ⟨_, _, rfl⟩ := h
  exact ⟨rfl, rfl, rfl, rfl, rfl, rfl, rfl, rfl, rfl⟩

/-- A change of health attributes writes them and may ask for a report (R100, R101). -/
theorem State.changeHealth_onlyQueue (s : State) (f : Health Attribute → Health Attribute) :
    OnlyQueue (s.retain fun r => { r with health := f r.health }) (s.changeHealth f) := by
  unfold State.changeHealth
  dsimp only
  split
  · exact State.askBattery_onlyQueue _
  · exact OnlyQueue.refl _

/-! ### The charger's step (R82, R83) -/

/-- The exit of ABSORB at a tail end (R83). -/
theorem State.chargerExit_of_tail {s : State} (h : s.bcu.mode = .absorb ∧ s.bcu.tailRun = 60) (mV : Int) :
    s.chargerExit mV =
      (s.charger .float).retain fun r => { r with q := s.stl.tables.qcap, qUncertain := false } := by
  obtain ⟨hmode, htail⟩ := h
  simp only [State.chargerExit, hmode, htail, if_true]

/-- Without a tail end the charger stays, changes its mode, or leaves ABSORB at its limit (R83). -/
theorem State.chargerExit_of_no_tail {s : State} (h : ¬(s.bcu.mode = .absorb ∧ s.bcu.tailRun = 60)) (mV : Int) :
    s.chargerExit mV = s ∨ (∃ m, s.chargerExit mV = s.charger m) ∨
      s.chargerExit mV = (s.charger .float).changeHealth addAbsorbLimit := by
  unfold State.chargerExit
  split
  · split
    · exact .inr (.inl ⟨_, rfl⟩)
    · exact .inl rfl
  · next hmode =>
    rw [if_neg fun htail => h ⟨hmode, htail⟩]
    split
    · exact .inr (.inr rfl)
    · exact .inl rfl
  · split
    · exact .inr (.inl ⟨_, rfl⟩)
    · exact .inl rfl
  · exact .inl rfl
  · exact .inl rfl

/-- What the charger's step does to the retained items: DEEP_DISCHARGE stands, and Q is Qcap at a tail end and
stands otherwise. -/
structure ChargerStepped (s t : State) (tail : Prop) : Prop extends SecondKept s t where
  deepDischarge : t.rtm.items.health.deepDischarge = s.rtm.items.health.deepDischarge
  q_tail : tail → t.rtm.items.q = s.stl.tables.qcap
  q_stands : ¬tail → t.rtm.items.q = s.rtm.items.q

theorem State.chargerExit_stepped (s : State) (mV : Int) :
    ChargerStepped s (s.chargerExit mV) (s.bcu.mode = .absorb ∧ s.bcu.tailRun = 60) := by
  by_cases tail : s.bcu.mode = .absorb ∧ s.bcu.tailRun = 60
  · rw [State.chargerExit_of_tail tail]
    exact ⟨⟨rfl, rfl, rfl, rfl, rfl, rfl, rfl, rfl, rfl⟩, rfl, fun _ => rfl, fun h => absurd tail h⟩
  · obtain h | ⟨m, h⟩ | h := State.chargerExit_of_no_tail tail mV
    · rw [h]
      exact ⟨SecondKept.refl s, rfl, fun h => absurd h tail, fun _ => rfl⟩
    · rw [h]
      exact ⟨⟨rfl, rfl, rfl, rfl, rfl, rfl, rfl, rfl, rfl⟩, rfl, fun h => absurd h tail, fun _ => rfl⟩
    · obtain ⟨_, _, _, _, asked⟩ := State.changeHealth_onlyQueue (s.charger .float) addAbsorbLimit
      rw [h, asked]
      exact ⟨⟨rfl, rfl, rfl, rfl, rfl, rfl, rfl, rfl, rfl⟩, rfl, fun h => absurd h tail, fun _ => rfl⟩

/-- The counts of a mode keep the mode, the mean and the day seconds. -/
theorem Bcu.count_stands (b : Bcu) (c : Settings) (mV mA : Int) :
    (b.count c mV mA).mode = b.mode ∧ (b.count c mV mA).latestMean = b.latestMean ∧
      (b.count c mV mA).daySeconds = b.daySeconds := by
  unfold Bcu.count
  split <;> exact ⟨rfl, rfl, rfl⟩

/-- The tail run reaches 60 in ABSORB at the 60th update in a row below I_tail (R83). -/
theorem Bcu.count_tail (b : Bcu) (c : Settings) (mV mA : Int) :
    (b.count c mV mA).mode = .absorb ∧ (b.count c mV mA).tailRun = 60 ↔
      b.mode = .absorb ∧ mA < c.iTail ∧ 59 ≤ b.tailRun := by
  obtain ⟨hmode, -, -⟩ := Bcu.count_stands b c mV mA
  rw [hmode]
  refine and_congr_right fun hmode => ?_
  simp only [Bcu.count, hmode]
  split <;> omega

theorem State.chargerStep_stepped (s : State) (m : Mean) :
    ChargerStepped s (s.chargerStep m)
      (s.bcu.mode = .absorb ∧ m.mA < s.stl.image.iTail ∧ 59 ≤ s.bcu.tailRun) := by
  let b := { s.bcu with duty := dutyStep s.stl.image s.bcu.mode m.mV m.mA s.bcu.duty }
  have exits := State.chargerExit_stepped { s with bcu := b.count s.stl.image m.mV m.mA } m.mV
  rw [Bcu.count_tail] at exits
  obtain ⟨kept, deepDischarge, q_tail, q_stands⟩ := exits
  obtain ⟨-, mean, seconds⟩ := Bcu.count_stands b s.stl.image m.mV m.mA
  have counted : SecondKept s { s with bcu := b.count s.stl.image m.mV m.mA } :=
    ⟨rfl, rfl, rfl, rfl, rfl, mean, seconds, rfl, rfl⟩
  exact ⟨counted.trans kept, deepDischarge, q_tail, q_stands⟩

/-! ### The charge (R86) -/

/-- Q after the charge of a second: exact before the clamp, and a current of 0 leaves it (R86). -/
theorem State.countCharge_q {s : State} (h : s.rtm.items.q ≤ s.stl.tables.qcap) (m : Mean) :
    ((s.countCharge m).rtm.items.q : Int) =
      max 0 (min (s.stl.tables.qcap : Int) ((s.rtm.items.q : Int) + m.mA)) := by
  unfold State.countCharge
  split
  · omega
  · simp only [State.retain_rtm, Rtm.written, chargeAfter, clamp]
    omega

theorem State.countCharge_kept (s : State) (m : Mean) :
    SecondKept s (s.countCharge m) ∧ (s.countCharge m).rtm.items.health = s.rtm.items.health := by
  unfold State.countCharge
  split
  · exact ⟨SecondKept.refl s, rfl⟩
  · exact ⟨⟨rfl, rfl, rfl, rfl, rfl, rfl, rfl, rfl, rfl⟩, rfl⟩

/-! ### The class (R88 to R90) -/

/-- What a change of class, the count of a deep discharge and CUTOFF's lockout leave: SoC, and of the retained
items everything but DEEP_DISCHARGE. -/
structure ClassTaken (s t : State) : Prop extends SecondKept s t where
  soc : t.bcu.soc = s.bcu.soc
  items : ∃ d, t.rtm.items = { s.rtm.items with health := { s.rtm.items.health with deepDischarge := d } }

theorem ClassTaken.refl (s : State) : ClassTaken s s := ⟨SecondKept.refl s, rfl, _, rfl⟩

theorem ClassTaken.trans {s t u : State} (h : ClassTaken s t) (k : ClassTaken t u) : ClassTaken s u := by
  obtain ⟨_, hd⟩ := h.items
  obtain ⟨d, kd⟩ := k.items
  exact ⟨h.toSecondKept.trans k.toSecondKept, k.soc.trans h.soc, d, by rw [kd, hd]⟩

theorem OnlyLink.classTaken {s t : State} (h : OnlyLink s t) : ClassTaken s t := by
  obtain ⟨_, _, rfl⟩ := h
  exact ⟨⟨rfl, rfl, rfl, rfl, rfl, rfl, rfl, rfl, rfl⟩, rfl, _, rfl⟩

/-- A frame asked for after what a class change leaves. -/
theorem OnlyQueue.classTaken_after {s u t : State} (h : OnlyQueue u t) (k : ClassTaken s u) : ClassTaken s t :=
  k.trans h.onlyLink.classTaken

theorem State.abortReview_classTaken (s : State) : ClassTaken s s.abortReview := by
  obtain h | h := State.abortReview_cases s
  · rw [h]
    exact ClassTaken.refl s
  · rw [h]
    exact (State.abortTest_onlyQueue s).classTaken_after
      ⟨⟨rfl, rfl, rfl, rfl, rfl, rfl, rfl, rfl, rfl⟩, rfl, _, rfl⟩

theorem State.publishClass_classTaken (s : State) (c : ReserveClass) : ClassTaken s (s.publishClass c) := by
  have decided : ClassTaken s { s with bcu := { s.bcu with cls := some c } } :=
    ⟨⟨rfl, rfl, rfl, rfl, rfl, rfl, rfl, rfl, rfl⟩, rfl, _, rfl⟩
  have stopped (u : State) : OnlyLink u { u with txq := { u.txq with period := none } } := ⟨_, _, rfl⟩
  exact decided.trans ((State.abortReview_classTaken _).trans
    ((State.takePower_onlyLink _ _).trans ((stopped _).trans (State.startPeriod_onlyLink _))).classTaken)

theorem State.addDeepDischarge_classTaken (s : State) : ClassTaken s (s.changeHealth addDeepDischarge) :=
  (State.changeHealth_onlyQueue s addDeepDischarge).classTaken_after
    ⟨⟨rfl, rfl, rfl, rfl, rfl, rfl, rfl, rfl, rfl⟩, rfl, _, rfl⟩

theorem State.classCutoff_classTaken (s : State) : ClassTaken s s.classCutoff := by
  unfold State.classCutoff
  dsimp only
  split
  · obtain ⟨_, locked, -⟩ := State.toLockout_frame s.demandOver .energy
    exact locked.classTaken_after ⟨⟨rfl, rfl, rfl, rfl, rfl, rfl, rfl, rfl, rfl⟩, rfl, _, rfl⟩
  · exact ⟨⟨rfl, rfl, rfl, rfl, rfl, rfl, rfl, rfl, rfl⟩, rfl, _, rfl⟩

/-- The evaluation of the class forms SoC from the charge just counted and the health before any deep discharge
of this second, and takes the class (R87 to R90). -/
theorem State.evaluateClass_classTaken (s : State) (m : Mean) :
    ∃ run, ClassTaken { s with
      bcu := { s.bcu with
        soc := some (stateOfCharge s.stl.tables.qcap s.rtm.items.q s.poor), cutoffRun := run } }
      (s.evaluateClass m) := by
  have published (u : State) (p : Prop) [Decidable p] (c : ReserveClass) :
      ClassTaken u (if p then u else u.publishClass c) := by
    split
    · exact ClassTaken.refl u
    · exact State.publishClass_classTaken u c
  have cutoff (u v : State) (h : ClassTaken u v) (p : Prop) [Decidable p] :
      ClassTaken u (if p then eitherOrder (·.changeHealth addDeepDischarge) State.classCutoff v else v) := by
    split
    · exact eitherOrder_keeps (ClassTaken u) _ _ v
        (h.trans ⟨⟨rfl, rfl, rfl, rfl, rfl, rfl, rfl, rfl, rfl⟩, rfl, _, rfl⟩)
        (fun w k => k.trans (State.addDeepDischarge_classTaken w))
        (fun w k => k.trans (State.classCutoff_classTaken w))
    · exact h
  exact ⟨_, cutoff _ _ (published _ _ _) _⟩

/-! ### The second (R81) -/

/-- The second of the BCU up to its class: the charger's step and the charge counted. -/
def State.chargedSecond (s : State) (m : Mean) : State :=
  State.countCharge (State.chargerStep { s with bcu := { s.bcu with latestMean := some m } } m) m

theorem State.chargedSecond_kept (s : State) (m : Mean) :
    SecondKept { s with bcu := { s.bcu with latestMean := some m } } (s.chargedSecond m) ∧
      (s.chargedSecond m).rtm.items.health.deepDischarge = s.rtm.items.health.deepDischarge := by
  have stepped := State.chargerStep_stepped { s with bcu := { s.bcu with latestMean := some m } } m
  obtain ⟨kept, health⟩ := State.countCharge_kept
    (State.chargerStep { s with bcu := { s.bcu with latestMean := some m } } m) m
  exact ⟨stepped.toSecondKept.trans kept,
    (congrArg Health.deepDischarge health).trans stepped.deepDischarge⟩

/-- Q over the second: Qcap at a tail end, then the current (R83, R86). -/
theorem State.chargedSecond_q {s : State} (hq : s.rtm.items.q ≤ s.stl.tables.qcap) (m : Mean) :
    let tail : Bool := s.bcu.mode = .absorb && (m.mA < s.stl.image.iTail && 59 ≤ s.bcu.tailRun)
    ((s.chargedSecond m).rtm.items.q : Int) =
      max 0 (min (s.stl.tables.qcap : Int)
        (((if tail then s.stl.tables.qcap else s.rtm.items.q : Nat) : Int) + m.mA)) := by
  intro tail
  let u := State.chargerStep { s with bcu := { s.bcu with latestMean := some m } } m
  have stepped : ChargerStepped _ u _ := State.chargerStep_stepped _ m
  have stl : u.stl = s.stl := stepped.stl
  have q : u.rtm.items.q = if tail then s.stl.tables.qcap else s.rtm.items.q := by
    by_cases h : s.bcu.mode = .absorb ∧ m.mA < s.stl.image.iTail ∧ 59 ≤ s.bcu.tailRun
    · rw [if_pos (by simpa [tail] using h)]
      exact stepped.q_tail h
    · rw [if_neg (by simpa [tail] using h)]
      exact stepped.q_stands h
  have bound : u.rtm.items.q ≤ u.stl.tables.qcap := by
    rw [q, stl]
    split <;> omega
  have counted := State.countCharge_q bound m
  rwa [stl, q] at counted

/-- What the second leaves of the BCU, the retained items and the blocks beside it. -/
structure SecondTaken (s t : State) (m : Mean) : Prop where
  sfe : t.sfe = s.sfe
  pvt : t.pvt = s.pvt
  tgt : t.tgt = s.tgt
  stl : t.stl = s.stl
  clock : t.clock = s.clock
  latestMean : t.bcu.latestMean = some m
  daySeconds : t.bcu.daySeconds = s.bcu.daySeconds + 1
  tags : t.rtm.items.tags = s.rtm.items.tags
  opCounter : t.rtm.items.opCounter = s.rtm.items.opCounter
  q : t.rtm.items.q = (s.chargedSecond m).rtm.items.q
  soc : t.bcu.soc = some (stateOfCharge s.stl.tables.qcap t.rtm.items.q
    (batteryPoor { t.rtm.items.health with deepDischarge := s.rtm.items.health.deepDischarge }
      s.stl.image.thresholds))

theorem State.batterySecond_taken (s : State) (m : Mean) : SecondTaken s (s.batterySecond m) m := by
  obtain ⟨kept, deepDischarge⟩ := s.chargedSecond_kept m
  obtain ⟨_, taken⟩ := State.evaluateClass_classTaken (s.chargedSecond m) m
  obtain ⟨_, items⟩ := taken.items
  have stl : (s.chargedSecond m).stl = s.stl := kept.stl
  have health : { ((s.chargedSecond m).evaluateClass m).rtm.items.health with
      deepDischarge := s.rtm.items.health.deepDischarge } = (s.chargedSecond m).rtm.items.health := by
    rw [items, ← deepDischarge]
  have q : ((s.chargedSecond m).evaluateClass m).rtm.items.q = (s.chargedSecond m).rtm.items.q := by
    rw [items]
  have soc := taken.soc
  rw [← q, State.poor, ← health, stl] at soc
  exact {
    sfe := taken.sfe.trans kept.sfe
    pvt := taken.pvt.trans kept.pvt
    tgt := taken.tgt.trans kept.tgt
    stl := taken.stl.trans kept.stl
    clock := taken.clock.trans kept.clock
    latestMean := taken.latestMean.trans kept.latestMean
    daySeconds := congrArg (· + 1) (taken.daySeconds.trans kept.daySeconds)
    tags := taken.tags.trans kept.tags
    opCounter := taken.opCounter.trans kept.opCounter
    q := q
    soc := soc }

/-- What settles after the second leaves what the second did. -/
theorem SecondTaken.settle {s t : State} {m : Mean} (h : SecondTaken s t m) (b : RslInputs) (x : Bool) :
    SecondTaken s (t.settle b x) m := by
  obtain ⟨sfe, -, pvt, tgt, stl, rtm, clock, -⟩ := State.settle_stands t b x
  have bcu : (t.settle b x).bcu.latestMean = t.bcu.latestMean ∧
      (t.settle b x).bcu.daySeconds = t.bcu.daySeconds ∧ (t.settle b x).bcu.soc = t.bcu.soc := by
    obtain e | e := State.settle_bcu t b x <;> rw [e] <;> exact ⟨rfl, rfl, rfl⟩
  obtain ⟨mean, seconds, soc⟩ := bcu
  exact {
    sfe := sfe.trans h.sfe
    pvt := pvt.trans h.pvt
    tgt := tgt.trans h.tgt
    stl := stl.trans h.stl
    clock := clock.trans h.clock
    latestMean := mean.trans h.latestMean
    daySeconds := seconds.trans h.daySeconds
    tags := by rw [rtm, h.tags]
    opCounter := by rw [rtm, h.opCounter]
    q := by rw [rtm, h.q]
    soc := by rw [soc, rtm, h.soc] }

/-! ### The statement -/

/-- A one-second update that is due, with no rollover due, is taken as its event. -/
theorem exec_oneSecondUpdate {s : State} (hup : s.up = true) (hdue : 2400 ≤ s.sfe.batCount)
    (hday : s.bcu.daySeconds < 86400) : exec .oneSecondUpdate s = .next (event State.oneSecond s) := by
  change whenUp (whenDue State.secondDue State.secondEvent) s = _
  rw [whenUp_of_up hup, whenDue_of_due (State.secondDue_eq_true.mpr hdue), State.secondEvent,
    whenDue_of_not (State.dayDue_eq_false.mpr hday)]

/-- The SFE delivers its means and clears its sums, and the BCU takes its second. -/
theorem State.oneSecondEvent_taken (s : State) :
    SecondTaken { s with sfe := s.sfe.oneSecond s.now } (event State.oneSecond s)
      (s.sfe.means s.stl.image.vbGain s.stl.image.ibGain s.now) :=
  (State.batterySecond_taken _ _).settle _ _

theorem oneSecondEvent_counted : Claims.SecondCounted := by
  intro s hup hdue hday hq mV mA tail
  have taken := s.oneSecondEvent_taken
  have charged := State.chargedSecond_q (s := { s with sfe := s.sfe.oneSecond s.now }) hq
    (s.sfe.means s.stl.image.vbGain s.stl.image.ibGain s.now)
  rw [← taken.q] at charged
  exact ⟨_, exec_oneSecondUpdate hup hdue hday, taken.latestMean, taken.daySeconds, charged, taken.soc,
    taken.sfe, taken.tags, taken.opCounter, taken.pvt, taken.tgt, taken.stl, taken.clock⟩

/-- Settles O28: the charger's step and the count give the charge, the class keeps it and forms SoC from it, and
what settles keeps both. -/
theorem secondCounted : Obligations.SecondCounted := oneSecondEvent_counted

end Sys2Proof.Machine
end

section
/-! An element at an evaluated update (R21 to R26, R31 to R33): its flag, its hold, the rise and the fall of its
accumulator, and the curves it rises by. -/

namespace Sys2Proof.Machine

/-! ### The elements that an evaluated record leaves (R19) -/

theorem State.evaluate_peu {s : State} {r : UpdateRecord} (h : s.evaluates r = true) :
    (s.evaluate r).peu = s.peuAt r := by
  obtain ⟨-, hpeu, -⟩ := (State.evaluate_onlyQueue h).stands
  exact hpeu

@[simp] theorem State.peuAt_outstanding (s : State) (r : UpdateRecord) :
    (s.peuAt r).outstanding = ((s.tripsAt r).any || s.peu.outstanding) := rfl

theorem State.evaluates_iff {s : State} {r : UpdateRecord} :
    s.evaluates r = true ↔ r.warming = false ∧ s.peu.outstanding = false ∧
      (s.sqc.state = some .closed ∨ s.sqc.state = some .reclaim ∨ s.sqc.state = some .closing) := by
  simp [State.evaluates, and_assoc, or_assoc]

/-! ### The flags (R21, R22) -/

theorem instFlag_eq (flag clip : Bool) (rms pickup : Nat) :
    instFlag flag clip rms pickup = if pickup = 0 then false else if clip = true ∨ pickup ≤ rms then true
      else if 16 * rms < 15 * pickup then false else flag := by
  simp [instFlag]

@[simp] theorem Toc.move_pickedUp (t : Toc) (rate : Nat) (reset : Option Nat) :
    (t.move rate reset).pickedUp = t.pickedUp := rfl
@[simp] theorem Toc.move_hold (t : Toc) (rate : Nat) (reset : Option Nat) :
    (t.move rate reset).hold = t.hold := rfl
@[simp] theorem Toc.move_spent (t : Toc) (rate : Nat) (reset : Option Nat) :
    (t.move rate reset).spent = t.spent := rfl
@[simp] theorem Toc.move_acc (t : Toc) (rate : Nat) (reset : Option Nat) :
    (t.move rate reset).acc = if t.pickedUp then rise t.hold.isSome t.acc rate else fall t.acc reset := rfl

/-! ### The hold (R31, R33) -/

theorem Toc.settleHold_of_no_hold {t : Toc} (h : t.hold = none) (ends : Hold → Bool) (offered : Option Hold) :
    t.settleHold true ends offered =
      { t with pickedUp := true, hold := if t.spent then none else offered } := by
  simp [Toc.settleHold, h]

theorem Toc.settleHold_of_hold {t : Toc} {x : Hold} (h : t.hold = some x) (ends : Hold → Bool)
    (offered : Option Hold) :
    t.settleHold true ends offered =
      if ends x then { t with pickedUp := true, hold := none, spent := true }
      else { t with pickedUp := true } := by
  simp [Toc.settleHold, h]

/-- The settling decides the flag, the hold and its mark, and nothing else. -/
theorem Toc.settleHold_frame (t : Toc) (flag : Bool) (ends : Hold → Bool) (offered : Option Hold) :
    ∃ x m, t.settleHold flag ends offered = { t with pickedUp := flag, hold := x, spent := m } := by
  cases flag with
  | false => exact ⟨_, _, rfl⟩
  | true =>
    cases h : t.hold with
    | none => exact ⟨_, _, Toc.settleHold_of_no_hold h ends offered⟩
    | some x =>
      rw [Toc.settleHold_of_hold h]
      split
      · exact ⟨_, _, rfl⟩
      · exact ⟨t.hold, _, rfl⟩

@[simp] theorem Toc.settleHold_pickedUp (t : Toc) (flag : Bool) (ends : Hold → Bool) (offered : Option Hold) :
    (t.settleHold flag ends offered).pickedUp = flag := by
  obtain ⟨x, m, h⟩ := t.settleHold_frame flag ends offered
  rw [h]

@[simp] theorem Toc.settleHold_acc (t : Toc) (flag : Bool) (ends : Hold → Bool) (offered : Option Hold) :
    (t.settleHold flag ends offered).acc = t.acc := by
  obtain ⟨x, m, h⟩ := t.settleHold_frame flag ends offered
  rw [h]

theorem State.holdOffered_eq (s : State) (curve : Curve) :
    s.holdOffered curve =
      if (curve = .fast ∧ s.lnk.power = .active ∧ s.hotlineHeld = false) ∧ s.stl.image.holdTime ≠ 0 then
        s.downstreamPickup.map fun id => ⟨id, s.now⟩ else none := by
  rw [State.holdOffered]
  congr 1
  simp only [Bool.and_eq_true, decide_eq_true_eq, Bool.not_eq_true', eq_iff_iff]
  tauto

theorem State.peerTripSince_iff (s : State) (peer : Nat) (start : Uptime) :
    s.peerTripSince peer start = true ↔ ∃ e ∈ s.pvt, e.id = peer ∧ ∃ v, e.lastEvent = some v ∧
      v.kind = .trip ∧ ageOf s.now v.time < ageOf s.now start := by
  simp [State.peerTripSince, Option.any_eq_true]

theorem State.holdEnds_iff (s : State) (curve : Curve) (x : Hold) :
    s.holdEnds curve x = true ↔ 10 * s.stl.image.holdTime ≤ ageOf s.now x.start ∨
      ¬(curve = .fast ∧ s.lnk.power = .active ∧ s.hotlineHeld = false) ∨
      ∃ e ∈ s.pvt, e.id = x.peer ∧ ∃ v, e.lastEvent = some v ∧ v.kind = .trip ∧
        ageOf s.now v.time < ageOf s.now x.start := by
  rw [← State.peerTripSince_iff]
  simp only [State.holdEnds, Bool.or_eq_true, decide_eq_true_eq, ne_eq, not_and_or,
    Bool.not_eq_false]
  tauto

/-! ### The accumulator (R24, R25, R32) -/

theorem rise_of_hold (hold : Option Hold) (acc rate : Nat) :
    rise hold.isSome acc rate = min (if hold = none then 65536 else 65535) (acc + rate) := by
  cases hold <;> rfl

theorem fall_of_some (acc d : Nat) : fall acc (some d) = if d ≤ acc then acc - d else 0 := by
  rw [fall]
  split <;> omega

section
variable (s : State) (curve : Curve) (pickup : Nat) (reset : Option Nat) (rms : Nat) (t : Toc)

theorem State.tocUpdate_pickedUp :
    (s.tocUpdate curve pickup reset rms t).pickedUp = tocFlag t.pickedUp rms pickup :=
  Toc.settleHold_pickedUp _ _ _ _

theorem State.tocUpdate_acc_of_pickedUp (h : (s.tocUpdate curve pickup reset rms t).pickedUp = true) :
    (s.tocUpdate curve pickup reset rms t).acc =
      min (if (s.tocUpdate curve pickup reset rms t).hold = none then 65536 else 65535)
        (t.acc + rateAt (s.stl.tables.rates curve) (multiple rms pickup)) := by
  rw [← rise_of_hold]
  rw [State.tocUpdate, Toc.move_pickedUp] at h
  rw [State.tocUpdate, Toc.move_acc, if_pos h, Toc.settleHold_acc, Toc.move_hold]

theorem State.tocUpdate_acc_of_dropped (h : (s.tocUpdate curve pickup reset rms t).pickedUp = false) :
    (s.tocUpdate curve pickup reset rms t).acc = fall t.acc reset := by
  rw [State.tocUpdate, Toc.move_pickedUp] at h
  rw [State.tocUpdate, Toc.move_acc, h, Toc.settleHold_acc, if_neg Bool.false_ne_true]

/-- A picked-up element has had its hold settled as one that is picked up. -/
theorem State.tocUpdate_hold_spent (h : (s.tocUpdate curve pickup reset rms t).pickedUp = true) :
    (s.tocUpdate curve pickup reset rms t).hold =
        (t.settleHold true (s.holdEnds curve) (s.holdOffered curve)).hold ∧
      (s.tocUpdate curve pickup reset rms t).spent =
        (t.settleHold true (s.holdEnds curve) (s.holdOffered curve)).spent := by
  rw [State.tocUpdate_pickedUp] at h
  rw [State.tocUpdate, Toc.move_hold, Toc.move_spent, h]
  exact ⟨rfl, rfl⟩

theorem State.tocUpdate_hold_of_dropped (h : (s.tocUpdate curve pickup reset rms t).pickedUp = false) :
    (s.tocUpdate curve pickup reset rms t).hold = none ∧
      (s.tocUpdate curve pickup reset rms t).spent = false := by
  rw [State.tocUpdate_pickedUp] at h
  rw [State.tocUpdate, Toc.move_hold, Toc.move_spent, h]
  exact ⟨rfl, rfl⟩

/-- R21, R24, R25: the flag of a TOC element, its fall and its rise. -/
theorem State.tocUpdate_moves :
    let new := s.tocUpdate curve pickup reset rms t
    new.pickedUp = (if pickup ≤ rms then true else if 16 * rms < 15 * pickup then false else t.pickedUp) ∧
      (new.pickedUp = false → new.acc =
        match reset with
        | none => 0
        | some d => if d ≤ t.acc then t.acc - d else 0) ∧
      (new.pickedUp = true → new.acc = min (if new.hold = none then 65536 else 65535)
        (t.acc + rateAt (s.stl.tables.rates curve) (min 639 (16 * rms / pickup)))) := by
  refine ⟨s.tocUpdate_pickedUp curve pickup reset rms t, fun dropped => ?_,
    s.tocUpdate_acc_of_pickedUp curve pickup reset rms t⟩
  rw [State.tocUpdate_acc_of_dropped _ _ _ _ _ _ dropped]
  cases reset with
  | none => rfl
  | some d => exact fall_of_some t.acc d

/-- R31, R33: what becomes of the hold of a TOC element. -/
theorem State.tocUpdate_settles :
    let new := s.tocUpdate curve pickup reset rms t
    let quick : Prop := curve = .fast ∧ s.lnk.power = .active ∧ s.hotlineHeld = false
    (new.pickedUp = false → new.hold = none ∧ new.spent = false) ∧
      (new.pickedUp = true → t.hold = none → new.spent = t.spent ∧
        new.hold = (if t.spent = false ∧ quick ∧ s.stl.image.holdTime ≠ 0 then
          s.downstreamPickup.map fun id => ⟨id, s.now⟩ else none)) ∧
      (∀ x, new.pickedUp = true → t.hold = some x →
        (s.holdEnds curve x = true → new.hold = none ∧ new.spent = true) ∧
        (¬s.holdEnds curve x = true → new.hold = some x ∧ new.spent = t.spent)) := by
  refine ⟨s.tocUpdate_hold_of_dropped curve pickup reset rms t, fun up hold => ?_, fun x up hold => ?_⟩
  · obtain ⟨hhold, hspent⟩ := s.tocUpdate_hold_spent curve pickup reset rms t up
    rw [hhold, hspent, Toc.settleHold_of_no_hold hold, State.holdOffered_eq]
    cases spent : t.spent <;> simp
  · obtain ⟨hhold, hspent⟩ := s.tocUpdate_hold_spent curve pickup reset rms t up
    rw [hhold, hspent, Toc.settleHold_of_hold hold]
    exact ⟨fun ends => by simp [ends], fun stands => by simp [stands, hold]⟩

end

/-! ### The curves (R23, R24) -/

/-- The highest breakpoint that a multiple reaches is one of the nine, and it reaches those up to it alone. -/
theorem le_breakpointOf_iff (mq : Nat) : ∀ i < 9, i ≤ Claims.breakpointOf mq ↔
    i = 0 ∨ [16, 24, 32, 48, 64, 96, 128, 192, 320].getD i 0 ≤ mq := by
  intro i hi
  obtain rfl | hpos := Nat.eq_zero_or_pos i
  · simp
  · unfold Claims.breakpointOf
    interval_cases i
    all_goals
      simp
      split_ifs <;> omega

theorem breakpointOf_lt (mq : Nat) : Claims.breakpointOf mq < 9 := by
  unfold Claims.breakpointOf
  split_ifs <;> omega

/-- The rate at the last of a list of breakpoints that a multiple reaches, `r` when it reaches none: the walk of
`rateAt` (R24). -/
def lastReached (mq r : Nat) (l : List (Nat × Nat)) : Nat := l.foldl (fun r b => if b.1 ≤ mq then b.2 else r) r

theorem lastReached_of_above {mq r : Nat} {l : List (Nat × Nat)} (h : ∀ b ∈ l, mq < b.1) :
    lastReached mq r l = r := by
  induction l with
  | nil => rfl
  | cons b l ih =>
    obtain ⟨hb, hl⟩ := List.forall_mem_cons.mp h
    rw [lastReached, List.foldl_cons, if_neg (Nat.not_le.mpr hb)]
    exact ih hl

/-- When the multiple reaches exactly the breakpoints up to `k`, the rate is the `k`-th. -/
theorem lastReached_zip {mq : Nat} {bs : List Nat} : ∀ {rs : List Nat} {k r : Nat}, bs.length = rs.length →
    k < bs.length → (∀ i < bs.length, bs.getD i 0 ≤ mq ↔ i ≤ k) →
    lastReached mq r (bs.zip rs) = rs.getD k 0 := by
  induction bs with
  | nil => simp
  | cons b bs ih =>
    rintro (_ | ⟨x, rs⟩) k r hlen hk reached
    · simp at hlen
    · have head : b ≤ mq := (reached 0 (Nat.succ_pos _)).mpr (Nat.zero_le k)
      rw [List.zip_cons_cons, lastReached, List.foldl_cons, if_pos head]
      have rest : ∀ i < bs.length, bs.getD i 0 ≤ mq ↔ i + 1 ≤ k := fun i hi =>
        reached (i + 1) (Nat.succ_lt_succ hi)
      cases k with
      | zero =>
        refine lastReached_of_above fun p hp => ?_
        obtain ⟨i, hi, hb⟩ := List.getElem_of_mem (List.of_mem_zip hp).1
        rw [← hb, ← List.getD_eq_getElem _ 0 hi]
        exact Nat.not_le.mp ((rest i hi).not.mpr (Nat.not_succ_le_zero i))
      | succ k =>
        exact ih (Nat.succ_inj.mp hlen) (Nat.lt_of_succ_lt_succ hk)
          (by simpa only [Nat.add_le_add_iff_right] using rest)

theorem rateAt_eq_getD {rates : List Nat} (h : rates.length = 9) (mq : Nat) :
    rateAt rates mq = rates.getD (Claims.breakpointOf mq) 0 := by
  change lastReached mq (rates.headD 0) (breakpoints.zip rates) = _
  by_cases below : mq < 16
  · have above : ∀ b ∈ breakpoints, mq < b := by
      simp only [breakpoints, List.forall_mem_cons, List.not_mem_nil, false_imp_iff, implies_true, and_true]
      omega
    rw [lastReached_of_above fun b hb => above b.1 (List.of_mem_zip hb).1, Claims.breakpointOf,
      if_pos (by omega)]
    cases rates <;> rfl
  · refine lastReached_zip h.symm (breakpointOf_lt mq) fun i hi => ?_
    rw [le_breakpointOf_iff mq i hi]
    refine ⟨Or.inr, fun reached => reached.elim ?_ id⟩
    rintro rfl
    exact Nat.not_lt.mp below

theorem breakpointsOfCurves : Claims.BreakpointsOfCurves := fun mq _ h =>
  ⟨le_breakpointOf_iff mq, breakpointOf_lt mq, rateAt_eq_getD h mq⟩

/-- Rises of one rate with no hold add up, to 65,536 and no further. -/
theorem iterate_rise (rate n : Nat) :
    Nat.iterate (fun a => rise false a rate) n 0 = min 65536 (n * rate) := by
  induction n with
  | zero => simp
  | succ n ih =>
    rw [Function.iterate_succ_apply', ih, rise, Nat.succ_mul]
    simp only [Bool.false_eq_true, if_false]
    omega

theorem ceilDiv_le_iff {a b n : Nat} (hb : 1 ≤ b) : ceilDiv a b ≤ n ↔ a ≤ n * b :=
  (Nat.ceilDiv_eq_add_pred_div a b ▸ ceilDiv_le_iff_le_mul hb).trans (by rw [mul_comm])

theorem tripCountOfSteadyCurrent : Claims.TripCountOfSteadyCurrent := by
  intro rate n hrate
  rw [iterate_rise, ceilDiv_le_iff hrate]
  omega

/-! ### The fall -/

theorem accumulatorFalls_atUpdate : Claims.AccumulatorFalls := by
  refine ⟨fun s r h => ?_, fun c w => ⟨rfl, rfl⟩⟩
  simp only [List.forall_mem_cons, List.not_mem_nil, false_imp_iff, implies_true, and_true]
  rw [State.evaluate_peu h]
  exact ⟨s.tocUpdate_moves _ _ _ _ _, s.tocUpdate_moves _ _ _ _ _, s.tocUpdate_moves _ _ _ _ _,
    s.tocUpdate_moves _ _ _ _ _⟩

/-- Settles O26: the flag decides between the rise and the fall, and both start from the value left. -/
theorem accumulatorFalls : Obligations.AccumulatorFalls := accumulatorFalls_atUpdate

/-! ### Holds and rises -/

theorem holdsSettled : Claims.HoldsSettled := by
  intro s r h hnow
  simp only [List.forall_mem_cons, List.not_mem_nil, false_imp_iff, implies_true, and_true]
  rw [State.evaluate_peu h, hnow]
  simp only [← State.holdEnds_iff]
  exact ⟨s.tocUpdate_settles _ _ _ _ _, s.tocUpdate_settles _ _ _ _ _, s.tocUpdate_settles _ _ _ _ _,
    s.tocUpdate_settles _ _ _ _ _⟩

end Sys2Proof.Machine
end

section
/-! The evaluated update as a whole (R19, R26, R27, R29, R30, R34, R38): the trip request, the episode and its
PICKUP, the sequence step. -/

namespace Sys2Proof.Machine

/-! ### Askings beside other elements and hand-offs (R30, R129)

An asking reads neither the elements nor the hand-offs in transit, so it does the same beside any others. -/

/-- A state with other elements and other hand-offs in transit. -/
@[reducible] def State.withElements (s : State) (p : Peu) (x : Transit) : State := { s with peu := p, transit := x }

@[simp] theorem State.withElements_selectedEntry (s : State) (p : Peu) (x : Transit) :
    (s.withElements p x).selectedEntry = s.selectedEntry := rfl

section
variable (s : State) (p : Peu) (x : Transit)

theorem State.search_withElements : (s.withElements p x).search = s.search.withElements p x := by
  simp only [State.search]
  split
  · split <;> rfl
  · rfl

theorem State.returnSelected_withElements :
    (s.withElements p x).returnSelected = s.returnSelected.withElements p x :=
  State.search_withElements { s with lnk := s.lnk.released } p x

theorem State.dropEntry_withElements (n : Nat) :
    (s.withElements p x).dropEntry n = (s.dropEntry n).withElements p x := by
  simp only [State.dropEntry]
  split
  · exact State.returnSelected_withElements { s with txq := s.txq.remove n } p x
  · exact State.search_withElements { s with txq := s.txq.remove n } p x

theorem State.afterJoin_withElements (n : Nat) :
    (s.withElements p x).afterJoin n = (s.afterJoin n).withElements p x := by
  simp only [State.afterJoin, State.withElements_selectedEntry]
  split
  · split
    · exact s.returnSelected_withElements p x
    · exact s.search_withElements p x
  · exact s.search_withElements p x

theorem State.join_withElements (c : Content) :
    (s.withElements p x).join c = (s.join c).withElements p x :=
  State.afterJoin_withElements
    { s with txq := { s.txq with
      entries := insertEntry (s.newEntry c) s.txq.entries, nextOrder := s.txq.nextOrder + 1 } } p x _

theorem State.joinStatus_withElements (r : Reasons) :
    (s.withElements p x).joinStatus r = (s.joinStatus r).withElements p x := by
  simp only [State.joinStatus]
  split
  · exact s.join_withElements p x _
  · split
    · rw [State.dropEntry_withElements, State.join_withElements]
    · rfl

theorem State.statusDemand_withElements (r : Reason) :
    (s.withElements p x).statusDemand r = (s.statusDemand r).withElements p x := by
  simp only [State.statusDemand]
  split
  · exact s.joinStatus_withElements p x _
  · split <;> rfl

theorem State.joinFrame_withElements (c : Content) :
    (s.withElements p x).joinFrame c = (s.joinFrame c).withElements p x := by
  simp only [State.joinFrame]
  split
  · exact s.join_withElements p x c
  · split
    · rw [State.dropEntry_withElements, State.join_withElements, State.statusDemand_withElements]
    · exact s.statusDemand_withElements p x _

theorem State.askPickup_withElements (e : ElementSet) :
    (s.withElements p x).askPickup e = (s.askPickup e).withElements p x :=
  s.joinFrame_withElements p x _

end

/-! ### The update (R19, R27, R29, R30, R34) -/

/-- The state after the PICKUP that an evaluated record asks for, if it asks for one (R30). -/
def State.pickupAskedAt (s : State) (r : UpdateRecord) : State :=
  if (s.elementsAt r).anyPickup && !s.peu.anyPickup && s.sqc.state ≠ some .closing then
    s.askPickup (s.elementsAt r).pickedUp else s

/-- An evaluated record leaves the elements, the hand-offs and the PICKUP, and nothing else new. -/
theorem State.evaluate_eq {s : State} {r : UpdateRecord} (h : s.evaluates r = true) :
    s.evaluate r = (s.pickupAskedAt r).withElements (s.peuAt r) { s.transit with
      reports := s.transit.reports ++ s.tripReportsAt r ++ s.stepReportsAt r } := by
  rw [State.evaluate, if_pos h, State.evaluateElements_eq, State.evaluateEpisode]
  change (if (s.elementsAt r).anyPickup && !s.peu.anyPickup && s.sqc.state ≠ some .closing then _
    else if s.peu.anyPickup && !(s.elementsAt r).anyPickup && s.stepDue r s.peu.episode then _ else _) = _
  by_cases begins : ((s.elementsAt r).anyPickup && !s.peu.anyPickup && s.sqc.state ≠ some .closing) = true
  · have noStep : s.stepReportsAt r = [] := by
      simp only [Bool.and_eq_true, Bool.not_eq_true'] at begins
      simp [State.stepReportsAt, begins]
    rw [if_pos begins, State.pickupAskedAt, if_pos begins, noStep, List.append_nil]
    exact State.askPickup_withElements s _ _ _
  · rw [if_neg begins, State.pickupAskedAt, if_neg begins, State.stepReportsAt]
    split
    · rfl
    · rw [List.append_nil]
      rfl

/-- Where the elements evaluate, the states in which an episode is eligible are those outside CLOSING (R19,
R29). -/
theorem State.eligible_of_evaluates {s : State} {r : UpdateRecord} (h : s.evaluates r = true) :
    (s.sqc.state = some .closed ∨ s.sqc.state = some .reclaim) ↔ s.sqc.state ≠ some .closing := by
  obtain ⟨-, -, h⟩ := State.evaluates_iff.mp h
  obtain h | h | h := h <;> simp [h]

theorem State.stepDue_iff (s : State) (r : UpdateRecord) (e : Option Episode) :
    s.stepDue r e = true ↔ s.stl.image.seqCoord = true ∧
      (s.sqc.state = some .closed ∨ s.sqc.state = some .reclaim) ∧ r.vs = .live ∧
      s.sqc.shot + 1 < s.effectiveL ∧ e.any (fun x => x.eligible && 2 ≤ x.length) = true := by
  simp only [State.stepDue, Bool.and_eq_true, Bool.or_eq_true, decide_eq_true_eq]
  tauto

theorem episodeAfter_eq (before after closing : Bool) (e : Option Episode) :
    episodeAfter before after closing e = if after = false then none
      else if before = true then e.map fun x => { x with length := min 65535 (x.length + 1) }
      else some ⟨1, !closing⟩ := by
  simp [episodeAfter]

/-- An eligible episode that begins asks for its PICKUP (R29, R30). -/
theorem State.pickupAskedAt_eq {s : State} {r : UpdateRecord} (h : s.evaluates r = true) :
    s.pickupAskedAt r =
      if s.peu.anyPickup = false ∧ (s.peuAt r).anyPickup = true ∧
          decide (s.sqc.state = some .closed ∨ s.sqc.state = some .reclaim) = true then
        s.askPickup (s.peuAt r).pickedUp else s := by
  refine if_congr ?_ rfl rfl
  rw [decide_eq_true_eq, State.eligible_of_evaluates h]
  change ((s.peuAt r).anyPickup && !s.peu.anyPickup && _) = true ↔ _
  simp only [Bool.and_eq_true, Bool.not_eq_true', decide_eq_true_eq]
  tauto

/-- The sequence step is reported exactly under the conditions of R34. -/
theorem State.stepReportsAt_eq (s : State) (r : UpdateRecord) :
    s.stepReportsAt r =
      if s.peu.anyPickup = true ∧ (s.peuAt r).anyPickup = false ∧ s.stl.image.seqCoord = true ∧
          decide (s.sqc.state = some .closed ∨ s.sqc.state = some .reclaim) = true ∧ r.vs = .live ∧
          s.sqc.shot + 1 < s.effectiveL ∧
          s.peu.episode.any (fun e => e.eligible && 2 ≤ e.length) = true then
        [.sequenceStep r.time] else [] := by
  refine if_congr ?_ rfl rfl
  rw [Bool.and_eq_true, State.stepDue_iff, decide_eq_true_eq, Bool.and_eq_true, Bool.not_eq_true', and_assoc]
  rfl

theorem tripRequestedAtUpdate_evaluated : Claims.TripRequestedAtUpdate := by
  intro s r h
  obtain ⟨-, clear, -⟩ := State.evaluates_iff.mp h
  have outstanding : (s.peuAt r).outstanding = (s.tripsAt r).any := by
    rw [State.peuAt_outstanding, clear, Bool.or_false]
  simp only [State.evaluate_peu h]
  refine ⟨outstanding, ?_, ?_⟩
  · have eligible : decide (s.sqc.state = some .closed ∨ s.sqc.state = some .reclaim) =
        !decide (s.sqc.state = some .closing) := by
      rw [← decide_not, decide_eq_decide]
      exact State.eligible_of_evaluates h
    rw [eligible]
    exact episodeAfter_eq _ _ _ _
  · rw [State.evaluate_eq h, State.pickupAskedAt_eq h, State.stepReportsAt_eq, outstanding]
    simp only [decide_eq_true_eq]
    rfl

/-! ### When the elements evaluate, and by what (R19, R22, R26, R38) -/

theorem State.selection_curve (s : State) :
    s.selection.curve = if s.hotlineHeld = true ∨ s.sqc.shot + 1 ≤ s.stl.image.fastShots then .fast
      else .delayed := by
  cases hotline : s.hotlineHeld <;> simp [State.selection, hotline]

theorem State.selection_inst (s : State) :
    s.selection.inst = (s.hotlineHeld || s.stl.image.instMask.testBit s.sqc.shot) := by
  cases hotline : s.hotlineHeld <;> simp [State.selection, hotline]

theorem State.tagHold_iff (s : State) :
    s.tagHold = true ↔ s.tgt.hotlineOn = true ∨ s.rtm.items.tags ≠ [] ∨ s.rtm.items.tagUnknown = true := by
  simp [State.tagHold, or_assoc]

theorem State.effectiveL_eq (s : State) :
    s.effectiveL = if s.sqc.nonreclose = true ∨ s.tgt.hotlineOn = true ∨ s.rtm.items.tags ≠ [] ∨
      s.rtm.items.tagUnknown = true ∨ s.rsl.state = .restored then 1 else s.stl.image.l := by
  refine if_congr ?_ rfl rfl
  rw [Bool.or_eq_true, Bool.or_eq_true, State.tagHold_iff, decide_eq_true_eq]
  tauto

theorem elementsEvaluate : Claims.ElementsEvaluate := by
  intro s r
  refine ⟨State.evaluates_iff, State.evaluate_of_not, ⟨s.selection_curve, s.selection_inst⟩, fun h => ?_,
    s.effectiveL_eq⟩
  simp only [List.forall_mem_cons, List.not_mem_nil, false_imp_iff, implies_true, and_true]
  rw [State.evaluate_peu h]
  exact ⟨instFlag_eq _ _ _ _, instFlag_eq _ _ _ _, instFlag_eq _ _ _ _, instFlag_eq _ _ _ _⟩

/-! ### The rise by the curves (R23, R24) -/

theorem Tables.rates_eq (t : Tables) (c : Curve) :
    t.rates c = if c = .fast then t.fastRates else t.delayedRates := by
  cases c <;> rfl

theorem staircaseRises : Claims.StaircaseRises := by
  intro s r hup sound h rates
  have nine : rates.length = 9 := by
    obtain ⟨fastNine, -⟩ := sound hup s.stl.tables.fastRates List.mem_cons_self
    obtain ⟨delayedNine, -⟩ := sound hup s.stl.tables.delayedRates (List.mem_cons_of_mem _ List.mem_cons_self)
    exact (apply_ite List.length _ _ _).trans (by rw [fastNine, delayedNine, ite_self])
  have selected : s.stl.tables.rates s.selection.curve = rates := Tables.rates_eq _ _
  have rises (pickup : Nat) (reset : Option Nat) (rms : Nat) (t : Toc) :=
    s.tocUpdate_acc_of_pickedUp s.selection.curve pickup reset rms t
  simp only [selected, rateAt_eq_getD nine] at rises
  simp only [List.forall_mem_cons, List.not_mem_nil, false_imp_iff, implies_true, and_true]
  rw [State.evaluate_peu h]
  exact ⟨rises _ _ _ _, rises _ _ _ _, rises _ _ _ _, rises _ _ _ _⟩

/-- Settles O25: the update is its elements, its hand-offs and its PICKUP, and each element takes its flag, its hold
and its rise by the rules of one element. -/
theorem tripRequestedAtUpdate : Obligations.TripRequestedAtUpdate :=
  ⟨tripRequestedAtUpdate_evaluated, elementsEvaluate, holdsSettled, staircaseRises, breakpointsOfCurves,
    tripCountOfSteadyCurrent⟩

end Sys2Proof.Machine
end


section
/-! What a piece of an event keeps of the laws of the shot (R38), of the accumulators (R32), of the close
operation (R48, R70) and of the trip coil (R67): one relation, and one lemma for each operation through which a
command acts. -/

namespace Sys2Proof.Machine

open Sys2Proof.Safety

/-! ### The mechanism -/

/-- `n` follows `m` within an event: a close operation is new only under `c`, the trip coil goes on only with a
READY trip store, and a READY store that draws no charge stays so. -/
structure Mdu.Follows (c : Prop) (m n : Mdu) : Prop where
  close : n.op = .close → m.op = .close ∨ c
  coil : n.tripCoil = true → m.tripCoil = true ∨ n.trip.state = .ready
  tripReady : m.trip.state = .ready → n.trip.state = .ready
  closeReady : m.close.state = .ready → m.close.enable = false → n.close.state = .ready ∧ n.close.enable = false

theorem Mdu.Follows.refl (c : Prop) (m : Mdu) : Mdu.Follows c m m := ⟨.inl, .inl, id, fun h k => ⟨h, k⟩⟩

theorem Mdu.Follows.trans {c : Prop} {m n k : Mdu} (h : Mdu.Follows c m n) (g : Mdu.Follows c n k) :
    Mdu.Follows c m k where
  close e := (g.close e).elim h.close .inr
  coil e := (g.coil e).elim (fun f => (h.coil f).imp_right g.tripReady) .inr
  tripReady e := g.tripReady (h.tripReady e)
  closeReady e f := by
    obtain ⟨ready, enable⟩ := h.closeReady e f
    exact g.closeReady ready enable

/-- The two parts of a change, the later one first: its state is read off it. -/
theorem Mdu.Follows.after {c : Prop} {m n k : Mdu} (g : Mdu.Follows c n k) (h : Mdu.Follows c m n) :
    Mdu.Follows c m k := h.trans g

/-- A change that leaves both stores and drives neither coil anew. -/
theorem Mdu.Follows.of_op {c : Prop} {m n : Mdu} (trip : n.trip = m.trip) (close : n.close = m.close)
    (hclose : n.op = .close → m.op = .close) (hcoil : n.tripCoil = true → m.tripCoil = true) :
    Mdu.Follows c m n where
  close e := .inl (hclose e)
  coil e := .inl (hcoil e)
  tripReady e := by rw [trip, e]
  closeReady e f := by rw [close]; exact ⟨e, f⟩

/-- A change that leaves the operation and both stores. -/
theorem Mdu.Follows.of_same_op {c : Prop} {m n : Mdu} (trip : n.trip = m.trip) (close : n.close = m.close)
    (op : n.op = m.op) : Mdu.Follows c m n :=
  .of_op trip close (by rw [op]; exact id) (by simp only [Mdu.tripCoil, op]; exact id)

theorem Store.isReady_iff {t : Store} : t.isReady = true ↔ t.state = .ready := decide_eq_true_iff

theorem Mdu.drive_follows (c : Prop) {m : Mdu} (ready : m.trip.isReady = true) (now : Uptime) (a : Attempt) :
    Mdu.Follows c m (m.drive now a) :=
  ⟨by simp [Mdu.drive], fun _ => .inr (Store.isReady_iff.mp ready), id, fun h k => ⟨h, k⟩⟩

/-- An attempt of a trip operation drives the coil with the trip store READY, and waits otherwise (R67). -/
theorem Mdu.attempt_follows (c : Prop) (m : Mdu) (now : Uptime) (a : Attempt) :
    Mdu.Follows c m (m.attempt now a) := by
  unfold Mdu.attempt
  split
  · next ready => exact Mdu.drive_follows c ready now a
  · exact ⟨by simp, by simp [Mdu.tripCoil], id, fun h k => ⟨h, k⟩⟩

theorem Mdu.askTrip_follows (c : Prop) (m : Mdu) (now : Uptime) (o : OpCause) (w : Option Nat) :
    Mdu.Follows c m (m.askTrip now o w) := by
  unfold Mdu.askTrip
  split
  · exact .refl c m
  · exact .trans
      (n := { m with opCause := some o, wear := w, driveStart := none, faultTimer := none })
      (.of_same_op rfl rfl rfl) (Mdu.attempt_follows c _ now .first)

/-- The end of an operation leaves none in flight (R64). -/
theorem Mdu.endOp_follows (c : Prop) (m : Mdu) (now : Uptime) : Mdu.Follows c m (m.endOp now) :=
  .of_op rfl rfl (by simp [Mdu.endOp]) (by simp [Mdu.endOp, Mdu.tripCoil])

theorem Mdu.driveWhenReady_follows (c : Prop) (m : Mdu) (now : Uptime) :
    Mdu.Follows c m (m.driveWhenReady now) := by
  unfold Mdu.driveWhenReady
  split
  · split
    · next ready => exact Mdu.drive_follows c ready now _
    · exact .refl c m
  · exact .refl c m

/-- The charger's assignment gives a READY store nothing and takes nothing from one that draws no charge (R75). -/
theorem Mdu.assignCharger_follows (c : Prop) (m : Mdu) (now : Uptime) (allowed : Bool) :
    Mdu.Follows c m (m.assignCharger now allowed) where
  close := .inl
  coil := .inl
  tripReady h := by simp [Mdu.assignCharger, Store.wants, h]
  closeReady h k := by simp [Mdu.assignCharger, Store.wants, Store.withdraw, h, k]

/-! ### The state -/

/-- `t` follows `s` within an event: the settings stand, the laws of the shot and of the accumulators are kept,
and the mechanism follows, a close operation new only under `c`. -/
structure Follows (c : Prop) (s t : State) : Prop where
  stl : t.stl = s.stl
  shot : ShotSound s → ShotSound t
  accumulators : AccumulatorsSound s → AccumulatorsSound t
  mdu : Mdu.Follows c s.mdu t.mdu

theorem Follows.refl (c : Prop) (s : State) : Follows c s s := ⟨rfl, id, id, .refl c _⟩

theorem Follows.trans {c : Prop} {s t u : State} (h : Follows c s t) (k : Follows c t u) : Follows c s u :=
  ⟨k.stl.trans h.stl, k.shot ∘ h.shot, k.accumulators ∘ h.accumulators, h.mdu.trans k.mdu⟩

/-- The two parts of an event, the later one first: its state is read off it. -/
theorem Follows.after {c : Prop} {s t u : State} (k : Follows c t u) (h : Follows c s t) : Follows c s u := h.trans k

theorem Follows.mono {c d : Prop} {s t : State} (hcd : c → d) (h : Follows c s t) : Follows d s t :=
  ⟨h.stl, h.shot, h.accumulators, fun e => (h.mdu.close e).imp_right hcd, h.mdu.coil, h.mdu.tripReady,
    h.mdu.closeReady⟩

theorem accumulatorsSound_of_start {s : State} (h : s.peu = Peu.start) : AccumulatorsSound s := by
  simp [AccumulatorsSound, AccumulatorSound, h, Peu.start, Ch4.all]

/-- What suffices for a change of the sequence and the mechanism: the shot stands or is in range, and the elements
stand or are cleared. -/
theorem Follows.of_frame {c : Prop} {s t : State} (stl : t.stl = s.stl)
    (shot : t.sqc.shot = s.sqc.shot ∨ t.sqc.shot ≤ s.stl.image.l) (peu : t.peu = s.peu ∨ t.peu = Peu.start)
    (mdu : Mdu.Follows c s.mdu t.mdu) : Follows c s t where
  stl := stl
  shot h := by
    unfold ShotSound at h ⊢
    rw [stl]
    omega
  accumulators h := by
    obtain peu | peu := peu
    · unfold AccumulatorsSound at h ⊢
      rwa [peu]
    · exact accumulatorsSound_of_start peu
  mdu := mdu

/-- `t` has the sequence, the mechanism, the elements and the settings of `s`. -/
structure SameCore (s t : State) : Prop where
  sqc : t.sqc = s.sqc
  mdu : t.mdu = s.mdu
  peu : t.peu = s.peu
  stl : t.stl = s.stl

theorem SameCore.refl (s : State) : SameCore s s := ⟨rfl, rfl, rfl, rfl⟩

theorem SameCore.trans {s t u : State} (h : SameCore s t) (k : SameCore t u) : SameCore s u :=
  ⟨k.sqc.trans h.sqc, k.mdu.trans h.mdu, k.peu.trans h.peu, k.stl.trans h.stl⟩

theorem SameCore.after {s t u : State} (k : SameCore t u) (h : SameCore s t) : SameCore s u := h.trans k

theorem OnlyLink.sameCore {s t : State} (h : OnlyLink s t) : SameCore s t := by
  obtain ⟨_, _, rfl⟩ := h
  exact ⟨rfl, rfl, rfl, rfl⟩

theorem OnlyQueue.sameCore {s t : State} (h : OnlyQueue s t) : SameCore s t := h.onlyLink.sameCore

theorem SameCore.follows {s t : State} (c : Prop) (h : SameCore s t) : Follows c s t :=
  .of_frame h.stl (.inl (by rw [h.sqc])) (.inl h.peu) (by rw [h.mdu]; exact .refl c _)

theorem OnlyQueue.follows {s t : State} (c : Prop) (h : OnlyQueue s t) : Follows c s t := h.sameCore.follows c

/-! ### The sequence (R20, R38, R41 to R58) -/

section
variable (c : Prop) (s : State)

theorem State.enter_follows (x : SeqState) (k : Option Cause) : Follows c s (s.enter x k) := by
  obtain ⟨p, h, hp⟩ := State.enter_frame s x k
  rw [h]
  exact .of_frame rfl (.inl rfl) (by rw [hp]; split <;> simp) (.refl c _)

theorem State.askSeqEvent_follows (k : EventKind) : Follows c s (s.askSeqEvent k) :=
  (State.askSeqEvent_onlyQueue s k).follows c

theorem State.toLockout_follows (k : Cause) : Follows c s (s.toLockout k) :=
  .trans (.trans (t := { s with sqc := { s.sqc.stopTimers with closeSource := none } })
    (.of_frame rfl (.inl rfl) (.inl rfl) (.refl c _)) (State.enter_follows c _ _ _)) (State.askSeqEvent_follows c _ _)

theorem State.enterStuck_follows (k : Cause) : Follows c s (s.enterStuck k) :=
  .trans (t := { s with sqc := { s.sqc.stopTimers with closeSource := none, opCause := none } })
    (.of_frame rfl (.inl rfl) (.inl rfl) (.refl c _)) (State.enter_follows c _ _ _)

/-- RECLAIM is entered with a shot in range (R46, R47, R57). -/
theorem State.reclaim_follows {shot : Nat} (h : shot = s.sqc.shot ∨ shot ≤ s.stl.image.l) :
    Follows c s (s.reclaim shot) :=
  .of_frame rfl h (.inl rfl) (.refl c _)

theorem State.trip_follows (o : OpCause) (e : ElementSet) (r : Ch4 Nat) : Follows c s (s.trip o e r) :=
  .of_frame rfl (.inl rfl) (.inl rfl) (Mdu.askTrip_follows c _ _ _ _)

theorem State.latestRms_sameCore : SameCore s s.latestRms.2 := by
  obtain ⟨_, h⟩ := State.latestRms_frame s
  rw [h]
  exact ⟨rfl, rfl, rfl, rfl⟩

theorem State.tripUnasked_follows (o : OpCause) : Follows c s (s.tripUnasked o) :=
  (s.latestRms_sameCore.follows c).trans (State.trip_follows c _ _ _ _)

theorem State.stuckTrip_follows (o : OpCause) : Follows c s (s.stuckTrip o) :=
  (s.latestRms_sameCore.follows c).trans
    (.of_frame rfl (.inl rfl) (.inl rfl) (Mdu.askTrip_follows c _ _ _ _))

theorem State.handState_follows : Follows c s s.handState := by
  unfold State.handState
  split
  · exact .refl c s
  · exact .of_frame rfl (.inl rfl) (.inr rfl) (.refl c _)

/-- A trip request raises the shot to at most L (R38, R41). -/
theorem State.takeTripRequest_follows (r : TripRequest) : Follows c s (s.takeTripRequest r) := by
  have taken : Follows c s (State.trip
      { s with sqc := { s.sqc with shot := shotAfterTrip s.sqc.shot s.stl.image.l } } .protection
      r.elements r.rms) :=
    (State.trip_follows c _ _ _ _).after (.of_frame rfl (.inr (Nat.min_le_left _ _)) (.inl rfl) (.refl c _))
  unfold State.takeTripRequest
  split
  case h_1 | h_2 | h_3 => exact taken
  case h_4 | h_9 => exact .refl c s
  case h_5 | h_6 | h_7 | h_8 => exact State.handState_follows c s

theorem State.manualTrip_follows (o : OpCause) : Follows c s (s.manualTrip o).1 := by
  unfold State.manualTrip
  split
  case h_1 | h_2 | h_3 => exact State.tripUnasked_follows c s o
  case h_4 | h_5 => exact State.toLockout_follows c s _
  case h_6 | h_7 | h_8 => exact .refl c s
  case h_9 =>
    split
    · exact .refl c s
    · exact State.stuckTrip_follows c s o

theorem State.restoreOpen_follows : Follows c s s.restoreOpen.1 := by
  unfold State.restoreOpen
  split
  · exact State.tripUnasked_follows c s _
  · exact .refl c s

theorem State.askTripEvents_follows (k : EventKind) : Follows c s (s.askTripEvents k) :=
  (State.askSeqEvent_follows c s _).trans (State.askSeqEvent_follows c _ _)

theorem State.enterDead_follows : Follows c s s.enterDead :=
  .trans (t := { s with sqc := { s.sqc with deadTimer := some (s.timer (deadTime s.stl.image s.sqc.shot)) } })
    (.of_frame rfl (.inl rfl) (.inl rfl) (.refl c _)) (State.enter_follows c _ _ _)

theorem State.takeOpen_follows (ms : Nat) : Follows c s (s.takeOpen ms) := by
  have confirmed : Follows c s { s with sqc := s.sqc.confirmed ms } :=
    .of_frame rfl (.inl rfl) (.inl rfl) (.refl c _)
  unfold State.takeOpen
  dsimp only
  split
  · split
    · split
      · exact confirmed.trans ((State.enterDead_follows c _).trans (State.askTripEvents_follows c _ _))
      · exact confirmed.trans ((State.enter_follows c _ _ _).trans (State.askTripEvents_follows c _ _))
    · exact confirmed.trans ((State.enter_follows c _ _ _).trans (State.askTripEvents_follows c _ _))
    · exact .refl c s
  · exact (State.askSeqEvent_follows c _ _).after (.of_frame rfl (.inl rfl) (.inl rfl) (.refl c _))
  · exact .refl c s

theorem State.takeTripFail_follows : Follows c s s.takeTripFail := by
  unfold State.takeTripFail
  split
  · exact (State.enterStuck_follows c s _).trans (State.askSeqEvent_follows c _ _)
  · exact (State.askSeqEvent_follows c _ _).after (.of_frame rfl (.inl rfl) (.inl rfl) (.refl c _))
  · exact .refl c s

theorem State.takePositionFault_follows : Follows c s s.takePositionFault := by
  unfold State.takePositionFault
  split
  · exact .of_frame rfl (.inl rfl) (.inl rfl) (.refl c _)
  · exact (State.enterStuck_follows c s _).trans (State.askSeqEvent_follows c _ _)
  · exact State.enterStuck_follows c s _

theorem State.takeClosed_follows : Follows c s s.takeClosed := by
  unfold State.takeClosed
  split
  · next src _ _ =>
    refine (State.reclaim_follows c s ?_).trans (State.askSeqEvent_follows c _ _)
    cases src
    case auto => exact .inl rfl
    case manual | crew | restore => exact .inr (Nat.sub_le _ _)
  · exact .refl c s

theorem State.takeCloseFail_follows : Follows c s s.takeCloseFail := by
  unfold State.takeCloseFail
  split
  · exact State.toLockout_follows c s _
  · exact .refl c s

theorem State.reclaimOver_follows : Follows c s s.reclaimOver :=
  (State.enter_follows c _ _ _).after (.of_frame rfl (.inr (Nat.zero_le _)) (.inl rfl) (.refl c _))

theorem State.demandOver_follows : Follows c s s.demandOver :=
  .of_frame rfl (.inl rfl) (.inl rfl) (.refl c _)

/-- The effective L is 1 or L (R38). -/
theorem State.effectiveL_cases : s.effectiveL = 1 ∨ s.effectiveL = s.stl.image.l := by
  unfold State.effectiveL
  split
  · exact .inl rfl
  · exact .inr rfl

/-- A step is taken below the effective L less 1 alone, so that its shot is in range (R38, R47). -/
theorem State.takeStep_follows : Follows c s s.takeStep := by
  unfold State.takeStep
  split
  · next taken =>
    have below : s.sqc.shot + 1 < s.effectiveL := by simp_all
    refine State.reclaim_follows c s (.inr ?_)
    obtain h | h := s.effectiveL_cases <;> omega
  · exact .refl c s

theorem State.takeUnsolicitedOpen_follows (h : Bool) : Follows c s (s.takeUnsolicitedOpen h) := by
  unfold State.takeUnsolicitedOpen
  split
  · exact State.toLockout_follows c s _
  · exact .refl c s

theorem State.takeUnsolicitedClose_follows : Follows c s s.takeUnsolicitedClose := by
  unfold State.takeUnsolicitedClose
  split
  · exact (State.reclaim_follows c s (.inr (Nat.sub_le _ _))).trans (State.askSeqEvent_follows c _ _)
  · exact .refl c s

theorem State.reopenWatch_sameCore : SameCore s s.reopenWatch := by
  unfold State.reopenWatch
  split
  · exact ⟨rfl, rfl, rfl, rfl⟩
  · exact .refl s

theorem State.externalClose_follows : Follows c s s.externalClose := by
  unfold State.externalClose
  split
  · exact (State.takeUnsolicitedClose_follows c s).trans ((State.reopenWatch_sameCore _).follows c)
  · exact State.takeUnsolicitedClose_follows c s

theorem State.lockDead_follows (k : Cause) : Follows c s (s.lockDead k) := by
  unfold State.lockDead
  split
  · exact State.toLockout_follows c s k
  · exact .refl c s

theorem State.classCutoff_follows : Follows c s s.classCutoff := by
  unfold State.classCutoff
  dsimp only
  split
  · exact (State.demandOver_follows c s).trans (State.toLockout_follows c _ _)
  · exact State.demandOver_follows c s

theorem State.nonrecloseReading_follows (on : Bool) : Follows c s (s.nonrecloseReading on) := by
  have read : Follows c s { s with sqc := { s.sqc with nonreclose := on, nonrecloseRead := true } } :=
    .of_frame rfl (.inl rfl) (.inl rfl) (.refl c _)
  unfold State.nonrecloseReading
  dsimp only
  split
  · exact read.trans (State.lockDead_follows c _ _)
  · exact read

theorem State.handleReading_follows (down : Bool) : Follows c s (s.handleReading down) := by
  have read : Follows c s { s with mdu := { s.mdu with handleDown := down, handleRead := true } } :=
    .of_frame rfl (.inl rfl) (.inl rfl) (.of_same_op rfl rfl rfl)
  unfold State.handleReading
  dsimp only
  split
  · exact read.trans (State.lockDead_follows c _ _)
  · exact read

end

/-! ### Closes (R44, R45, R48, R52, R54, R70) -/

/-- A close operation may begin: the gate open and the close store READY (R48, R70). -/
def State.mayClose (s : State) : Prop := s.gateOpen = true ∧ s.mdu.close.state = .ready

theorem State.gateOpen_iff (s : State) : s.gateOpen = true ↔ s.tagHold = false ∧ s.mdu.handleDown = false ∧
    s.bcu.cls ≠ some .cutoff ∧ s.sqc.state ≠ some .stuck := by
  simp [State.gateOpen, and_assoc]

/-- A close asked of the MDU is taken with the close store READY alone (R70). -/
theorem State.askClose_follows (s : State) : Follows (s.mdu.close.state = .ready) s s.askClose := by
  unfold State.askClose
  split
  · next taken =>
    obtain ⟨-, ready⟩ := Bool.and_eq_true_iff.mp taken
    refine .of_frame rfl (.inl rfl) (.inl rfl)
      ⟨fun _ => .inr (Store.isReady_iff.mp ready), ?_, id, fun h k => ⟨h, k⟩⟩
    simp [Mdu.tripCoil]
  · exact .of_frame rfl (.inl rfl) (.inl rfl) (.refl _ _)

theorem State.beginClose_follows {s : State} (gate : s.gateOpen = true) (src : CloseSource) :
    Follows s.mayClose s (s.beginClose src) := by
  have entered : Follows s.mayClose s
      (State.enter { s with sqc := { s.sqc.stopTimers with closeSource := some src } } .closing none) :=
    (State.enter_follows _ _ _ _).after (.of_frame rfl (.inl rfl) (.inl rfl) (.refl _ _))
  have asked (u : State) (h : u.mdu = s.mdu) : Follows s.mayClose u u.askClose :=
    (State.askClose_follows u).mono fun ready => ⟨gate, h ▸ ready⟩
  exact entered.trans (asked _ rfl)

/-- Tests 1 to 4 of R52 hold only in LOCKOUT with the gate open. -/
theorem State.closeBar_eq_none {s : State} : s.closeBar = none ↔ s.sqc.state = some .lockout ∧
    s.tagHold = false ∧ s.mdu.handleDown = false ∧ s.bcu.cls ≠ some .cutoff := by
  unfold State.closeBar
  split_ifs <;> simp_all

theorem State.gateOpen_of_closeBar {s : State} (h : s.closeBar = none) : s.gateOpen = true := by
  obtain ⟨state, tag, handle, cls⟩ := State.closeBar_eq_none.mp h
  exact s.gateOpen_iff.mpr ⟨tag, handle, cls, by simp [state]⟩

theorem State.manualClose_follows (s : State) (src : CloseSource) : Follows s.mayClose s (s.manualClose src).1 := by
  unfold State.manualClose
  split
  · exact .refl _ s
  · next bar =>
    split
    · exact State.beginClose_follows (State.gateOpen_of_closeBar bar) src
    · exact .of_frame rfl (.inl rfl) (.inl rfl) (.refl _ _)

theorem State.restoreClose_follows (s : State) : Follows s.mayClose s s.restoreClose.1 := by
  unfold State.restoreClose
  split
  · exact .refl _ s
  · next bar =>
    split
    · exact State.beginClose_follows (State.gateOpen_of_closeBar bar) _
    · exact .refl _ s

theorem State.deadOver_follows (s : State) : Follows s.mayClose s s.deadOver := by
  have stopped : Follows s.mayClose s { s with sqc := { s.sqc with deadTimer := none } } :=
    .of_frame rfl (.inl rfl) (.inl rfl) (.refl _ _)
  unfold State.deadOver
  dsimp only
  split
  · exact stopped.trans (State.toLockout_follows _ _ _)
  · next gate =>
    split
    · exact stopped.trans (State.beginClose_follows (by simpa using gate) _)
    · split
      · exact stopped.trans (State.toLockout_follows _ _ _)
      · exact stopped.trans ((State.enter_follows _ _ _ _).after (.of_frame rfl (.inl rfl) (.inl rfl) (.refl _ _)))

theorem State.rearm_frame (s : State) : ∃ l, s.rearm = { s with rsl := l } := by
  unfold State.rearm
  split
  · exact ⟨_, rfl⟩
  · exact ⟨s.rsl, rfl⟩

theorem State.closeAsked_follows (s : State) (src : CloseSource) : Follows s.mayClose s (s.closeAsked src).1 := by
  have asked : Follows s.mayClose s (s.rearm.manualClose src).1 := by
    obtain ⟨l, h⟩ := s.rearm_frame
    rw [h]
    exact (State.manualClose_follows { s with rsl := l } src).after (.of_frame rfl (.inl rfl) (.inl rfl) (.refl _ _))
  unfold State.closeAsked
  dsimp only
  split
  · exact asked.trans ((State.reopenWatch_sameCore _).follows _)
  · exact asked

/-! ### The restoration logic (R168, R171 to R173) -/

theorem State.midpointCheck_follows (c : Prop) (s : State) : Follows c s s.midpointCheck := by
  have asked := State.restoreOpen_follows c s
  unfold State.midpointCheck
  split
  · split
    · next t e =>
      rw [e] at asked
      exact asked.trans (.of_frame rfl (.inl rfl) (.inl rfl) (.refl c _))
    · next t _ _ e => rwa [e] at asked
  · exact .refl c s

theorem State.tieClose_follows (s : State) : Follows s.mayClose s s.tieClose := by
  have asked := State.restoreClose_follows s
  unfold State.tieClose
  split
  · split
    · next t e =>
      rw [e] at asked
      exact asked.trans (.of_frame rfl (.inl rfl) (.inl rfl) (.refl _ _))
    · next t _ _ e => rwa [e] at asked
  · split
    · exact .refl _ s
    · split <;> exact .of_frame rfl (.inl rfl) (.inl rfl) (.refl _ _)

theorem State.tieCheck_follows (s : State) (side : Side) : Follows s.mayClose s (s.tieCheck side) := by
  have stopped : Follows s.mayClose s s.stopWait := .of_frame rfl (.inl rfl) (.inl rfl) (.refl _ _)
  unfold State.tieCheck
  dsimp only
  split
  · exact .of_frame rfl (.inl rfl) (.inl rfl) (.refl _ _)
  · exact stopped
  · split
    · exact State.tieClose_follows s
    · exact stopped

theorem State.rslCheck_follows (s : State) : Follows s.mayClose s s.rslCheck := by
  unfold State.rslCheck
  split
  · split
    · exact State.midpointCheck_follows _ s
    · exact .refl _ s
  · split
    · exact State.tieCheck_follows s _
    · exact .refl _ s
  all_goals exact .refl _ s

/-- A check beside changes that the gate and the mechanism do not read. -/
theorem State.rslCheck_follows_of_rsl (s : State) (l : Rsl) :
    Follows s.mayClose s (State.rslCheck { s with rsl := l }) :=
  .trans (t := { s with rsl := l }) (.of_frame rfl (.inl rfl) (.inl rfl) (.refl _ _))
    (State.rslCheck_follows { s with rsl := l })

theorem State.midpointOver_follows (s : State) : Follows s.mayClose s s.midpointOver := by
  unfold State.midpointOver
  split
  · exact s.rslCheck_follows_of_rsl _
  · exact .refl _ s

theorem State.tieOver_follows (s : State) : Follows s.mayClose s s.tieOver := by
  unfold State.tieOver
  split
  · split
    · exact s.rslCheck_follows_of_rsl _
    · exact s.rslCheck_follows_of_rsl _
  · exact .refl _ s

theorem State.rslStoreReady_follows (s : State) : Follows s.mayClose s s.rslStoreReady := by
  unfold State.rslStoreReady
  split
  · exact State.rslCheck_follows s
  · exact .refl _ s

/-- The close store READY at the SQC and then at the RSL; a close that the SQC has begun had the gate open. -/
theorem State.storeReady_follows (s : State) : Follows s.mayClose s s.closeStoreReady.rslStoreReady := by
  unfold State.closeStoreReady
  split
  · next begun =>
    obtain ⟨-, gate⟩ := Bool.and_eq_true_iff.mp begun
    have close := State.beginClose_follows gate .auto
    refine close.trans ((State.rslStoreReady_follows _).mono fun h => ?_)
    obtain ⟨_, ready⟩ := h
    refine ⟨gate, ?_⟩
    revert ready
    unfold State.beginClose State.askClose
    split <;> exact id
  · exact State.rslStoreReady_follows s

/-! ### The end of an event (R75, R97, R107, R166) -/

section
variable (c : Prop) (s : State)

theorem State.midpointEnter_follows : Follows c s s.midpointEnter := by
  unfold State.midpointEnter
  dsimp only
  split
  · exact (State.midpointCheck_follows c _).after (.of_frame rfl (.inl rfl) (.inl rfl) (.refl c _))
  · exact .of_frame rfl (.inl rfl) (.inl rfl) (.refl c _)

theorem State.rslEntry_follows : Follows c s s.rslEntry := by
  unfold State.rslEntry
  split
  · split
    · exact State.midpointEnter_follows c s
    · exact .refl c s
  · split
    · split
      · exact .of_frame rfl (.inl rfl) (.inl rfl) (.refl c _)
      · exact .refl c s
    · exact .refl c s
  · exact .refl c s

theorem State.rslReview_follows (b : RslInputs) (x : Bool) : Follows c s (s.rslReview b x) := by
  have rsl (l : Rsl) : Follows c s { s with rsl := l } := .of_frame rfl (.inl rfl) (.inl rfl) (.refl c _)
  obtain ⟨l, exits⟩ := State.rslExits_frame { s with rsl := { s.rsl with inhibit := s.formInhibit } }
  unfold State.rslReview
  simp only [exits]
  split
  · split
    · exact (State.rslEntry_follows c _).after (rsl l)
    · exact rsl l
  · split
    · exact (State.rslEntry_follows c _).after (rsl { l with storeWait := none })
    · exact rsl { l with storeWait := none }

theorem State.abortTest_follows : Follows c s s.abortTest :=
  ((State.abortTest_onlyQueue s).follows c).after (.of_frame rfl (.inl rfl) (.inl rfl) (.refl c _))

theorem State.abortReview_follows : Follows c s s.abortReview := by
  obtain h | h := State.abortReview_cases s <;> rw [h]
  · exact .refl c s
  · exact State.abortTest_follows c s

theorem State.chargerReview_follows : Follows c s s.chargerReview :=
  .of_frame rfl (.inl rfl) (.inl rfl) (Mdu.assignCharger_follows c _ _ _)

theorem State.endReception_sameCore : SameCore s s.endReception := by
  obtain ⟨_, _, _, h⟩ := State.endReception_frame s
  rw [h]
  exact ⟨rfl, rfl, rfl, rfl⟩

theorem State.listenReview_sameCore : SameCore s s.listenReview := by
  obtain ⟨_, _, _, h⟩ := State.listenReview_frame s
  rw [h]
  exact ⟨rfl, rfl, rfl, rfl⟩

theorem State.settle_follows (b : RslInputs) (x : Bool) : Follows c s (s.settle b x) :=
  (State.rslReview_follows c s b x).trans ((State.abortReview_follows c _).trans
    ((State.chargerReview_follows c _).trans ((State.listenReview_sameCore _).follows c)))

variable {c s}

theorem event_follows {f : State → State} (h : Follows c s (f s)) : Follows c s (event f s) :=
  h.trans (State.settle_follows c _ _ _)

theorem ifRuns_follows {t : State → Option Timer} {f : State → State} (h : Follows c s (f s)) :
    Follows c s (ifRuns t f s) := by
  unfold ifRuns
  split
  · exact h
  · exact .refl c s

theorem whenDue_follows {d : State → Bool} {f : State → State} (h : Follows c s (f s)) :
    Follows c s (whenDue d f s) := by
  unfold whenDue
  split
  · exact h
  · exact .refl c s

/-- An event that may abort a test follows as its own effect does. -/
theorem withAbort_follows {f : State → State} (h : ∀ u, Follows c u (f u)) : Follows c s (withAbort f s) := by
  have drawn : Follows c s { s with free := s.free + 1 } := .of_frame rfl (.inl rfl) (.inl rfl) (.refl c _)
  obtain e | e | e := withAbort_cases f s <;> rw [e]
  · exact h s
  · exact drawn.trans ((State.abortTest_follows c _).trans (h _))
  · exact drawn.trans ((h _).trans (State.abortTest_follows c _))

theorem onArrival_follows {α : Type} {pick : Report → Option α} {f : α → State → State}
    (h : ∀ a u, Follows c u (f a u)) : Follows c s (onArrival pick f s) := by
  unfold onArrival
  split
  · exact (h _ _).after (.of_frame rfl (.inl rfl) (.inl rfl) (.refl c _))
  · exact .refl c s

theorem eitherOrder_follows {f g : State → State} (hf : ∀ u, Follows c u (f u)) (hg : ∀ u, Follows c u (g u)) :
    Follows c s (eitherOrder f g s) :=
  eitherOrder_keeps (Follows c s) f g s (.of_frame rfl (.inl rfl) (.inl rfl) (.refl c _))
    (fun u k => k.trans (hf u)) (fun u k => k.trans (hg u))

end

end Sys2Proof.Machine
end

section
/-! What the operations of the mechanism, the elements, the battery, the tags and the link keep of those laws. -/

namespace Sys2Proof.Machine

open Sys2Proof.Safety

/-! ### Operations of the mechanism (R64, R65, R68, R70, R74) -/

section
variable (c : Prop) (s : State)

/-- A change of the mechanism alone. -/
theorem Follows.of_mdu {m : Mdu} (h : Mdu.Follows c s.mdu m) : Follows c s { s with mdu := m } :=
  .of_frame rfl (.inl rfl) (.inl rfl) h

/-- A position published leaves the operation and the stores. -/
theorem Mdu.publish_follows (m : Mdu) (p : Position) : Mdu.Follows c m (m.publish p) := .of_same_op rfl rfl rfl

theorem State.report_follows (r : Report) : Follows c s (s.report r) :=
  .of_frame rfl (.inl rfl) (.inl rfl) (.refl c _)

theorem State.confirmOpen_follows : Follows c s s.confirmOpen :=
  .of_frame rfl (.inl rfl) (.inl rfl)
    ((Mdu.endOp_follows c _ _).after (.of_same_op rfl rfl rfl))

theorem State.confirmClosed_follows : Follows c s s.confirmClosed :=
  .of_frame rfl (.inl rfl) (.inl rfl)
    ((Mdu.endOp_follows c _ _).after (.of_same_op rfl rfl rfl))

theorem State.failTrip_follows : Follows c s s.failTrip :=
  .of_frame rfl (.inl rfl) (.inl rfl)
    ((Mdu.endOp_follows c _ _).after (.of_same_op rfl rfl rfl))

theorem State.pulseEnd_follows : Follows c s s.pulseEnd := by
  unfold State.pulseEnd
  split
  · exact .of_mdu c s (Mdu.attempt_follows c _ _ _)
  · exact State.failTrip_follows c s
  · exact .refl c s

theorem State.storeWaitEnd_follows : Follows c s s.storeWaitEnd := by
  unfold State.storeWaitEnd
  split
  · exact State.failTrip_follows c s
  · exact .refl c s

theorem State.openSeen_follows : Follows c s s.openSeen := by
  unfold State.openSeen
  split
  · exact State.confirmOpen_follows c s
  · exact .refl c s

theorem State.closedSeen_follows : Follows c s s.closedSeen := by
  unfold State.closedSeen
  split
  · exact State.confirmClosed_follows c s
  · exact .refl c s

theorem State.closePulseEnd_follows : Follows c s s.closePulseEnd := by
  unfold State.closePulseEnd
  split
  · exact .of_frame rfl (.inl rfl) (.inl rfl) (Mdu.endOp_follows c _ _)
  · exact .refl c s

theorem State.moved_follows (p : Position) : Follows c s (s.moved p) := by
  have published : Follows c s { s with mdu := s.mdu.publish p } := .of_mdu c s (Mdu.publish_follows c _ p)
  unfold State.moved
  dsimp only
  split
  · exact .of_frame rfl (.inl rfl) (.inl rfl) (.of_same_op rfl rfl rfl)
  · exact published.trans (.of_frame rfl (.inl rfl) (.inl rfl) (.refl c _))
  · exact published.trans (State.report_follows c _ _)
  · exact published

theorem State.contacts_follows (o k : Bool) : Follows c s (s.contacts o k) := by
  have read : Follows c s { s with mdu := { s.mdu with openC := some o, closedC := some k } } :=
    .of_mdu c s (.of_same_op rfl rfl rfl)
  have published (u : State) (p : Position) : Follows c u { u with mdu := u.mdu.publish p } :=
    .of_mdu c u (Mdu.publish_follows c _ p)
  unfold State.contacts
  dsimp only
  split
  · exact .refl c s
  · split
    · exact read
    · split
      · exact read.trans (State.moved_follows c _ _)
      · split
        · exact read.trans (State.confirmOpen_follows c _)
        · exact read.trans (published _ _)
      · split
        · exact read.trans (State.confirmClosed_follows c _)
        · exact read.trans (published _ _)

theorem State.faultTimerOver_follows : Follows c s s.faultTimerOver := by
  rw [State.faultTimerOver_eq]
  exact .of_frame rfl (.inl rfl) (.inl rfl) (.of_same_op rfl rfl rfl)

theorem State.startState_follows (p : Position) : Follows c s (s.startState p) := by
  cases p with
  | closed => exact State.enter_follows c s _ _
  | opened => exact State.enter_follows c s _ _
  | unknown => exact State.enterStuck_follows c s _

theorem State.firstPosition_follows (p : Position) : Follows c s (s.firstPosition p) := by
  unfold State.firstPosition
  split
  · exact (State.startState_follows c _ p).after (.of_mdu c s (.of_same_op rfl rfl rfl))
  · exact .refl c s

theorem State.firstContacts_follows (o k : Bool) : Follows c s (s.firstContacts o k) := by
  unfold State.firstContacts
  split
  · exact (State.firstPosition_follows c _ _).after (.of_mdu c s (.of_same_op rfl rfl rfl))
  · exact .refl c s

end

/-! ### The accumulators at an update (R24, R25, R32) -/

/-- An element's update keeps its accumulator in range: a rise is clamped, a hold's rise capped, and an element that
is not picked up has no hold (R24, R25, R32). -/
theorem State.tocUpdate_sound (s : State) (curve : Curve) (pickup : Nat) (reset : Option Nat) (rms : Nat) {t : Toc}
    (h : AccumulatorSound t) : AccumulatorSound (s.tocUpdate curve pickup reset rms t) := by
  obtain ⟨range, -⟩ := h
  cases up : (s.tocUpdate curve pickup reset rms t).pickedUp with
  | true =>
    rw [AccumulatorSound, s.tocUpdate_acc_of_pickedUp curve pickup reset rms t up]
    exact ⟨by split <;> omega, fun held => by rw [if_neg held]; omega⟩
  | false =>
    obtain ⟨hold, -⟩ := s.tocUpdate_hold_of_dropped curve pickup reset rms t up
    rw [AccumulatorSound, s.tocUpdate_acc_of_dropped curve pickup reset rms t up, hold]
    exact ⟨(fall_le _ _).trans range, fun held => absurd rfl held⟩

/-- An update record moves the accumulators within their ranges, and the sequence and the mechanism not at all. -/
theorem State.evaluate_follows (c : Prop) (s : State) (r : UpdateRecord) : Follows c s (s.evaluate r) := by
  cases e : s.evaluates r with
  | false =>
    rw [State.evaluate_of_not e]
    exact .refl c s
  | true =>
    obtain ⟨-, peu, sqc, mdu, -, -, -, -, stl, -⟩ := (State.evaluate_onlyQueue e).stands
    refine ⟨stl, fun h => ?_, fun h => ?_, by rw [mdu]; exact .refl c _⟩
    · rwa [ShotSound, sqc, stl]
    · obtain ⟨ia, ib, ic, ig⟩ := h
      rw [AccumulatorsSound, peu]
      exact ⟨s.tocUpdate_sound _ _ _ _ ia, s.tocUpdate_sound _ _ _ _ ib, s.tocUpdate_sound _ _ _ _ ic,
        s.tocUpdate_sound _ _ _ _ ig⟩

theorem State.halfCycle_follows (c : Prop) (s : State) : Follows c s s.halfCycle := by
  rw [State.halfCycle_eq]
  exact (State.evaluate_follows c _ _).after (.of_frame rfl (.inl rfl) (.inl rfl) (.refl c _))

/-! ### The battery (R80 to R98) -/

section
variable (s : State)

theorem State.changeHealth_sameCore (f : Health Attribute → Health Attribute) : SameCore s (s.changeHealth f) :=
  (State.changeHealth_onlyQueue s f).sameCore.after ⟨rfl, rfl, rfl, rfl⟩

theorem State.askBattery_sameCore : SameCore s s.askBattery := (State.askBattery_onlyQueue s).sameCore

theorem State.chargerExit_sameCore (mV : Int) : SameCore s (s.chargerExit mV) := by
  unfold State.chargerExit
  split
  · split <;> exact ⟨rfl, rfl, rfl, rfl⟩
  · split
    · exact ⟨rfl, rfl, rfl, rfl⟩
    · split
      · exact SameCore.after (State.changeHealth_sameCore _ _) ⟨rfl, rfl, rfl, rfl⟩
      · exact .refl s
  · split <;> exact ⟨rfl, rfl, rfl, rfl⟩
  all_goals exact .refl s

theorem State.chargedSecond_sameCore (m : Mean) : SameCore s (s.chargedSecond m) := by
  have stepped : SameCore s (State.chargerStep { s with bcu := { s.bcu with latestMean := some m } } m) :=
    SameCore.after (State.chargerExit_sameCore _ _) ⟨rfl, rfl, rfl, rfl⟩
  unfold State.chargedSecond State.countCharge
  split
  · exact stepped
  · exact stepped.trans ⟨rfl, rfl, rfl, rfl⟩

theorem State.publishClass_follows (c : Prop) (k : ReserveClass) : Follows c s (s.publishClass k) := by
  have decided : SameCore s { s with bcu := { s.bcu with cls := some k } } := ⟨rfl, rfl, rfl, rfl⟩
  have stopped (u : State) : OnlyLink u { u with txq := { u.txq with period := none } } := ⟨_, _, rfl⟩
  exact (decided.follows c).trans ((State.abortReview_follows c _).trans
    (((State.takePower_onlyLink _ _).trans ((stopped _).trans (State.startPeriod_onlyLink _))).sameCore.follows c))

theorem State.evaluateClass_follows (c : Prop) (m : Mean) : Follows c s (s.evaluateClass m) := by
  have published (u : State) (p : Prop) [Decidable p] (k : ReserveClass) :
      Follows c u (if p then u else u.publishClass k) := by
    split
    · exact .refl c u
    · exact State.publishClass_follows u c k
  have cutoff (u : State) (p : Prop) [Decidable p] :
      Follows c u (if p then eitherOrder (·.changeHealth addDeepDischarge) State.classCutoff u else u) := by
    split
    · exact eitherOrder_follows (fun v => (State.changeHealth_sameCore v _).follows c)
        (State.classCutoff_follows c)
    · exact .refl c u
  exact (cutoff _ _).after ((published _ _ _).after (.of_frame rfl (.inl rfl) (.inl rfl) (.refl c _)))

theorem State.oneSecond_follows (c : Prop) : Follows c s s.oneSecond := by
  have second (u : State) (m : Mean) : Follows c u (u.batterySecond m) :=
    .trans (t := (u.chargedSecond m).evaluateClass m)
      (((State.chargedSecond_sameCore u m).follows c).trans (State.evaluateClass_follows _ c m))
      (.of_frame rfl (.inl rfl) (.inl rfl) (.refl c _))
  exact (second _ _).after (.of_frame rfl (.inl rfl) (.inl rfl) (.refl c _))

/-- A mean read by a rule may draw a free value. -/
theorem State.meanOr_sameCore (m : Option Mean) : SameCore s (s.meanOr m).2 := by
  cases m <;> exact ⟨rfl, rfl, rfl, rfl⟩

theorem State.beginTest_sameCore (src : TestSource) : SameCore s (s.beginTest src) :=
  (s.meanOr_sameCore s.bcu.latestMean).trans ⟨rfl, rfl, rfl, rfl⟩

theorem State.scheduledAttempt_sameCore : SameCore s s.scheduledAttempt := by
  unfold State.scheduledAttempt
  split
  · exact s.beginTest_sameCore _
  · exact ⟨rfl, rfl, rfl, rfl⟩

theorem SameCore.withBcu {s t : State} (h : SameCore s t) (b : Bcu) : SameCore s { t with bcu := b } :=
  ⟨h.sqc, h.mdu, h.peu, h.stl⟩

theorem State.rollDay_sameCore : SameCore s s.rollDay := by
  have attempted (u : State) (h : SameCore s u) : SameCore s u.scheduledAttempt :=
    h.trans u.scheduledAttempt_sameCore
  unfold State.rollDay
  dsimp only
  split
  · split
    · refine (attempted _ ?_).withBcu _
      exact ⟨rfl, rfl, rfl, rfl⟩
    · exact attempted _ ⟨rfl, rfl, rfl, rfl⟩
  · exact ⟨rfl, rfl, rfl, rfl⟩

theorem State.applyResult_sameCore (t : TestResult) : SameCore s (s.applyResult t) := by
  have retained (u : State) (h : SameCore s u) (f : Retained → Retained) : SameCore s (u.retain f) :=
    h.trans ⟨rfl, rfl, rfl, rfl⟩
  have judged (u : State) (h : SameCore s u) (f : Health Attribute → Health Attribute) :
      SameCore s (u.changeHealth f) := h.trans (u.changeHealth_sameCore f)
  have asked (u : State) (h : SameCore s u) : SameCore s u.askBattery := h.trans u.askBattery_sameCore
  unfold State.applyResult
  exact asked _ ((retained _ (judged _ ((retained s (.refl s) _).withBcu _) _) _).withBcu _)

theorem State.loadOver_sameCore : SameCore s s.loadOver := by
  unfold State.loadOver
  split
  · next t _ => exact (s.meanOr_sameCore t.loaded).trans (State.applyResult_sameCore _ _)
  · exact .refl s

theorem State.testRetryOver_sameCore : SameCore s s.testRetryOver := by
  unfold State.testRetryOver
  dsimp only
  split
  · exact SameCore.after (State.scheduledAttempt_sameCore _) ⟨rfl, rfl, rfl, rfl⟩
  · exact ⟨rfl, rfl, rfl, rfl⟩

theorem State.abortTest_sameCore : SameCore s s.abortTest :=
  (State.abortTest_onlyQueue s).sameCore.after ⟨rfl, rfl, rfl, rfl⟩

theorem State.supplyReading_sameCore (active : Bool) : SameCore s (s.supplyReading active) := by
  have changed (u : State) : SameCore u (u.supplyChanged active) := by
    unfold State.supplyChanged
    dsimp only
    split
    · split <;> exact ⟨rfl, rfl, rfl, rfl⟩
    · split
      · exact SameCore.after (State.abortTest_sameCore _) ⟨rfl, rfl, rfl, rfl⟩
      · exact ⟨rfl, rfl, rfl, rfl⟩
  unfold State.supplyReading
  dsimp only
  split
  · exact ⟨rfl, rfl, rfl, rfl⟩
  · exact SameCore.after (changed _) ⟨rfl, rfl, rfl, rfl⟩

theorem State.testAsked_sameCore : SameCore s s.testAsked.1 := by
  unfold State.testAsked
  split
  · exact .refl s
  · exact s.beginTest_sameCore _

end

/-! ### The tags (R154, R158 to R162) -/

section
variable (c : Prop) (s : State)

theorem State.askResult_follows (n : Nat) (k : RequestKind) (o : RequestOutcome) : Follows c s (s.askResult n k o) :=
  (State.askResult_onlyQueue s n k o).follows c

theorem State.changeTags_follows (on : Bool) {answer : State → State} (h : ∀ u, Follows c u (answer u))
    (f : Retained → Retained) : Follows c s (s.changeTags on answer f) := by
  have written : Follows c s (State.retain { s with tgt := { s.tgt with hotlineOn := on } } f) :=
    .of_frame rfl (.inl rfl) (.inl rfl) (.refl c _)
  have asked (u : State) : Follows c u (answer u).askTagNotice :=
    (h u).trans ((State.askTagNotice_onlyQueue _).follows c)
  unfold State.changeTags
  dsimp only
  split
  · exact written.trans (eitherOrder_follows asked fun u => State.lockDead_follows c u _)
  · exact written.trans (asked _)

theorem State.hotlineReading_follows (on : Bool) : Follows c s (s.hotlineReading on) := by
  have changed : Follows c s (s.hotlineChanged on) := by
    unfold State.hotlineChanged
    split
    · exact (State.changeTags_follows c _ _ (Follows.refl c) _).after
        (.of_frame rfl (.inl rfl) (.inl rfl) (.refl c _))
    · exact (State.changeTags_follows c _ _ (Follows.refl c) _).after
        (.of_frame rfl (.inl rfl) (.inl rfl) (.refl c _))
  unfold State.hotlineReading
  split
  · exact .of_frame rfl (.inl rfl) (.inl rfl) (.refl c _)
  · split
    · exact .refl c s
    · exact changed

theorem State.answerTags_follows (r : CrewRequest) (o : RequestOutcome) (f : Option (Retained → Retained)) :
    Follows c s (s.answerTags r o f) := by
  cases f with
  | some f => exact State.changeTags_follows c s _ (fun u => State.askResult_follows c u _ _ _) f
  | none => exact State.askResult_follows c s _ _ _

theorem State.placeRequest_follows (r : CrewRequest) : Follows c s (s.placeRequest r) := by
  unfold State.placeRequest
  split <;> exact State.answerTags_follows c s _ _ _

theorem State.removeRequest_follows (r : CrewRequest) : Follows c s (s.removeRequest r) := by
  unfold State.removeRequest
  split <;> exact State.answerTags_follows c s _ _ _

theorem State.clearRequest_follows (r : CrewRequest) : Follows c s (s.clearRequest r) := by
  unfold State.clearRequest
  split <;> exact State.answerTags_follows c s _ _ _

end

/-! ### Frames heard (R107 to R109, R137, R156) -/

theorem State.filterEffect_frame (s : State) (a : Uptime) (k : FrameClass) :
    ∃ l, s.filterEffect a k = { s with lnk := l } := by
  cases k <;> exact ⟨_, rfl⟩

/-- A frame taken by the filter changes the link and what is on its way alone. -/
theorem State.heard_frame (s : State) (a : Uptime) (k : FrameClass) :
    ∃ l x, s.dropReception.filterEffect a k = { s with lnk := l, transit := x } := by
  obtain ⟨l, h⟩ := State.filterEffect_frame s.dropReception a k
  exact ⟨l, _, h⟩

/-- A frame's row follows as its handling does, the gate and the close store being those before it. -/
theorem onFrame_follows {s : State} {α : Type} {pick : Frame → Option α} {f : α → Uptime → State → State}
    (h : ∀ a u t, Follows (State.mayClose t) t (f a u t)) : Follows s.mayClose s (onFrame pick f s) := by
  unfold onFrame
  split
  · next r _ _ =>
    split
    · next m _ =>
      split
      · next a _ =>
        obtain ⟨l, x, e⟩ := s.heard_frame r.arrival (.accepted m)
        rw [e]
        exact (h a r.arrival { s with lnk := l, transit := x }).after
          (.of_frame rfl (.inl rfl) (.inl rfl) (.refl _ _))
      · exact .refl _ s
    · exact .refl _ s
  · exact .refl _ s

/-- A frame's row whose handling begins no close. -/
theorem onFrame_follows_of_all {c : Prop} {s : State} {α : Type} {pick : Frame → Option α}
    {f : α → Uptime → State → State} (h : ∀ a u t, Follows c t (f a u t)) :
    Follows c s (onFrame pick f s) := by
  unfold onFrame
  split
  · next r _ _ =>
    split
    · next m _ =>
      split
      · next a _ =>
        obtain ⟨l, x, e⟩ := s.heard_frame r.arrival (.accepted m)
        rw [e]
        exact (h a r.arrival _).after (.of_frame rfl (.inl rfl) (.inl rfl) (.refl _ _))
      · exact .refl _ s
    · exact .refl _ s
  · exact .refl _ s

theorem State.rejectFrame_sameCore (s : State) : SameCore s s.rejectFrame := by
  unfold State.rejectFrame
  split
  · next r _ _ =>
    split
    · exact .refl s
    · obtain ⟨l, x, e⟩ := s.heard_frame r.arrival (s.classOf r)
      rw [e]
      exact ⟨rfl, rfl, rfl, rfl⟩
  · exact .refl s

theorem State.peerFrame_follows (s : State) (id : Nat) (a : Uptime) (g : Option Segments)
    (f : PeerEntry → PeerEntry) : Follows s.mayClose s (s.peerFrame id a g f) := by
  unfold State.peerFrame
  split
  · next t _ =>
    exact (State.rslCheck_follows { s with pvt := t }).after (.of_frame rfl (.inl rfl) (.inl rfl) (.refl _ _))
  · exact .refl _ s

theorem State.startQuiet_onlyLink (s : State) (a : Uptime) (ms : Nat) : OnlyLink s (s.startQuiet a ms) := by
  have started : OnlyLink s { s with lnk := { s.lnk with quiet := some ⟨a, ms⟩ } } := ⟨_, _, rfl⟩
  unfold State.startQuiet
  dsimp only
  split
  · split
    · split
      · exact started.trans (State.returnSelected_onlyQueue _).onlyLink
      · exact started
    · exact started
  · exact .refl s

theorem State.second_follows (s : State) : Follows s.mayClose s s.second :=
  (State.settle_follows _ _ _ _).after ((State.rslCheck_follows (State.agePeers
    { s with clock := { s.clock with seconds := s.clock.seconds + 1, lastSecond := s.now } })).after
      (.of_frame rfl (.inl rfl) (.inl rfl) (.refl _ _)))

theorem State.statusNow_follows (c : Prop) (s : State) (r : CrewRequest) : Follows c s (s.statusNow r) := by
  have rearmed (u : State) : SameCore u u.rearmLive := by
    unfold State.rearmLive
    split
    · obtain ⟨_, h⟩ := u.rearm_frame
      rw [h]
      exact ⟨rfl, rfl, rfl, rfl⟩
    · exact .refl u
  exact (State.askResult_follows c s _ _ _).trans
    (((State.statusDemand_onlyQueue _ _).sameCore.trans (rearmed _)).follows c)

/-! ### The link (R107, R112 to R121, R128, R132) -/

section
variable (s : State)

theorem State.sense_onlyLink : OnlyLink s s.sense := by
  unfold State.sense
  dsimp only
  split
  · split
    · exact ⟨_, _, rfl⟩
    · exact ⟨_, _, rfl⟩
  · exact (State.returnSelected_onlyQueue s).onlyLink

theorem State.passZeroBackoff_onlyLink : OnlyLink s s.passZeroBackoff := by
  unfold State.passZeroBackoff
  split
  · exact s.sense_onlyLink
  · exact .refl s

theorem State.search_onlyLink : OnlyLink s s.search := (State.search_onlyQueue s).onlyLink

theorem State.applyPending_onlyLink : OnlyLink s s.applyPending := by
  unfold State.applyPending
  split
  · exact OnlyLink.trans ⟨_, _, rfl⟩ (State.applyPower_onlyLink _ _)
  · exact .refl s

theorem State.endAccess_onlyLink : OnlyLink s s.endAccess :=
  OnlyLink.trans (t := { s with lnk := s.lnk.released }) ⟨_, _, rfl⟩
    ((State.applyPending_onlyLink _).trans (State.search_onlyLink _))

theorem State.join_onlyLink (x : Content) : OnlyLink s (s.join x) := (State.join_onlyQueue s x).onlyLink

theorem State.leave_onlyLink (e : Entry) : OnlyLink s (s.leave e) := by
  unfold State.leave
  dsimp only
  split
  · split
    · exact OnlyLink.trans ⟨_, _, rfl⟩ (State.join_onlyLink _ _)
    · exact ⟨_, _, rfl⟩
  · split
    · exact OnlyLink.trans ⟨_, _, rfl⟩ (State.join_onlyLink _ _)
    · exact ⟨_, _, rfl⟩
  · exact ⟨_, _, rfl⟩

theorem State.afterCollision_onlyLink (e : Entry) (n : Nat) : OnlyLink s (s.afterCollision e n) := by
  unfold State.afterCollision
  dsimp only
  split
  · exact OnlyLink.trans ⟨_, _, rfl⟩ (State.endAccess_onlyLink _)
  · split
    · exact OnlyLink.trans ⟨_, _, rfl⟩ (State.endAccess_onlyLink _)
    · split
      · exact OnlyLink.trans ⟨_, _, rfl⟩ (State.endAccess_onlyLink _)
      · exact OnlyLink.trans ⟨_, _, rfl⟩ ((State.applyPending_onlyLink _).trans
          ((State.search_onlyLink _).trans (State.passZeroBackoff_onlyLink _)))

theorem State.cleanEnd_onlyLink (e : Entry) : OnlyLink s (s.cleanEnd e) := by
  have ended (u : State) : OnlyLink u (u.leave e).endAccess :=
    (State.leave_onlyLink u e).trans (State.endAccess_onlyLink _)
  unfold State.cleanEnd
  dsimp only
  split
  · exact OnlyLink.trans ⟨_, _, rfl⟩ ((State.startPeriod_onlyLink _).trans (ended _))
  · exact OnlyLink.trans ⟨_, _, rfl⟩ (ended _)

theorem State.collidedEnd_onlyLink (e : Entry) : OnlyLink s (s.collidedEnd e) := by
  unfold State.collidedEnd
  dsimp only
  split
  · exact OnlyLink.trans ⟨_, _, rfl⟩ ((State.leave_onlyLink _ e).trans (State.endAccess_onlyLink _))
  · exact OnlyLink.trans ⟨_, _, rfl⟩ (State.afterCollision_onlyLink _ _ _)

theorem State.sendOver_onlyLink : OnlyLink s s.sendOver := by
  have ended : OnlyLink s s.endSend := by
    unfold State.endSend
    dsimp only
    split
    · split
      · exact OnlyLink.trans ⟨_, _, rfl⟩ (State.collidedEnd_onlyLink _ _)
      · exact OnlyLink.trans ⟨_, _, rfl⟩ (State.cleanEnd_onlyLink _ _)
    · exact OnlyLink.trans ⟨_, _, rfl⟩ (State.endAccess_onlyLink _)
  unfold State.sendOver
  split
  · exact ended
  · exact .refl s

theorem State.busyLevel_onlyLink (active : Bool) : OnlyLink s (s.busyLevel active) := by
  have deferred (u : State) : OnlyLink u u.endDeferral := by
    unfold State.endDeferral
    split
    · split
      · exact (State.returnSelected_onlyQueue u).onlyLink
      · exact OnlyLink.trans ⟨_, _, rfl⟩ (State.passZeroBackoff_onlyLink _)
    · exact (State.returnSelected_onlyQueue u).onlyLink
  unfold State.busyLevel
  dsimp only
  split
  · exact OnlyLink.trans ⟨_, _, rfl⟩ (deferred _)
  · exact ⟨_, _, rfl⟩

theorem State.gapOver_onlyLink : OnlyLink s s.gapOver := by
  unfold State.gapOver
  split
  · exact s.sense_onlyLink
  · exact .refl s

theorem State.backoffOver_onlyLink : OnlyLink s s.backoffOver := by
  unfold State.backoffOver
  split
  · exact s.sense_onlyLink
  · exact .refl s

theorem State.collided_onlyLink : OnlyLink s s.collided := by
  unfold State.collided
  split
  · exact ⟨_, _, rfl⟩
  · exact .refl s

theorem State.warmUpOver_onlyLink : OnlyLink s s.warmUpOver :=
  OnlyLink.trans ⟨_, _, rfl⟩ (State.search_onlyLink _)

theorem State.quietOver_onlyLink : OnlyLink s s.quietOver :=
  OnlyLink.trans ⟨_, _, rfl⟩ (State.search_onlyLink _)

theorem State.openWindow_onlyLink : OnlyLink s s.openWindow := by
  unfold State.openWindow
  split
  · split
    · exact .refl s
    · exact ⟨_, _, rfl⟩
  · exact .refl s

theorem State.closeWindow_onlyLink : OnlyLink s s.closeWindow := by
  unfold State.closeWindow
  split
  · split
    · exact ⟨_, _, rfl⟩
    · exact .refl s
  · exact .refl s

theorem State.pickupLifeOver_onlyLink : OnlyLink s s.pickupLifeOver := by
  unfold State.pickupLifeOver
  split
  · split
    · exact ⟨_, _, rfl⟩
    · exact (State.dropEntry_onlyQueue s _).onlyLink
  · exact .refl s

theorem State.periodOver_onlyLink : OnlyLink s s.periodOver :=
  OnlyLink.trans ⟨_, _, rfl⟩
    ((State.statusDemand_onlyQueue _ _).onlyLink.trans (State.startPeriod_onlyLink _))

theorem State.serialByte_sameCore (b : Byte) : SameCore s (s.serialByte b) := by
  unfold State.serialByte
  dsimp only
  split
  · split
    · exact SameCore.after (State.endReception_sameCore _) ⟨rfl, rfl, rfl, rfl⟩
    · exact ⟨rfl, rfl, rfl, rfl⟩
  · exact .refl s

/-- An event of the link does what its effect does, and may cut a reception. -/
theorem linkEvent_sameCore {f : State → State} (h : SameCore s (f s)) : SameCore s (linkEvent f s) :=
  h.trans (State.listenReview_sameCore _)

theorem ifRuns_onlyLink {t : State → Option Timer} {f : State → State} (h : OnlyLink s (f s)) :
    OnlyLink s (ifRuns t f s) := by
  unfold ifRuns
  split
  · exact h
  · exact .refl s

end

end Sys2Proof.Machine
end

section
/-! What every command keeps of those laws, and the two statements over all commands and steps (R32, R38, R48,
R67). -/

namespace Sys2Proof.Machine

open Sys2Proof.Safety

/-! ### The stores as a command reads them (R74, R77) -/

/-- `u` is `s` with at most its stores read anew, a READY close store still drawing no charge. -/
def StoresRead (s u : State) : Prop :=
  ∃ a b, u = { s with mdu := { s.mdu with trip := a, close := b } } ∧
    ((s.mdu.close.state = .ready → s.mdu.close.enable = false) → b.state = .ready → b.enable = false)

theorem StoresRead.refl (s : State) : StoresRead s s := ⟨s.mdu.trip, s.mdu.close, rfl, id⟩

/-- A store that its ready input makes READY has its enable off, and one that it leaves READY as it was (R74). -/
theorem Store.readInput_off {t : Store} (active : Bool)
    (ready : (t.readInput active).state = .ready) : (t.readInput active).enable = false := by
  cases active with
  | true => rfl
  | false =>
    by_cases was : t.state = .ready
    · simp [Store.readInput, was] at ready
    · simp [Store.readInput, was] at ready

theorem storesRead_readInput (s : State) (id : StoreId) (active : Bool) :
    StoresRead s { s with mdu := s.mdu.withStore id (·.readInput active) } := by
  cases id with
  | trip => exact ⟨_, s.mdu.close, rfl, fun h => h⟩
  | close => exact ⟨s.mdu.trip, _, rfl, fun _ => Store.readInput_off active⟩

/-- A store whose charge limit has run is in FAULT (R77). -/
theorem storesRead_overLimit (s : State) (id : StoreId) :
    StoresRead s { s with mdu := s.mdu.withStore id (·.overLimit s.now) } := by
  cases id with
  | trip => exact ⟨_, s.mdu.close, rfl, fun h => h⟩
  | close => exact ⟨s.mdu.trip, _, rfl, fun _ _ => rfl⟩

/-- What `t` keeps of the laws, the stores of `s` read anew first. -/
def FollowsRead (s t : State) : Prop := ∃ u, StoresRead s u ∧ Follows u.mayClose u t

theorem Follows.followsRead {s t : State} (h : Follows s.mayClose s t) : FollowsRead s t := ⟨s, .refl s, h⟩

/-- A reading of a ready input: the store, then what waits for it (R45, R67, R74, R173). -/
theorem State.readyReading_followsRead (s : State) (id : StoreId) (active : Bool) :
    FollowsRead s (event (·.readyReading id active) s) := by
  let u : State := { s with mdu := s.mdu.withStore id (·.readInput active) }
  have driven : Follows u.mayClose u { u with mdu := u.mdu.driveWhenReady u.now } :=
    .of_mdu _ u (Mdu.driveWhenReady_follows _ _ _)
  have gate : State.mayClose { u with mdu := u.mdu.driveWhenReady u.now } → u.mayClose := by
    have stands (m : Mdu) : (m.driveWhenReady u.now).handleDown = m.handleDown ∧
        (m.driveWhenReady u.now).close = m.close := by
      unfold Mdu.driveWhenReady
      split
      · split <;> exact ⟨rfl, rfl⟩
      · exact ⟨rfl, rfl⟩
    obtain ⟨handle, close⟩ := stands u.mdu
    simp only [State.mayClose, State.gateOpen_iff, handle, close]
    exact fun h => h
  by_cases same : (s.mdu.store id).ready = some active
  · refine (event_follows ?_).followsRead
    simp only [State.readyReading, if_pos same]
    exact .refl _ s
  · refine ⟨u, storesRead_readInput s id active, (State.settle_follows _ _ _ _).after ?_⟩
    simp only [State.readyReading, if_neg same]
    split
    · exact driven.trans ((State.storeReady_follows _).mono gate)
    · exact driven

theorem State.chargeOver_followsRead (s : State) (id : StoreId) :
    FollowsRead s (event (ifRuns (fun s => (s.mdu.store id).limit) (·.chargeOver id)) s) := by
  by_cases runs : (s.mdu.store id).limit = none
  · exact (event_follows (by rw [ifRuns_of_none runs]; exact .refl _ s)).followsRead
  · refine ⟨_, storesRead_overLimit s id, (State.settle_follows _ _ _ _).after ?_⟩
    rw [ifRuns_of_some runs]
    exact .refl _ _

/-- A retry charge that falls due changes no store's state or enable (R77). -/
theorem State.retryOver_follows (c : Prop) (s : State) (id : StoreId) : Follows c s (s.retryOver id) := by
  cases id <;> exact .of_mdu c s ⟨.inl, .inl, fun h => h, fun h k => ⟨h, k⟩⟩

/-! ### The measurement chain (R3, R9, R15, R92) -/

section
variable (c : Prop) (s : State)

theorem State.secondEvent_follows : Follows c s s.secondEvent :=
  (event_follows (State.oneSecond_follows _ c)).after
    (whenDue_follows (event_follows (s.rollDay_sameCore.follows c)))

theorem State.sampleEvent_follows : Follows c s s.sampleEvent := by
  have half (u : State) : Follows c u (whenDue State.halfDue State.halfCycleEvent u) :=
    whenDue_follows (event_follows (withAbort_follows (State.halfCycle_follows c)))
  have second (u : State) : Follows c u (whenDue State.secondDue State.secondEvent u) :=
    whenDue_follows (State.secondEvent_follows c u)
  exact ((half s).trans (second _)).trans (.of_frame rfl (.inl rfl) (.inl rfl) (.refl c _))

theorem State.bitsEvent_follows (b : Byte) : Follows c s (s.bitsEvent b) :=
  (whenDue_follows (State.sampleEvent_follows c s)).trans (.of_frame rfl (.inl rfl) (.inl rfl) (.refl c _))

end

/-! ### Every command -/

/-- A guarded step keeps what it keeps of a part that is up, and before BRING-UP everything. -/
theorem whenUp_followsRead {f : State → State} {s t : State} (h : whenUp f s = .next t)
    (k : FollowsRead s (f s)) : FollowsRead s t := by
  rw [whenUp_next] at h
  rw [h]
  split
  · exact k
  · exact (Follows.refl _ s).followsRead

theorem whenUp_follows {f : State → State} {s t : State} (h : whenUp f s = .next t)
    (k : Follows s.mayClose s (f s)) : FollowsRead s t := whenUp_followsRead h k.followsRead

/-- A command of the link changes nothing that the laws read. -/
theorem whenUp_linkEvent {f : State → State} {s t : State} (h : whenUp (linkEvent f) s = .next t)
    (k : OnlyLink s (f s)) : FollowsRead s t :=
  whenUp_follows h ((linkEvent_sameCore s k.sameCore).follows _)

/-- Every command but those of a start keeps the laws, with the stores as it reads them. -/
theorem exec_followsRead {i : Instr} {s t : State} (hi : Claims.ofStart i = false) (h : exec i s = .next t) :
    FollowsRead s t := by
  cases i with
  | restartInput | supplyReturn | settingsWordRead | settingsWordTimeout => exact Bool.noConfusion hi
  | modulatorBit b => exact whenUp_follows (f := (·.bitsEvent b)) h (State.bitsEvent_follows _ s b)
  | decimatedSample => exact whenUp_follows h (whenDue_follows (State.sampleEvent_follows _ s))
  | halfCycleUpdate =>
    exact whenUp_follows h (whenDue_follows (event_follows (withAbort_follows (State.halfCycle_follows _))))
  | oneSecondUpdate => exact whenUp_follows h (whenDue_follows (State.secondEvent_follows _ s))
  | dayRollover => exact whenUp_follows h (whenDue_follows (event_follows (s.rollDay_sameCore.follows _)))
  | tripRequest =>
    exact whenUp_follows h (event_follows (onArrival_follows fun r u => State.takeTripRequest_follows _ u r))
  | sequenceStep => exact whenUp_follows h (event_follows (onArrival_follows fun _ u => State.takeStep_follows _ u))
  | openConfirmation =>
    exact whenUp_follows h (event_follows (onArrival_follows fun ms u => State.takeOpen_follows _ u ms))
  | tripFail => exact whenUp_follows h (event_follows (onArrival_follows fun _ u => State.takeTripFail_follows _ u))
  | closeConfirmation =>
    exact whenUp_follows h (event_follows (onArrival_follows fun _ u => State.takeClosed_follows _ u))
  | closeFail => exact whenUp_follows h (event_follows (onArrival_follows fun _ u => State.takeCloseFail_follows _ u))
  | unsolicitedOpen =>
    exact whenUp_follows h (event_follows (withAbort_follows fun _ =>
      onArrival_follows fun d u => State.takeUnsolicitedOpen_follows _ u d))
  | unsolicitedClose =>
    exact whenUp_follows h (event_follows (onArrival_follows fun _ u => State.externalClose_follows _ u))
  | positionFault =>
    exact whenUp_follows h (event_follows (withAbort_follows fun _ =>
      onArrival_follows fun _ u => State.takePositionFault_follows _ u))
  | openSeen => exact whenUp_follows h (event_follows (State.openSeen_follows _ s))
  | pulseLimitExpiry => exact whenUp_follows h (event_follows (ifRuns_follows (State.pulseEnd_follows _ s)))
  | storeWaitExpiry => exact whenUp_follows h (event_follows (ifRuns_follows (State.storeWaitEnd_follows _ s)))
  | closedSeen => exact whenUp_follows h (event_follows (State.closedSeen_follows _ s))
  | closePulseLimitExpiry => exact whenUp_follows h (event_follows (ifRuns_follows (State.closePulseEnd_follows _ s)))
  | positionChange o k => exact whenUp_follows h (event_follows (State.contacts_follows _ s o k))
  | positionFaultTimerExpiry =>
    exact whenUp_follows h (event_follows (ifRuns_follows (State.faultTimerOver_follows _ s)))
  | firstPosition o k => exact whenUp_follows h (event_follows (State.firstContacts_follows _ s o k))
  | firstPositionTimeout => exact whenUp_follows h (event_follows (State.firstPosition_follows _ s _))
  | handleChange d => exact whenUp_follows h (event_follows (State.handleReading_follows _ s d))
  | readyInputChange id a => exact whenUp_followsRead h (s.readyReading_followsRead id a)
  | chargeLimitExpiry id => exact whenUp_followsRead h (s.chargeOver_followsRead id)
  | retryTimerExpiry id => exact whenUp_follows h (event_follows (ifRuns_follows (State.retryOver_follows _ s id)))
  | deadTimerExpiry => exact whenUp_follows h (event_follows (ifRuns_follows s.deadOver_follows))
  | energyWaitExpiry => exact whenUp_follows h (event_follows (ifRuns_follows (State.toLockout_follows _ s _)))
  | reclaimExpiry => exact whenUp_follows h (event_follows (ifRuns_follows (State.reclaimOver_follows _ s)))
  | closeDemandExpiry => exact whenUp_follows h (event_follows (ifRuns_follows (State.demandOver_follows _ s)))
  | panelTrip =>
    refine whenUp_follows h (event_follows ?_)
    obtain ⟨_, e⟩ := s.rearm_frame
    rw [e]
    exact (State.manualTrip_follows _ _ _).after (.of_frame rfl (.inl rfl) (.inl rfl) (.refl _ _))
  | panelClose => exact whenUp_follows h (event_follows (s.closeAsked_follows _))
  | nonrecloseChange on => exact whenUp_follows h (event_follows (State.nonrecloseReading_follows _ s on))
  | supplyOkChange a => exact whenUp_follows h (event_follows ((s.supplyReading_sameCore a).follows _))
  | testRetryExpiry => exact whenUp_follows h (event_follows (ifRuns_follows (s.testRetryOver_sameCore.follows _)))
  | loadTimerExpiry => exact whenUp_follows h (event_follows (ifRuns_follows (s.loadOver_sameCore.follows _)))
  | frameRejected => exact whenUp_follows h (event_follows (s.rejectFrame_sameCore.follows _))
  | receiveStatus | receiveSeqEvent | receiveTagNotice | receivePeerReport =>
    exact whenUp_follows h (event_follows (onFrame_follows fun _ _ t => t.peerFrame_follows _ _ _ _))
  | receivePickup =>
    exact whenUp_follows h (event_follows (onFrame_follows fun _ _ t =>
      (t.peerFrame_follows _ _ _ _).trans ((State.startQuiet_onlyLink _ _ _).sameCore.follows _)))
  | crewTagPlace =>
    exact whenUp_follows h (event_follows (onFrame_follows_of_all fun r _ t => State.placeRequest_follows _ t r))
  | crewTagRemove =>
    exact whenUp_follows h (event_follows (onFrame_follows_of_all fun r _ t => State.removeRequest_follows _ t r))
  | crewClearUnknown =>
    exact whenUp_follows h (event_follows (onFrame_follows_of_all fun r _ t => State.clearRequest_follows _ t r))
  | crewTrip =>
    refine whenUp_follows h (event_follows (withAbort_follows fun u => onFrame_follows_of_all fun r _ t => ?_))
    obtain ⟨_, e⟩ := t.rearm_frame
    rw [e]
    exact ((State.askResult_follows _ _ _ _ _).after (State.manualTrip_follows _ _ _)).after
      (.of_frame rfl (.inl rfl) (.inl rfl) (.refl _ _))
  | crewClose =>
    exact whenUp_follows h (event_follows (onFrame_follows fun r _ t =>
      (t.closeAsked_follows _).trans (State.askResult_follows _ _ _ _ _)))
  | crewStatusNow =>
    exact whenUp_follows h (event_follows (onFrame_follows_of_all fun r _ t => State.statusNow_follows _ t r))
  | crewBatteryTest =>
    exact whenUp_follows h (event_follows (onFrame_follows_of_all fun r _ t =>
      (t.testAsked_sameCore.follows _).trans (State.askResult_follows _ _ _ _ _)))
  | crewRequestNotActedOn =>
    exact whenUp_follows h (event_follows (onFrame_follows_of_all fun _ _ t => .refl _ t))
  | hotlineSwitchChange on => exact whenUp_follows h (event_follows (State.hotlineReading_follows _ s on))
  | ackTimerExpiry =>
    exact whenUp_follows h (event_follows (ifRuns_follows (.of_frame rfl (.inl rfl) (.inl rfl) (.refl _ _))))
  | serialByteArrival b =>
    exact whenUp_follows h ((linkEvent_sameCore s (s.serialByte_sameCore b)).follows _)
  | receptionGapExpiry => exact whenUp_follows h ((linkEvent_sameCore s s.endReception_sameCore).follows _)
  | busyChange a =>
    have : t = if s.up then linkEvent (·.busyLevel a) s else { s with lnk := { s.lnk with busy := a } } := by
      cases h
      rfl
    rw [this]
    split
    · exact ((linkEvent_sameCore s (s.busyLevel_onlyLink a).sameCore).follows _).followsRead
    · have kept : OnlyLink s { s with lnk := { s.lnk with busy := a } } := ⟨_, _, rfl⟩
      exact (kept.sameCore.follows _).followsRead
  | collideActive => exact whenUp_linkEvent h s.collided_onlyLink
  | gapExpiry => exact whenUp_linkEvent h s.gapOver_onlyLink
  | backoffExpiry => exact whenUp_linkEvent h s.backoffOver_onlyLink
  | sendEnd => exact whenUp_linkEvent h s.sendOver_onlyLink
  | warmUpExpiry => exact whenUp_linkEvent h (ifRuns_onlyLink s s.warmUpOver_onlyLink)
  | listenWindowOpen => exact whenUp_linkEvent h s.openWindow_onlyLink
  | listenWindowClose => exact whenUp_linkEvent h s.closeWindow_onlyLink
  | listenHoldLimit => exact whenUp_linkEvent h (ifRuns_onlyLink s ⟨_, _, rfl⟩)
  | quietTimerExpiry => exact whenUp_linkEvent h (ifRuns_onlyLink s s.quietOver_onlyLink)
  | linkTimerExpiry => exact whenUp_linkEvent h (ifRuns_onlyLink s ⟨_, _, rfl⟩)
  | pickupLifeExpiry => exact whenUp_linkEvent h s.pickupLifeOver_onlyLink
  | statusPeriodExpiry => exact whenUp_linkEvent h (ifRuns_onlyLink s s.periodOver_onlyLink)
  | timeBaseSecond => exact whenUp_follows h s.second_follows
  | midpointTimerExpiry => exact whenUp_follows h (event_follows (ifRuns_follows s.midpointOver_follows))
  | tieTimerExpiry => exact whenUp_follows h (event_follows (ifRuns_follows s.tieOver_follows))
  | rslStoreWaitExpiry =>
    exact whenUp_follows h (event_follows (ifRuns_follows (.of_frame rfl (.inl rfl) (.inl rfl) (.refl _ _))))

/-- A command of a start leaves the sequence, the mechanism, the elements and the image, or every one of the first
three in its start state (R178, R187). -/
theorem exec_of_start {i : Instr} {s t : State} (hi : Claims.ofStart i = true) (h : exec i s = .next t) :
    (t.sqc = s.sqc ∧ t.mdu = s.mdu ∧ t.peu = s.peu ∧ t.stl.image = s.stl.image) ∨
      (t.sqc = Sqc.start ∧ t.mdu = Mdu.start ∧ t.peu = Peu.start) := by
  have word (w : Word16) (k : t = s.takeWord w) :
      (t.sqc = s.sqc ∧ t.mdu = s.mdu ∧ t.peu = s.peu ∧ t.stl.image = s.stl.image) ∨
        (t.sqc = Sqc.start ∧ t.mdu = Mdu.start ∧ t.peu = Peu.start) := by
    rw [k, State.takeWord]
    split
    · split
      · exact .inl ⟨rfl, rfl, rfl, rfl⟩
      · obtain ⟨sqc, mdu, peu, -⟩ := (State.statusDemand_onlyQueue _ _).sameCore
        exact .inr ⟨sqc, mdu, peu⟩
    · exact .inl ⟨rfl, rfl, rfl, rfl⟩
  cases i with
  | restartInput | supplyReturn => cases h; exact .inr ⟨rfl, rfl, rfl⟩
  | settingsWordRead w => cases h; exact word w rfl
  | settingsWordTimeout => cases h; exact word _ rfl
  | _ => exact Bool.noConfusion hi

/-! ### The shot and the accumulators (R32, R38) -/

/-- The stores are no part of the two laws. -/
theorem FollowsRead.keeps {s t : State} (h : FollowsRead s t) :
    (ShotSound s → ShotSound t) ∧ (AccumulatorsSound s → AccumulatorsSound t) := by
  obtain ⟨_, ⟨_, _, rfl, -⟩, k⟩ := h
  exact ⟨k.shot, k.accumulators⟩

theorem exec_keeps_shot_accumulators {i : Instr} {s t : State} (h : exec i s = .next t) :
    (ShotSound s → ShotSound t) ∧ (AccumulatorsSound s → AccumulatorsSound t) := by
  cases hi : Claims.ofStart i with
  | false => exact (exec_followsRead hi h).keeps
  | true =>
    unfold ShotSound AccumulatorsSound
    obtain ⟨sqc, -, peu, image⟩ | ⟨sqc, -, peu⟩ := exec_of_start hi h
    · rw [sqc, peu, image]
      exact ⟨id, id⟩
    · rw [sqc]
      exact ⟨fun _ => Nat.zero_le _, fun _ => accumulatorsSound_of_start peu⟩

/-- The idle step lets time pass or puts a row in front of the queue. -/
theorem State.idle_sameCore (s : State) : SameCore s s.idle := by
  unfold State.idle
  split
  · split <;> exact ⟨rfl, rfl, rfl, rfl⟩
  · exact .refl s

/-- A step runs a command or idles. -/
theorem step_cases {s t : State} (h : step s = .next t) :
    (∃ i rest, s.pending = i :: rest ∧ exec i { s with pending := rest } = .next t) ∨ t = s.idle := by
  unfold step at h
  split at h
  · next i rest e => exact .inl ⟨i, rest, e, h⟩
  · cases h
    exact .inr rfl

theorem step_keeps_shot_accumulators {s t : State} (h : step s = .next t) :
    (ShotSound s → ShotSound t) ∧ (AccumulatorsSound s → AccumulatorsSound t) := by
  obtain ⟨i, rest, -, ran⟩ | rfl := step_cases h
  · have kept := exec_keeps_shot_accumulators ran
    exact kept
  · have kept := s.idle_sameCore.follows False
    exact ⟨kept.shot, kept.accumulators⟩

/-- Settles O9: a step is a command or the idle step, and every command's operations keep both laws. -/
theorem shotAndAccumulatorsHold : Obligations.ShotAndAccumulatorsHold :=
  ⟨fun _ _ sound h => (step_keeps_shot_accumulators h).1 sound,
    fun _ _ sound h => (step_keeps_shot_accumulators h).2 sound⟩

/-! ### The close gate and the stores (R48, R67, R70) -/

/-- In a settled part a READY store has its enable off: the charger's assignment would otherwise end its charge
(R74, R75). -/
theorem closeEnable_of_settled {s : State} (h : Settled s) (ready : s.mdu.close.state = .ready) :
    s.mdu.close.enable = false := by
  obtain ⟨-, -, -, -, assigned, -⟩ := h
  have close : (s.chargerReview.mdu.close).state = s.mdu.close.state := by rw [assigned]
  by_contra on
  simp [Mdu.assignCharger, Store.wants, Store.withdraw, ready, on] at close

theorem closeNeedsOpenGate : Claims.CloseNeedsOpenGate := by
  intro i s t calm h before after
  obtain ⟨-, settled⟩ := calm
  cases hi : Claims.ofStart i with
  | true =>
    obtain ⟨-, mdu, -⟩ | ⟨-, mdu, -⟩ := exec_of_start hi h
    · exact absurd (mdu ▸ after) before
    · simp [mdu, Mdu.start] at after
  | false =>
    obtain ⟨_, ⟨a, b, rfl, off⟩, follows⟩ := exec_followsRead hi h
    obtain was | ⟨gate, ready⟩ := follows.mdu.close after
    · exact absurd was before
    · obtain ⟨tags, handle, cls, stuck⟩ := (State.gateOpen_iff _).mp gate
      have free : ¬s.tagHold = true := by
        change s.tagHold = false at tags
        simp [tags]
      rw [State.tagHold_iff] at free
      push Not at free
      obtain ⟨hotline, radio, unknown⟩ := free
      obtain ⟨kept, -⟩ := follows.mdu.closeReady ready (off (closeEnable_of_settled settled) ready)
      exact ⟨by simpa using hotline, radio, by simpa using unknown, handle, cls, stuck, kept⟩

theorem tripCoilNeedsStore : Claims.TripCoilNeedsStore := by
  intro i s t h off on
  have dark : ¬s.mdu.tripCoil = true := by simp [off]
  cases hi : Claims.ofStart i with
  | true =>
    obtain ⟨-, mdu, -⟩ | ⟨-, mdu, -⟩ := exec_of_start hi h
    · exact absurd (mdu ▸ on) dark
    · simp [mdu, Mdu.start, Mdu.tripCoil] at on
  | false =>
    obtain ⟨_, ⟨a, b, rfl, -⟩, follows⟩ := exec_followsRead hi h
    exact (follows.mdu.coil on).resolve_left dark

/-- Settles O11: of all operations only the taking of a close drives the close coil, behind the gate's own test and
with the store READY, and only an attempt with its store READY drives the trip coil; what settles undoes neither. -/
theorem closeGateAndTripStore : Obligations.CloseGateAndTripStore := ⟨closeNeedsOpenGate, tripCoilNeedsStore⟩

end Sys2Proof.Machine
end

section
/-! What settles at a station where nothing but a command's own block acts: the inhibit reason is formed, and
nothing else (R75, R76, R97, R107, R165 to R174). -/

namespace Sys2Proof.Machine

open Sys2Proof.Safety

/-! ### A plain station -/

theorem plain_up {s : State} (h : Claims.Plain s) : s.up = true := h.1.1

theorem plain_inhibit {s : State} (h : Claims.Plain s) : s.rsl.inhibit = s.formInhibit := by
  obtain ⟨⟨-, inhibit, -⟩, -⟩ := h
  exact inhibit

theorem plain_no_test {s : State} (h : Claims.Plain s) : s.bcu.test = none := by
  obtain ⟨-, -, -, -, test, -⟩ := h
  exact test

/-- With the store wait stopped the close demand is a matter of the SQC alone (R39). -/
theorem closeDemand_of_plain {s : State} (h : Claims.Plain s) :
    s.closeDemand = (s.sqc.state = some .energyWait || s.sqc.demandTimer.isSome) := by
  obtain ⟨-, -, -, storeWait, -⟩ := h
  simp [State.closeDemand, storeWait]

/-! ### What a block leaves to the end of its event -/

/-- What the end of an event looks at, but for the inhibit reason, stands in `t` as `s` has it. -/
structure Undisturbed (s t : State) : Prop where
  stl : t.stl = s.stl := by rfl
  rsl : t.rsl = s.rsl := by rfl
  bcu : t.bcu = s.bcu := by rfl
  clock : t.clock = s.clock := by rfl
  tripStore : t.mdu.trip = s.mdu.trip := by rfl
  closeStore : t.mdu.close = s.mdu.close := by rfl
  reception : t.lnk.reception = s.lnk.reception := by rfl
  idClash : t.lnk.idClash = s.lnk.idClash := by rfl
  demand : t.closeDemand = s.closeDemand ∨ s.bcu.cls ≠ some .protectOnly

/-- Asking for a frame disturbs nothing. -/
theorem Undisturbed.queue {s t u : State} (h : Undisturbed s t) (k : OnlyQueue t u) : Undisturbed s u := by
  obtain ⟨_, _, _, _, rfl⟩ := k
  exact { h with }

/-- The charger stands as the last event assigned it, with the stores, the class and the time as they were and the
close demand as before or of no account (R75, R76). -/
theorem chargerReview_stands {s t : State} (settled : s.chargerReview = s) (bcu : t.bcu = s.bcu)
    (clock : t.clock = s.clock) (tripStore : t.mdu.trip = s.mdu.trip) (closeStore : t.mdu.close = s.mdu.close)
    (demand : t.closeDemand = s.closeDemand ∨ s.bcu.cls ≠ some .protectOnly) : t.chargerReview = t := by
  have charging : closeChargingAllowed t.bcu.cls t.closeDemand =
      closeChargingAllowed s.bcu.cls s.closeDemand := by
    rw [bcu]
    obtain same | free := demand
    · rw [same]
    · unfold closeChargingAllowed
      split <;> first | rfl | contradiction
  have trip : s.chargerReview.mdu.trip = s.mdu.trip := by rw [settled]
  have close : s.chargerReview.mdu.close = s.mdu.close := by rw [settled]
  have now : t.now = s.now := congrArg Clock.uptime clock
  simp only [State.chargerReview, Mdu.assignCharger] at trip close
  simp only [State.chargerReview, Mdu.assignCharger, charging, tripStore, closeStore, now, trip, close]
  rw [← tripStore, ← closeStore]

/-- The RSL of a plain station forms the inhibit reason, and has no exit, store wait or entry to look at. -/
theorem Undisturbed.rslReview {s t : State} (h : Undisturbed s t) (plain : Claims.Plain s) (before : RslInputs) :
    t.rslReview before false = { t with rsl := { t.rsl with inhibit := t.formInhibit } } := by
  obtain ⟨-, role, watch, storeWait, -⟩ := plain
  have watching : t.rsl.state = .watch := h.rsl ▸ watch
  have waiting : t.rsl.storeWait = none := h.rsl ▸ storeWait
  have roleless : t.stl.image.role = .none := h.stl ▸ role
  let u : State := { t with rsl := { t.rsl with inhibit := t.formInhibit } }
  have exits : u.rslExits = u := by simp only [State.rslExits, u, watching]
  have entry : u.rslEntry = u := by simp only [State.rslEntry, u, watching, roleless]
  have stopped : u.stopWait = u := by simp only [State.stopWait, u, waiting]
  change (let x := u.rslExits
    let y := if x.classAllowsRestore then x else x.stopWait
    if false || y.rslInputs ≠ before then y.rslEntry else y) = u
  simp only [exits, stopped, ite_self, entry]

/-- At the end of an event of a plain station. -/
theorem Undisturbed.settle {s t : State} (h : Undisturbed s t) (plain : Claims.Plain s) (before : RslInputs) :
    t.settle before false = { t with rsl := { t.rsl with inhibit := t.formInhibit } } := by
  have review := h.rslReview plain before
  obtain ⟨⟨-, -, -, -, -, charger, -⟩, -, -, -, test, reception⟩ := plain
  let u : State := { t with rsl := { t.rsl with inhibit := t.formInhibit } }
  have noTest : u.bcu.test = none := by
    change t.bcu.test = none
    rw [h.bcu, test]
  have noReception : u.lnk.reception = none := by
    change t.lnk.reception = none
    rw [h.reception, reception]
  have assigned : u.chargerReview = u :=
    chargerReview_stands charger h.bcu h.clock h.tripStore h.closeStore h.demand
  unfold State.settle
  rw [review, State.abortReview_of_no_test noTest, assigned,
    State.listenReview_of_none noReception]

/-- The inhibit reason stands where STUCK and NONRECLOSE do (R165). -/
theorem Undisturbed.formInhibit {s t : State} (h : Undisturbed s t)
    (nonreclose : t.sqc.nonreclose = s.sqc.nonreclose)
    (stuck : t.sqc.state = some .stuck ↔ s.sqc.state = some .stuck) : t.formInhibit = s.formInhibit := by
  simp only [State.formInhibit, h.stl, h.idClash, nonreclose, stuck]

/-- With the inhibit reason standing too, nothing is left to settle. -/
theorem Undisturbed.settle_eq {s t : State} (h : Undisturbed s t) (plain : Claims.Plain s) (before : RslInputs)
    (nonreclose : t.sqc.nonreclose = s.sqc.nonreclose)
    (stuck : t.sqc.state = some .stuck ↔ s.sqc.state = some .stuck) : t.settle before false = t := by
  have inhibit : t.rsl.inhibit = t.formInhibit := by
    rw [h.formInhibit nonreclose stuck, h.rsl, plain_inhibit plain]
  rw [h.settle plain before, ← inhibit]

/-! ### A command of a plain station -/

/-- A command's block takes `s` to `w`, which but for the queue is an undisturbed `t`: the command ends there. -/
theorem next_of_undisturbed {s t w : State} {f : State → State} (plain : Claims.Plain s) (run : f s = w)
    (queue : OnlyQueue t w) (h : Undisturbed s t)
    (stuck : t.sqc.state = some .stuck ↔ s.sqc.state = some .stuck)
    (nonreclose : t.sqc.nonreclose = s.sqc.nonreclose := by rfl) :
    whenUp (event f) s = .next w := by
  have sqc : w.sqc = t.sqc := queue.sameCore.sqc
  rw [whenUp_of_up (plain_up plain), event, run,
    (h.queue queue).settle_eq plain _ (by rw [sqc, nonreclose]) (by rw [sqc, stuck])]

/-- The same for a command that aborts a test in progress: there is none. -/
theorem next_of_undisturbed_abort {s t w : State} {f : State → State} (plain : Claims.Plain s) (run : f s = w)
    (queue : OnlyQueue t w) (h : Undisturbed s t)
    (stuck : t.sqc.state = some .stuck ↔ s.sqc.state = some .stuck)
    (nonreclose : t.sqc.nonreclose = s.sqc.nonreclose := by rfl) :
    whenUp (event (withAbort f)) s = .next w := by
  have noTest : (f s).bcu.test = none := by rw [run, (h.queue queue).bcu, plain_no_test plain]
  exact next_of_undisturbed plain ((withAbort_of_no_test f s noTest).trans run) queue h stuck nonreclose

/-- The close demand is none, or that of a class where it does not count (R76). -/
theorem demand_of_indifferent {s t : State} (h : Claims.Indifferent s)
    (less : t.closeDemand = true → s.closeDemand = true) :
    t.closeDemand = s.closeDemand ∨ s.bcu.cls ≠ some .protectOnly := by
  obtain none | free := h
  · refine .inl ?_
    rw [none]
    by_contra some
    rw [less (by simpa using some)] at none
    cases none
  · exact .inr free

end Sys2Proof.Machine
end

section
/-! The sequence at a plain station: what each of its operations makes of a state, under the names that the
statements give the next states, and the commands that run them (chapter 3). -/

namespace Sys2Proof.Machine

open Sys2Proof.Safety Sys2Proof.Claims

/-! ### The operations under the statements' names -/

theorem toLockout_eq (s : State) (c : Cause) : s.toLockout c = lockedOut s c := rfl

/-- A trip of the SQC with no trip operation in flight (R41, R67). -/
theorem trip_eq {s : State} (idle : s.mdu.tripping = false) (c : OpCause) (e : ElementSet) (rms : Ch4 Nat) :
    s.trip c e rms = tripTaken s c s.sqc.shot e rms := by
  have taken : (s.mdu.askTrip s.now c (if c = OpCause.protection then some (wearValue rms) else none)) =
      (tripTaken s c s.sqc.shot e rms).mdu := by
    simp only [Mdu.askTrip, idle, Mdu.attempt, tripTaken, Mdu.drive, wearValue]
    by_cases ready : s.mdu.trip.isReady = true <;> simp [ready]
  change { s with
    sqc := (tripTaken s c s.sqc.shot e rms).sqc,
    mdu := s.mdu.askTrip s.now c (if c = OpCause.protection then some (wearValue rms) else none) } = _
  rw [taken]
  rfl

/-- The rms of a trip that no element asked for, where the SFE has published a record (R42). -/
theorem latestRms_of_record {s : State} {u : UpdateRecord} (h : s.sfe.latest = some u) :
    s.latestRms = (u.rms.currents, s) := by simp [State.latestRms, h]

theorem tripUnasked_eq {s : State} {u : UpdateRecord} (h : s.sfe.latest = some u) (idle : s.mdu.tripping = false)
    (c : OpCause) :
    s.tripUnasked c = tripTaken s c s.sqc.shot ⟨Ch4.all false, Ch4.all false⟩ u.rms.currents := by
  rw [State.tripUnasked, latestRms_of_record h]
  exact trip_eq idle c _ _

theorem stuckTrip_eq {s : State} {u : UpdateRecord} (h : s.sfe.latest = some u) (idle : s.mdu.tripping = false)
    (c : OpCause) : s.stuckTrip c = stuckTrip s c u.rms.currents := by
  have mdu : s.mdu.askTrip s.now c (if c = OpCause.protection then some (wearValue u.rms.currents) else none) =
      (s.trip c ⟨Ch4.all false, Ch4.all false⟩ u.rms.currents).mdu := rfl
  rw [trip_eq idle] at mdu
  simp only [State.stuckTrip, latestRms_of_record h, State.askTrip]
  change { s with
    sqc := (stuckTrip s c u.rms.currents).sqc,
    mdu := s.mdu.askTrip s.now c
      (if c = OpCause.protection then some (wearValue u.rms.currents) else none) } = _
  rw [mdu]
  rfl

/-- A close begun with no operation in flight and the store READY (R70). -/
theorem beginClose_eq {s : State} (idle : s.mdu.op = .idle) (ready : s.mdu.close.state = .ready)
    (src : CloseSource) : s.beginClose src = closing s src := by
  have asked (u : State) (h : u.mdu = s.mdu) : u.askClose = { u with
      mdu := { u.mdu with
        op := .close, opTimer := some ⟨u.now, 100⟩, driveStart := some u.now, faultTimer := none } } := by
    simp [State.askClose, h, idle, Store.isReady, ready, State.timer]
  exact asked _ rfl

/-- The shot after a trip, as the statements write it (R38). -/
theorem shotAfterTrip_eq (shot l : Nat) : shotAfterTrip shot l = if shot < l then shot + 1 else l := by
  unfold shotAfterTrip
  split <;> omega

/-- A trip leaves STUCK and NONRECLOSE, and with no close demand before it raises none. -/
theorem closeDemand_of_mayTrip {s : State} (plain : Plain s) (may : MayTrip s) : s.closeDemand = false := by
  obtain ⟨state, -, demand⟩ := may
  rw [closeDemand_of_plain plain, demand]
  obtain h | h | h := state <;> simp [h]

theorem not_stuck_of_mayTrip {s : State} (may : MayTrip s) : s.sqc.state ≠ some .stuck := by
  obtain ⟨h | h | h, -⟩ := may <;> simp [h]

theorem not_stuck_of_waiting {s : State} (h : Waiting s) : s.sqc.state ≠ some .stuck := by
  obtain h | h := h <;> simp [h]

@[simp] theorem withReports_sqc (s : State) (rest : List Report) : (withReports s rest).sqc = s.sqc := rfl

/-- Hand-offs on their way disturb nothing. -/
theorem withReports_undisturbed (s : State) (rest : List Report) : Undisturbed s (withReports s rest) :=
  { demand := .inl rfl }

/-- A trip taken disturbs nothing. -/
theorem tripTaken_undisturbed {s t : State} (plain : Plain s) (may : MayTrip s) (h : Undisturbed s t)
    (c : OpCause) (shot : Nat) (e : ElementSet) (rms : Ch4 Nat) : Undisturbed s (tripTaken t c shot e rms) :=
  { h with
    demand := by
      obtain ⟨-, -, -, storeWait, -⟩ := id plain
      refine .inl ?_
      rw [closeDemand_of_mayTrip plain may]
      simp [State.closeDemand, tripTaken, h.rsl, storeWait] }

/-- A close demand does not begin with a state other than ENERGY_WAIT and no new demand timer (R39). -/
theorem demand_falls {s t : State} (ind : Indifferent s) (rsl : t.rsl = s.rsl)
    (state : t.sqc.state ≠ some .energyWait)
    (timer : t.sqc.demandTimer = none ∨ t.sqc.demandTimer = s.sqc.demandTimer) :
    t.closeDemand = s.closeDemand ∨ s.bcu.cls ≠ some .protectOnly := by
  refine demand_of_indifferent ind fun some => ?_
  simp only [State.closeDemand, rsl, state, decide_false, Bool.false_or] at some
  unfold State.closeDemand
  obtain none | same := timer
  · simp only [none, Option.isSome_none, Bool.false_or] at some
    simp [some]
  · rw [same] at some
    rw [Bool.or_assoc, some, Bool.or_true]

/-! ### Trip requests (R38, R41, R42) -/

theorem takeTripRequest_of_mayTrip {s : State} (may : MayTrip s) (r : TripRequest) :
    s.takeTripRequest r = tripTaken s .protection
      (if s.sqc.shot < s.stl.image.l then s.sqc.shot + 1 else s.stl.image.l) r.elements r.rms := by
  obtain ⟨state, idle, -⟩ := may
  let u : State := { s with sqc := { s.sqc with shot := shotAfterTrip s.sqc.shot s.stl.image.l } }
  have taken : s.takeTripRequest r = u.trip .protection r.elements r.rms := by
    unfold State.takeTripRequest
    obtain h | h | h := state <;> rw [h]
  rw [taken, trip_eq (s := u) idle, ← shotAfterTrip_eq]
  rfl

theorem takeTripRequest_of_tripping {s : State} (h : s.sqc.state = some .tripping) (r : TripRequest) :
    s.takeTripRequest r = s := by
  unfold State.takeTripRequest
  rw [h]

/-- The states that drop a trip request and clear the elements (R20, R41). -/
theorem takeTripRequest_dropped {s : State}
    (h : Waiting s ∨ s.sqc.state = some .lockout ∨ s.sqc.state = some .stuck) (r : TripRequest) :
    s.takeTripRequest r = { s with peu := Peu.start } := by
  unfold State.takeTripRequest State.handState
  obtain (h | h) | h | h := h <;> rw [h] <;> rfl

theorem tripRequest_taken : TripRequestTaken := by
  intro s r rest plain may arrives
  refine next_of_undisturbed plain
    ((onArrival_of_some arrives).trans (takeTripRequest_of_mayTrip (s := withReports s rest) may r))
    (.refl _) (tripTaken_undisturbed plain may (withReports_undisturbed s rest) _ _ _ _)
    (iff_of_false (by simp [tripTaken]) (not_stuck_of_mayTrip may))

theorem tripRequest_not_taken : TripRequestNotTaken := by
  intro s r rest plain arrives
  constructor
  · intro tripping
    exact next_of_undisturbed plain
      ((onArrival_of_some arrives).trans (takeTripRequest_of_tripping (s := withReports s rest) tripping r))
      (.refl _) { demand := .inl rfl } .rfl
  · intro dropped
    exact next_of_undisturbed plain
      ((onArrival_of_some arrives).trans (takeTripRequest_dropped (s := withReports s rest) dropped r))
      (.refl _) { demand := .inl rfl } .rfl

/-- Settles O30, by what a trip request does in each of the eight states. -/
theorem tripRequests : Obligations.TripRequests := ⟨tripRequest_taken, tripRequest_not_taken⟩

/-! ### Sequence steps and the timers (R45, R47, R53) -/

theorem takeStep_eq (s : State) : s.takeStep =
    if (s.sqc.state = some .closed ∨ s.sqc.state = some .reclaim) ∧ s.sqc.shot + 1 < s.effectiveL then
      reclaiming s (s.sqc.shot + 1)
    else s := by
  simp only [State.takeStep, Bool.and_eq_true, Bool.or_eq_true, decide_eq_true_eq]
  rfl

/-- Entering RECLAIM disturbs nothing. -/
theorem reclaiming_undisturbed {s t : State} (ind : Indifferent s) (h : Undisturbed s t) (shot : Nat) :
    Undisturbed s (reclaiming t shot) :=
  { h with demand := demand_falls ind h.rsl (by simp [reclaiming]) (.inl rfl) }

theorem sequenceStep_taken : SequenceStepTaken := by
  intro s _ rest plain ind arrives
  have run := (onArrival_of_some (f := fun _ s => s.takeStep) arrives).trans (takeStep_eq (withReports s rest))
  by_cases raises : (s.sqc.state = some .closed ∨ s.sqc.state = some .reclaim) ∧ s.sqc.shot + 1 < s.effectiveL
  · rw [if_pos raises]
    refine next_of_undisturbed plain (run.trans (if_pos raises)) (.refl _)
      (reclaiming_undisturbed ind (withReports_undisturbed s rest) _) (iff_of_false (by simp [reclaiming]) ?_)
    obtain ⟨h | h, -⟩ := raises <;> simp [h]
  · rw [if_neg raises]
    exact next_of_undisturbed plain (run.trans (if_neg raises)) (.refl _) (withReports_undisturbed s rest) .rfl

/-- Entering LOCKOUT disturbs nothing: the close-demand timer runs on, and no demand begins. -/
theorem lockedOut_undisturbed {s t : State} (ind : Indifferent s) (h : Undisturbed s t)
    (timer : t.sqc.demandTimer = s.sqc.demandTimer) (c : Cause) : Undisturbed s (lockedOut t c) := by
  refine Undisturbed.queue ?_ (State.askSeqEvent_onlyQueue _ _)
  exact { h with demand := demand_falls ind h.rsl (by simp) (.inr timer) }

@[simp] theorem lockedOut_sqc (s : State) (c : Cause) : (lockedOut s c).sqc = { s.sqc with
    state := some .lockout, cause := some c, closeSource := none, deadTimer := none, ewaitTimer := none,
    reclaimTimer := none } := (State.askSeqEvent_onlyQueue _ _).sameCore.sqc

theorem reclaimOver_eq {s : State} (timer : s.sqc.demandTimer = none) : s.reclaimOver = { s with
    sqc := { s.sqc with state := some .closed, cause := none, shot := 0, reclaimTimer := none } } := by
  have stopped : { s.sqc with demandTimer := none } = s.sqc := by rw [← timer]
  change { s with
    sqc := { { s.sqc with demandTimer := none } with
      state := some .closed, cause := none, shot := 0, reclaimTimer := none } } = _
  rw [stopped]

theorem sequenceTimers_over : SequenceTimersOver := by
  intro s plain cls
  have ind : Indifferent s := .inr cls
  refine ⟨fun waiting runs => ?_, fun reclaim runs timer => ?_, fun runs => ?_⟩
  · exact next_of_undisturbed plain (ifRuns_of_some runs) (.refl _)
      (lockedOut_undisturbed ind { demand := .inl rfl } rfl .energy)
      (iff_of_false (by simp) (by simp [waiting])) (by simp)
  · exact next_of_undisturbed plain ((ifRuns_of_some runs).trans (reclaimOver_eq timer)) (.refl _)
      { demand := .inr cls } (iff_of_false (by simp) (by simp [reclaim]))
  · exact next_of_undisturbed plain (ifRuns_of_some runs) (.refl _) { demand := .inr cls } .rfl

/-- Settles O31: a step by its guard, and each timer by what its expiry makes of the state. -/
theorem stepsAndSequenceTimers : Obligations.StepsAndSequenceTimers := ⟨sequenceStep_taken, sequenceTimers_over⟩

/-! ### The open confirmation (R43) -/

theorem deadTime_eq (i : Settings) (shot : Nat) :
    deadTime i shot = 10 * (if shot ≤ 1 then i.dt1 else if shot = 2 then i.dt2 else i.dt3) := by
  match shot with
  | 0 => rfl
  | 1 => rfl
  | 2 => rfl
  | n + 3 => simp [deadTime]

/-- A protection trip below the effective L goes to DEAD. -/
theorem takeOpen_to_dead {s : State} (tripping : s.sqc.state = some .tripping)
    (cause : s.sqc.opCause = some .protection) (below : s.sqc.shot < s.effectiveL) (ms : Nat) :
    s.takeOpen ms = (State.askSeqEvent
      { s with
        sqc := { s.sqc with
          record := s.sqc.record.map fun r => { r with operating := some ms }, opCause := none,
          state := some .dead, cause := none, demandTimer := none,
          deadTimer := some ⟨s.now, 10 * (if s.sqc.shot ≤ 1 then s.stl.image.dt1
            else if s.sqc.shot = 2 then s.stl.image.dt2 else s.stl.image.dt3)⟩ },
        peu := Peu.start } .trip).askSeqEvent .deadTime := by
  have entered : s.takeOpen ms =
      ({ s with sqc := s.sqc.confirmed ms }.enterDead).askTripEvents .deadTime := by
    simp only [State.takeOpen, tripping, cause, if_pos below]
  rw [entered, ← deadTime_eq]
  rfl

/-- Any other trip goes to LOCKOUT with its cause. -/
theorem takeOpen_to_lockout {s : State} {c : OpCause} (tripping : s.sqc.state = some .tripping)
    (cause : s.sqc.opCause = some c) (last : ¬(c = .protection ∧ s.sqc.shot < s.effectiveL)) (ms : Nat) :
    s.takeOpen ms = (State.askSeqEvent
      { s with
        sqc := { s.sqc with
          record := s.sqc.record.map fun r => { r with operating := some ms }, opCause := none,
          state := some .lockout, cause := some c.cause },
        peu := Peu.start } .trip).askSeqEvent .lockout := by
  have entered : s.takeOpen ms =
      ({ s with sqc := s.sqc.confirmed ms }.enter .lockout (some c.cause)).askTripEvents .lockout := by
    cases c with
    | protection =>
      have full : ¬s.sqc.shot < s.effectiveL := fun below => last ⟨rfl, below⟩
      simp only [State.takeOpen, tripping, cause, if_neg full]
      rfl
    | _ => simp only [State.takeOpen, tripping, cause]
  rw [entered]
  rfl

theorem openConfirmed_taken : Claims.OpenConfirmed := by
  intro s ms rest c plain ind tripping cause arrives
  have run := onArrival_of_some (f := fun t s => s.takeOpen t) arrives
  have asked (t : State) (k : EventKind) : OnlyQueue t ((t.askSeqEvent .trip).askSeqEvent k) :=
    (State.askSeqEvent_onlyQueue t .trip).trans (State.askSeqEvent_onlyQueue _ k)
  by_cases below : c = .protection ∧ s.sqc.shot < s.effectiveL
  · simp only [if_pos below]
    obtain ⟨rfl, shot⟩ := below
    exact next_of_undisturbed plain (run.trans (takeOpen_to_dead (s := withReports s rest) tripping cause shot ms))
      (asked _ _) { demand := demand_falls ind rfl (by simp) (.inl rfl) }
      (iff_of_false (by simp) (by simp [tripping]))
  · simp only [if_neg below]
    exact next_of_undisturbed plain
      (run.trans (takeOpen_to_lockout (s := withReports s rest) tripping cause below ms))
      (asked _ _) { demand := demand_falls ind rfl (by simp) (.inr rfl) }
      (iff_of_false (by simp) (by simp [tripping]))

/-- Settles O32: the open confirmation in TRIPPING by its two ends, DEAD and LOCKOUT. -/
theorem openConfirmed : Obligations.OpenConfirmed := openConfirmed_taken

end Sys2Proof.Machine
end

section
/-! STUCK, closes and changes not asked for, the dead time, the panel (R44 to R46, R48, R50 to R59, R66). -/

namespace Sys2Proof.Machine

open Sys2Proof.Safety Sys2Proof.Claims

/-! ### STUCK (R58) -/

theorem formInhibit_of_queue {s t : State} (h : OnlyQueue s t) : t.formInhibit = s.formInhibit := by
  obtain ⟨_, _, _, _, rfl⟩ := h
  rfl

/-- The end of an event forms the inhibit reason of STUCK (R165). -/
theorem settle_stuck {s t : State} (plain : Plain s) (ind : Indifferent s) (h : Undisturbed s t) (c : Cause)
    (before : RslInputs) : ((t.enterStuck c).askSeqEvent .stuck).settle before false = stuckIn t c := by
  have queue := State.askSeqEvent_onlyQueue (t.enterStuck c) .stuck
  have state : (t.enterStuck c).sqc.state = some .stuck := rfl
  have still : Undisturbed s (t.enterStuck c) :=
    { h with demand := demand_falls ind h.rsl (by simp [state]) (.inl rfl) }
  have inhibit : (t.enterStuck c).formInhibit =
      some (if t.stl.fault.isSome then .settings else if t.lnk.idClash then .idClash else .stuck) := by
    rw [State.formInhibit, if_pos state]
    change (if t.stl.fault.isSome then _ else if t.lnk.idClash then _ else _) = _
    split
    · rfl
    · split <;> rfl
  rw [(still.queue queue).settle plain, formInhibit_of_queue queue, inhibit]
  rfl

theorem takeOpen_of_stuck {s : State} (h : s.sqc.state = some .stuck) (ms : Nat) :
    s.takeOpen ms = State.askSeqEvent
      { s with sqc := { s.sqc.confirmed ms with stuckAttempt := false } } .trip := by
  simp only [State.takeOpen, h]

theorem takeTripFail_of_tripping {s : State} (h : s.sqc.state = some .tripping) :
    s.takeTripFail = (s.enterStuck .tripFail).askSeqEvent .stuck := by
  simp only [State.takeTripFail, h]

theorem takeTripFail_of_stuck {s : State} (h : s.sqc.state = some .stuck) :
    s.takeTripFail = State.askSeqEvent
      { s with
        sqc := { s.sqc with opCause := none, stuckAttempt := false, cause := some .tripFail } } .stuck := by
  simp only [State.takeTripFail, h]

theorem takePositionFault_of_stuck {s : State} (h : s.sqc.state = some .stuck) :
    s.takePositionFault = { s with sqc := { s.sqc with cause := some .position } } := by
  simp only [State.takePositionFault, h]

theorem takePositionFault_of_not_stuck {s : State} (taken : s.sqc.state ≠ none)
    (free : s.sqc.state ≠ some .stuck) : s.takePositionFault = (s.enterStuck .position).askSeqEvent .stuck := by
  unfold State.takePositionFault
  split
  · next stuck => exact absurd stuck free
  · rfl
  · next none => exact absurd none taken

theorem stuck_entered : StuckEntered := by
  intro s rest plain ind
  have settled (c : Cause) := settle_stuck plain ind (withReports_undisturbed s rest) c s.rslInputs
  constructor
  · intro tripping arrives
    have run := (onArrival_of_some (f := fun _ s => s.takeTripFail) arrives).trans
      (takeTripFail_of_tripping (s := withReports s rest) tripping)
    exact (whenUp_of_up (plain_up plain)).trans (by rw [event, run, settled])
  · intro taken free arrives
    have run := (onArrival_of_some (f := fun _ s => s.takePositionFault) arrives).trans
      (takePositionFault_of_not_stuck (s := withReports s rest) taken free)
    have test : (((withReports s rest).enterStuck .position).askSeqEvent .stuck).bcu.test = none := by
      obtain ⟨-, -, -, -, bcu, -⟩ := (State.askSeqEvent_onlyQueue ((withReports s rest).enterStuck .position)
        .stuck).stands
      have none := plain_no_test plain
      rw [bcu]
      exact none
    have noAbort := (withAbort_of_no_test _ s (run ▸ test)).trans run
    exact (whenUp_of_up (plain_up plain)).trans (by rw [event, noAbort, settled])

theorem stuck_takes_reports : StuckTakesReports := by
  intro s ms rest plain stuck
  refine ⟨fun arrives => ?_, fun arrives => ?_, fun arrives => ?_⟩
  · exact next_of_undisturbed_abort plain
      ((onArrival_of_some arrives).trans (takePositionFault_of_stuck (s := withReports s rest) stuck)) (.refl _)
      { demand := .inl rfl } .rfl
  · exact next_of_undisturbed plain
      ((onArrival_of_some arrives).trans (takeOpen_of_stuck (s := withReports s rest) stuck ms))
      (State.askSeqEvent_onlyQueue _ _) { demand := .inl rfl } .rfl
  · exact next_of_undisturbed plain
      ((onArrival_of_some arrives).trans (takeTripFail_of_stuck (s := withReports s rest) stuck))
      (State.askSeqEvent_onlyQueue _ _) { demand := .inl rfl } .rfl

/-- Settles O33: the entry to STUCK with the inhibit reason it forms, and what each report does there. -/
theorem stuck : Obligations.Stuck := ⟨stuck_entered, stuck_takes_reports⟩

/-! ### Answers to a close, and changes not asked for (R46, R56, R57) -/

theorem takeClosed_of_closing {s : State} {src : CloseSource} (closing : s.sqc.state = some .closing)
    (source : s.sqc.closeSource = some src) :
    s.takeClosed = State.askSeqEvent (reclaiming s (if src = .auto then s.sqc.shot else s.stl.image.l - 1))
      (if src = .auto then .reclose else if src = .restore then .restoreClose else .manualClose) := by
  have taken : s.takeClosed = State.askSeqEvent (reclaiming s (shotAfterClose s.sqc.shot s.stl.image.l src))
      (closeKind src) := by
    unfold State.takeClosed
    rw [closing, source]
    rfl
  rw [taken]
  cases src <;> rfl

theorem close_answered : CloseAnswered := by
  intro s rest src plain ind state source
  have awake : s.sqc.state ≠ some .stuck := by simp [state]
  constructor
  · intro arrives
    exact next_of_undisturbed plain
      ((onArrival_of_some arrives).trans (takeClosed_of_closing (s := withReports s rest) state source))
      (State.askSeqEvent_onlyQueue _ _) (reclaiming_undisturbed ind (withReports_undisturbed s rest) _)
      (iff_of_false (by simp [reclaiming]) awake)
  · intro arrives
    have run : (withReports s rest).takeCloseFail = lockedOut (withReports s rest) .closeFail := if_pos state
    exact next_of_undisturbed plain ((onArrival_of_some arrives).trans run) (.refl _)
      (lockedOut_undisturbed ind (withReports_undisturbed s rest) rfl _) (iff_of_false (by simp) awake) (by simp)

/-- At a plain station a return to WATCH from OPENED has nothing to do. -/
theorem reopenWatch_of_plain {s t : State} (plain : Plain s) (h : t.rsl = s.rsl) : t.reopenWatch = t := by
  obtain ⟨-, -, watch, -⟩ := plain
  simp [State.reopenWatch, h, watch]

theorem rearm_of_plain {s t : State} (plain : Plain s) (h : t.rsl = s.rsl) : t.rearm = t := by
  obtain ⟨-, -, watch, -⟩ := plain
  simp [State.rearm, h, watch]

theorem waiting_iff (s : State) : s.sqc.waiting = true ↔ Waiting s := by simp [Sqc.waiting, Waiting]

theorem takeUnsolicitedOpen_of_closed {s : State} (h : s.sqc.state = some .closed ∨ s.sqc.state = some .reclaim)
    (down : Bool) : s.takeUnsolicitedOpen down = lockedOut s (if down then .handle else .externalOpen) :=
  if_pos (by simpa using h)

theorem unsolicited_changes : UnsolicitedChanges := by
  intro s down rest plain ind
  constructor
  · intro state arrives
    have run := takeUnsolicitedOpen_of_closed (s := withReports s rest) state down
    exact next_of_undisturbed_abort plain ((onArrival_of_some arrives).trans run) (.refl _)
      (lockedOut_undisturbed ind (withReports_undisturbed s rest) rfl _)
      (iff_of_false (by simp) (by obtain h | h := state <;> simp [h])) (by simp)
  · intro state arrives
    let u := withReports s rest
    have open_ : (u.sqc.waiting || u.sqc.state = some .lockout) = true := by
      simpa [Sqc.waiting, u, withReports] using state
    have taken : u.takeUnsolicitedClose = (reclaiming u (s.stl.image.l - 1)).askSeqEvent .externalClose :=
      if_pos open_
    have run : u.externalClose = (reclaiming u (s.stl.image.l - 1)).askSeqEvent .externalClose := by
      have queue := State.askSeqEvent_onlyQueue (reclaiming u (s.stl.image.l - 1)) .externalClose
      obtain ⟨-, -, -, -, -, -, -, rsl, -⟩ := queue.stands
      rw [State.externalClose, if_pos open_, taken, reopenWatch_of_plain plain rsl]
    exact next_of_undisturbed plain ((onArrival_of_some arrives).trans run)
      (State.askSeqEvent_onlyQueue _ _) (reclaiming_undisturbed ind (withReports_undisturbed s rest) _)
      (iff_of_false (by simp [reclaiming]) (by obtain (h | h) | h := state <;> simp [h]))

/-- Settles O34: a close answer by its source, an unsolicited change by the state that takes it. -/
theorem closesAndUnsolicited : Obligations.ClosesAndUnsolicited := ⟨close_answered, unsolicited_changes⟩

/-! ### The dead time over (R44, R45, R48) -/

/-- A close taken with the store READY disturbs nothing but a close demand that the class does not count. -/
theorem closing_undisturbed {s t : State} (h : Undisturbed s t) (cls : s.bcu.cls ≠ some .protectOnly)
    (src : CloseSource) : Undisturbed s (closing t src) := { h with demand := .inr cls }

/-- The state with its dead timer stopped, as the gate is tested (R44). -/
def deadTimerStopped (s : State) : State := { s with sqc := { s.sqc with deadTimer := none } }

theorem deadOver_of_shut {s : State} (shut : (deadTimerStopped s).gateOpen = false) :
    s.deadOver = lockedOut s (deadTimerStopped s).gateCause := by
  change (if !(deadTimerStopped s).gateOpen then (deadTimerStopped s).toLockout (deadTimerStopped s).gateCause
    else _) = _
  rw [shut]
  rfl

/-- Behind an open gate the close begins, waits for its store, or is given up. -/
theorem deadOver_of_open {s : State} (gate : (deadTimerStopped s).gateOpen = true) (idle : s.mdu.op = .idle)
    (timer : s.sqc.demandTimer = none) :
    s.deadOver = if s.mdu.close.state = .ready then closing s .auto
      else if s.stl.image.tEwait = 0 then lockedOut s .energy
      else { s with
        sqc := { s.sqc with
          state := some .energyWait, cause := none, deadTimer := none,
          ewaitTimer := some ⟨s.now, 1000 * s.stl.image.tEwait⟩ },
        peu := Peu.start } := by
  have stopped : { s.sqc with demandTimer := none } = s.sqc := by rw [← timer]
  have past : s.deadOver = if s.mdu.close.isReady then (deadTimerStopped s).beginClose .auto
      else if s.stl.image.tEwait = 0 then lockedOut s .energy
      else { s with
        sqc := { { s.sqc with demandTimer := none } with
          state := some .energyWait, cause := none, deadTimer := none,
          ewaitTimer := some ⟨s.now, 1000 * s.stl.image.tEwait⟩ },
        peu := Peu.start } := by
    change (if !(deadTimerStopped s).gateOpen then _ else _) = _
    rw [gate]
    rfl
  rw [past, stopped]
  by_cases ready : s.mdu.close.state = .ready
  · rw [if_pos (Store.isReady_iff.mpr ready), if_pos ready]
    exact beginClose_eq (s := deadTimerStopped s) idle ready .auto
  · rw [if_neg (fun h => ready (Store.isReady_iff.mp h)), if_neg ready]

theorem deadOver_eq {s : State} (awake : s.sqc.state ≠ some .stuck) (idle : s.mdu.op = .idle)
    (timer : s.sqc.demandTimer = none) : s.deadOver = deadTimeEnded s := by
  have gate : (deadTimerStopped s).gateOpen = true ↔
      s.tagHold = false ∧ s.mdu.handleDown = false ∧ s.bcu.cls ≠ some .cutoff := by
    rw [State.gateOpen_iff]
    exact ⟨fun ⟨tags, handle, cls, _⟩ => ⟨tags, handle, cls⟩,
      fun ⟨tags, handle, cls⟩ => ⟨tags, handle, cls, awake⟩⟩
  have cause : (deadTimerStopped s).gateCause =
      if s.tagHold then .tag else if s.mdu.handleDown then .handle else .energy := rfl
  unfold deadTimeEnded
  by_cases opened : (deadTimerStopped s).gateOpen = true
  · rw [deadOver_of_open opened idle timer]
    obtain ⟨tags, handle, cls⟩ := gate.mp opened
    simp only [tags, handle, if_neg cls, Bool.false_eq_true, if_false]
  · rw [deadOver_of_shut (by simpa using opened), cause]
    split
    · rfl
    · next tags =>
      split
      · rfl
      · next handle =>
        have cutoff : s.bcu.cls = some .cutoff := by
          by_contra cls
          exact opened (gate.mpr ⟨by simpa using tags, by simpa using handle, cls⟩)
        rw [if_pos cutoff]

/-- The dead time's end disturbs nothing where the class does not count the close demand. -/
theorem deadTimeEnded_undisturbed {s : State} (cls : s.bcu.cls ≠ some .protectOnly) :
    Undisturbed s (deadTimeEnded s) := by
  have locked (c : Cause) : Undisturbed s (lockedOut s c) :=
    lockedOut_undisturbed (.inr cls) { demand := .inl rfl } rfl c
  unfold deadTimeEnded
  split_ifs
  · exact locked _
  · exact locked _
  · exact locked _
  · exact closing_undisturbed { demand := .inl rfl } cls _
  · exact locked _
  · exact { demand := .inr cls }

/-- It ends in LOCKOUT, CLOSING or ENERGY_WAIT, the switch as it stood. -/
theorem deadTimeEnded_sqc (s : State) :
    (deadTimeEnded s).sqc.state ≠ some .stuck ∧ (deadTimeEnded s).sqc.nonreclose = s.sqc.nonreclose := by
  unfold deadTimeEnded
  split_ifs <;> simp [closing]

/-- Settles O35: the gate's conditions one by one, then the close store. -/
theorem deadTimeOver : Obligations.DeadTimeOver := by
  intro s plain dead runs idle timer cls
  have awake : s.sqc.state ≠ some .stuck := by simp [dead]
  obtain ⟨ends, switch⟩ := deadTimeEnded_sqc s
  exact next_of_undisturbed plain ((ifRuns_of_some runs).trans (deadOver_eq awake idle timer)) (.refl _)
    (deadTimeEnded_undisturbed cls) (iff_of_false ends awake) switch

end Sys2Proof.Machine
end

section
/-! What people ask for at a plain station: the panel, its switches and the crew (R50 to R53, R55, R58, R59, R66,
R133, R156). -/

namespace Sys2Proof.Machine

open Sys2Proof.Safety Sys2Proof.Claims

/-! ### A manual or crew TRIP (R51, R58) -/

theorem manualTrip_of_mayTrip {s : State} {u : UpdateRecord} (record : s.sfe.latest = some u) (may : MayTrip s)
    (c : OpCause) : s.manualTrip c =
      (tripTaken s c s.sqc.shot ⟨Ch4.all false, Ch4.all false⟩ u.rms.currents, .accepted) := by
  obtain ⟨state, idle, -⟩ := may
  rw [← tripUnasked_eq record idle c]
  unfold State.manualTrip
  obtain h | h | h := state <;> simp only [h]

theorem manualTrip_of_waiting {s : State} (h : Waiting s) (c : OpCause) :
    s.manualTrip c = (lockedOut s c.cause, .accepted) := by
  rw [← toLockout_eq]
  unfold State.manualTrip
  obtain h | h := h <;> simp only [h]

theorem manualTrip_refused {s : State}
    (h : s.sqc.state = some .tripping ∨ s.sqc.state = some .lockout ∨ s.sqc.state = none) (c : OpCause) :
    s.manualTrip c = (s, .refusedState) := by
  unfold State.manualTrip
  obtain h | h | h := h <;> simp only [h]

theorem manualTrip_of_stuck {s : State} {u : UpdateRecord} (record : s.sfe.latest = some u)
    (stuck : s.sqc.state = some .stuck) (idle : s.mdu.tripping = false) (c : OpCause) :
    s.manualTrip c =
      if s.sqc.stuckAttempt = true ∨ s.mdu.position = some .opened then (s, .refusedState)
      else (stuckTrip s c u.rms.currents, .accepted) := by
  rw [← stuckTrip_eq record idle c]
  simp only [State.manualTrip, stuck, Bool.or_eq_true, decide_eq_true_eq]

/-- The one trip asked for in STUCK disturbs nothing. -/
theorem stuckTrip_undisturbed {s t : State} (h : Undisturbed s t) (c : OpCause) (rms : Ch4 Nat) :
    Undisturbed s (stuckTrip t c rms) := { h with }

/-- A panel press of a plain station reaches the SQC alone: there is no INHIBITED state to leave. -/
theorem panelTrip_runs {s t : State} {o : RequestOutcome} (plain : Plain s) (h : s.manualTrip .manual = (t, o)) :
    (s.rearm.manualTrip .manual).1 = t := by rw [rearm_of_plain plain rfl, h]

theorem panelTrip_taken : Claims.PanelTrip := by
  intro s u plain ind record
  refine ⟨fun may => ?_, fun waiting => ?_, fun refused => ?_⟩
  · exact next_of_undisturbed plain (panelTrip_runs plain (manualTrip_of_mayTrip record may .manual)) (.refl _)
      (tripTaken_undisturbed plain may { demand := .inl rfl } _ _ _ _)
      (iff_of_false (by simp [tripTaken]) (not_stuck_of_mayTrip may))
  · exact next_of_undisturbed plain (panelTrip_runs plain (manualTrip_of_waiting waiting .manual)) (.refl _)
      (lockedOut_undisturbed ind { demand := .inl rfl } rfl _)
      (iff_of_false (by simp) (not_stuck_of_waiting waiting)) (by simp)
  · exact next_of_undisturbed plain (panelTrip_runs plain (manualTrip_refused refused .manual)) (.refl _)
      { demand := .inl rfl } .rfl

theorem panelTrip_in_stuck : PanelTripInStuck := by
  intro s u plain record stuck idle
  have run := manualTrip_of_stuck record stuck idle .manual
  split
  · next attempted =>
    rw [if_pos attempted] at run
    exact next_of_undisturbed plain (panelTrip_runs plain run) (.refl _) { demand := .inl rfl } .rfl
  · next free =>
    rw [if_neg free] at run
    exact next_of_undisturbed plain (panelTrip_runs plain run) (.refl _)
      (stuckTrip_undisturbed { demand := .inl rfl } _ _) .rfl

/-- Settles O36: the panel TRIP by the eight states and the start. -/
theorem panelTrip : Obligations.PanelTrip := ⟨panelTrip_taken, panelTrip_in_stuck⟩

/-! ### A manual or crew CLOSE (R52, R53) -/

/-- The five tests in their order, with no operation in flight. -/
theorem manualClose_eq {s : State} (idle : s.mdu.op = .idle) (src : CloseSource) : s.manualClose src =
    if s.sqc.state ≠ some .lockout then (s, .refusedState)
    else if s.tagHold then (s, .refusedTagged)
    else if s.mdu.handleDown then (s, .refusedState)
    else if s.bcu.cls = some .cutoff then (s, .refusedEnergy)
    else if s.mdu.close.state = .ready then (closing s src, .accepted)
    else (demandStarted s, .refusedEnergy) := by
  unfold State.manualClose State.closeBar
  by_cases state : s.sqc.state ≠ some .lockout
  · simp only [if_pos state]
  by_cases tags : s.tagHold = true
  · simp only [if_neg state, if_pos tags]
  by_cases handle : s.mdu.handleDown = true
  · simp only [if_neg state, if_neg tags, if_pos handle]
  by_cases cutoff : s.bcu.cls = some .cutoff
  · simp only [if_neg state, if_neg tags, if_neg handle, if_pos cutoff]
  simp only [if_neg state, if_neg tags, if_neg handle, if_neg cutoff]
  by_cases ready : s.mdu.close.state = .ready
  · rw [if_pos (Store.isReady_iff.mpr ready), if_pos ready, beginClose_eq idle ready]
  · rw [if_neg (fun h => ready (Store.isReady_iff.mp h)), if_neg ready]
    rfl

/-- A close asked for at a plain station is one of the SQC alone: there is no state of the RSL to leave. -/
theorem closeAsked_of_plain {s t : State} (plain : Plain s) (rsl : t.rsl = s.rsl) (idle : t.mdu.op = .idle)
    (src : CloseSource) : t.closeAsked src = t.manualClose src := by
  have kept : (t.manualClose src).1.rsl = s.rsl := by
    rw [manualClose_eq idle, ← rsl]
    split_ifs <;> rfl
  rw [State.closeAsked, rearm_of_plain plain rsl, reopenWatch_of_plain plain kept, ite_self]

theorem panelClose_taken : PanelClose := by
  intro s plain idle cls
  have run : (s.closeAsked .manual).1 = (s.manualClose .manual).1 := by
    rw [closeAsked_of_plain plain rfl idle]
  rw [manualClose_eq idle] at run
  by_cases barred : s.sqc.state ≠ some .lockout ∨ s.tagHold = true ∨ s.mdu.handleDown = true ∨
      s.bcu.cls = some .cutoff
  · rw [if_pos barred]
    refine next_of_undisturbed plain (run.trans ?_) (.refl _) { demand := .inl rfl } .rfl
    split_ifs <;> first | rfl | tauto
  · rw [if_neg barred]
    push Not at barred
    obtain ⟨state, tags, handle, cutoff⟩ := barred
    rw [if_neg (not_not.mpr state), if_neg tags, if_neg handle, if_neg cutoff] at run
    split
    · next ready =>
      rw [if_pos ready] at run
      exact next_of_undisturbed plain run (.refl _) (closing_undisturbed { demand := .inl rfl } cls _)
        (iff_of_false (by simp [closing]) (by simp [state]))
    · next empty =>
      rw [if_neg empty] at run
      exact next_of_undisturbed plain run (.refl _) { demand := .inr cls } .rfl

/-! ### NONRECLOSE and HANDLE (R50, R59, R66) -/

/-- A change that locks out the dead states, as `lockDead` makes it. -/
theorem lockDead_eq (s : State) (c : Cause) : s.lockDead c = if Waiting s then lockedOut s c else s := by
  simp only [State.lockDead, waiting_iff]
  rfl

/-- A reading of the NONRECLOSE switch taken (R59). -/
def switchTaken (s : State) (x : Bool) : State :=
  { s with sqc := { s.sqc with nonreclose := x, nonrecloseRead := true } }

/-- A reading of HANDLE taken (R66). -/
def handleTaken (s : State) (x : Bool) : State :=
  { s with mdu := { s.mdu with handleDown := x, handleRead := true } }

theorem switchTaken_undisturbed (s : State) (x : Bool) : Undisturbed s (switchTaken s x) := { demand := .inl rfl }

theorem handleTaken_undisturbed (s : State) (x : Bool) : Undisturbed s (handleTaken s x) := { demand := .inl rfl }

/-- A reading that turns the switch on locks out a dead state. -/
theorem nonrecloseReading_eq (s : State) (x : Bool) : s.nonrecloseReading x =
    if x = true ∧ s.sqc.nonreclose = false ∧ Waiting s then lockedOut (switchTaken s x) .manual
    else switchTaken s x := by
  simp only [State.nonrecloseReading, lockDead_eq]
  cases x <;> cases s.sqc.nonreclose <;> simp [switchTaken]

/-- A HANDLE that goes down locks out a dead state. -/
theorem handleReading_eq (s : State) (x : Bool) : s.handleReading x =
    if x = true ∧ s.mdu.handleDown = false ∧ Waiting s then lockedOut (handleTaken s x) .handle
    else handleTaken s x := by
  simp only [State.handleReading, lockDead_eq]
  cases x <;> cases s.mdu.handleDown <;> simp [handleTaken]

theorem handleChange_taken {s : State} (plain : Plain s) (ind : Indifferent s) (x : Bool) :
    exec (.handleChange x) s = .next
      (if x = true ∧ s.mdu.handleDown = false ∧ Waiting s then lockedOut (handleTaken s x) .handle
      else handleTaken s x) := by
  by_cases locks : x = true ∧ s.mdu.handleDown = false ∧ Waiting s
  · obtain ⟨-, -, waiting⟩ := id locks
    rw [if_pos locks]
    exact next_of_undisturbed plain ((handleReading_eq s x).trans (if_pos locks)) (.refl _)
      (lockedOut_undisturbed ind (handleTaken_undisturbed s x) rfl _)
      (iff_of_false (by simp) (not_stuck_of_waiting waiting)) (by simp; rfl)
  · rw [if_neg locks]
    exact next_of_undisturbed plain ((handleReading_eq s x).trans (if_neg locks)) (.refl _) { demand := .inl rfl }
      .rfl

/-- A reading of the switch, locking out or not, leaves the switch as read, STUCK as it was and the rest to the end
of the event. -/
theorem nonrecloseReading_kept {s : State} (ind : Indifferent s) (x : Bool) :
    Undisturbed s (s.nonrecloseReading x) ∧ (s.nonrecloseReading x).sqc.nonreclose = x ∧
      (s.nonrecloseReading x).sqc.nonrecloseRead = true ∧
      ((s.nonrecloseReading x).sqc.state = some .stuck ↔ s.sqc.state = some .stuck) := by
  rw [nonrecloseReading_eq]
  split
  · next locks =>
    obtain ⟨-, -, waiting⟩ := locks
    exact ⟨lockedOut_undisturbed ind (switchTaken_undisturbed s x) rfl _, by simp; rfl, by simp; rfl,
      iff_of_false (by simp) (not_stuck_of_waiting waiting)⟩
  · exact ⟨switchTaken_undisturbed s x, rfl, rfl, .rfl⟩

theorem switch_and_handle : SwitchAndHandle := by
  intro s x plain ind
  refine ⟨?_, ?_⟩
  · obtain ⟨kept, switch, read, stuck⟩ := nonrecloseReading_kept ind x
    have inhibit : (s.nonrecloseReading x).formInhibit = (if s.stl.fault.isSome then some .settings
        else if s.lnk.idClash then some .idClash
        else if s.sqc.state = some .stuck then some .stuck
        else if x then some .nonreclose else none) := by
      simp only [State.formInhibit, kept.stl, kept.idClash, switch, stuck]
    refine ⟨{ s.nonrecloseReading x with
        rsl := { (s.nonrecloseReading x).rsl with inhibit := (s.nonrecloseReading x).formInhibit } },
      (whenUp_of_up (plain_up plain)).trans (by rw [event, kept.settle plain]), switch, read, ?_,
      by rw [inhibit, kept.rsl]⟩
    have reads := nonrecloseReading_eq s x
    by_cases locks : x = true ∧ s.sqc.nonreclose = false ∧ Waiting s
    · obtain ⟨rfl, -, -⟩ := id locks
      rw [if_pos locks] at reads ⊢
      rw [reads]
      rfl
    · rw [if_neg locks] at reads ⊢
      rw [reads]
      rfl
  · rw [handleChange_taken plain ind x]
    by_cases down : x = true
    · subst down
      rfl
    · rw [if_neg (fun h => down h.1), if_neg (fun h => down h.1)]
      rfl

/-- Settles O37: the five tests of a panel CLOSE, and the two switches by whether they lock out a dead state. -/
theorem panelCloseAndSwitches : Obligations.PanelCloseAndSwitches := ⟨panelClose_taken, switch_and_handle⟩

end Sys2Proof.Machine
end

section
/-! The crew at a plain station: TRIP, CLOSE and STATUS_NOW, each answered once (R51, R52, R55, R133, R156). -/

namespace Sys2Proof.Machine

open Sys2Proof.Safety Sys2Proof.Claims

/-! ### A request taken from the receptions (R108, R109, R156) -/

/-- An ACCEPTED frame taken, under the statements' name. -/
theorem heard_eq {s : State} {r : EndedReception} {rest : List EndedReception}
    (h : s.transit.receptions = r :: rest) (m : Frame) :
    s.dropReception.filterEffect r.arrival (.accepted m) = heard s r rest := by
  simp only [State.filterEffect, State.dropReception, h]
  rfl

theorem heard_undisturbed (s : State) (r : EndedReception) (rest : List EndedReception) :
    Undisturbed s (heard s r rest) := { demand := .inl rfl }

/-- The row of a kind takes a request of the kind that is acted on. -/
theorem onFrame_of_request {s : State} {k : RequestKind} {q : CrewRequest} {r : EndedReception}
    {rest : List EndedReception} (h : RequestArrives s k q r rest)
    (f : CrewRequest → Uptime → State → State) :
    onFrame (s.pickRequest k) f s = f q r.arrival (heard s r rest) := by
  obtain ⟨receptions, accepted, kind, acted⟩ := h
  have picked : s.pickRequest k (.request q) = some q := by simp [State.pickRequest, kind, acted]
  rw [onFrame_of_pick receptions accepted picked, heard_eq receptions]

/-! ### TRIP (R51, R55, R58) -/

/-- What a crew TRIP runs, by what the SQC makes of it. -/
theorem crewTrip_runs {s t : State} {q : CrewRequest} {r : EndedReception} {rest : List EndedReception}
    {o : RequestOutcome} (plain : Plain s) (arrives : RequestArrives s .trip q r rest)
    (h : (heard s r rest).manualTrip .crew = (t, o)) :
    onFrame (s.pickRequest .trip) (fun r _ s => State.answer (s.rearm.manualTrip .crew) r) s =
      t.askResult q.crew .trip o := by
  obtain ⟨-, -, kind, -⟩ := id arrives
  rw [onFrame_of_request arrives, rearm_of_plain (t := heard s r rest) plain rfl, h, State.answer, kind]

theorem crewTrip_taken {s : State} {q : CrewRequest} {r : EndedReception} {rest : List EndedReception}
    {u : UpdateRecord} (plain : Plain s) (ind : Indifferent s) (record : s.sfe.latest = some u)
    (arrives : RequestArrives s .trip q r rest) :
    (MayTrip s → exec .crewTrip s = .next ((tripTaken (heard s r rest) .crew s.sqc.shot
        ⟨Ch4.all false, Ch4.all false⟩ u.rms.currents).askResult q.crew .trip .accepted)) ∧
      (Waiting s → exec .crewTrip s = .next
        ((lockedOut (heard s r rest) .crew).askResult q.crew .trip .accepted)) ∧
      (s.sqc.state = some .tripping ∨ s.sqc.state = some .lockout ∨ s.sqc.state = none →
        exec .crewTrip s = .next ((heard s r rest).askResult q.crew .trip .refusedState)) ∧
      (s.sqc.state = some .stuck → s.mdu.tripping = false → exec .crewTrip s = .next
        (if s.sqc.stuckAttempt = true ∨ s.mdu.position = some .opened then
          (heard s r rest).askResult q.crew .trip .refusedState
        else
          (stuckTrip (heard s r rest) .crew u.rms.currents).askResult q.crew .trip .accepted)) := by
  have calm := heard_undisturbed s r rest
  refine ⟨fun may => ?_, fun waiting => ?_, fun refused => ?_, fun stuck idle => ?_⟩
  · exact next_of_undisturbed_abort plain
      (crewTrip_runs plain arrives (manualTrip_of_mayTrip (s := heard s r rest) record may .crew))
      (State.askResult_onlyQueue _ _ _ _) (tripTaken_undisturbed plain may calm _ _ _ _)
      (iff_of_false (by simp [tripTaken]) (not_stuck_of_mayTrip may))
  · exact next_of_undisturbed_abort plain
      (crewTrip_runs plain arrives (manualTrip_of_waiting (s := heard s r rest) waiting .crew))
      (State.askResult_onlyQueue _ _ _ _) (lockedOut_undisturbed ind calm rfl _)
      (iff_of_false (by simp) (not_stuck_of_waiting waiting)) (by simp; rfl)
  · exact next_of_undisturbed_abort plain
      (crewTrip_runs plain arrives (manualTrip_refused (s := heard s r rest) refused .crew))
      (State.askResult_onlyQueue _ _ _ _) calm .rfl
  · have run := manualTrip_of_stuck (s := heard s r rest) record stuck idle .crew
    by_cases attempted : s.sqc.stuckAttempt = true ∨ s.mdu.position = some .opened
    · rw [if_pos attempted]
      exact next_of_undisturbed_abort plain (crewTrip_runs plain arrives (run.trans (if_pos attempted)))
        (State.askResult_onlyQueue _ _ _ _) calm .rfl
    · rw [if_neg attempted]
      exact next_of_undisturbed_abort plain (crewTrip_runs plain arrives (run.trans (if_neg attempted)))
        (State.askResult_onlyQueue _ _ _ _) (stuckTrip_undisturbed calm _ _) .rfl

/-! ### CLOSE (R52, R53, R55) -/

/-- The sequence after a manual or crew CLOSE, and its outcome. -/
theorem manualClose_undisturbed {s t : State} (h : Undisturbed s t) (cls : s.bcu.cls ≠ some .protectOnly)
    (idle : t.mdu.op = .idle) (src : CloseSource) :
    Undisturbed s (t.manualClose src).1 ∧ (t.manualClose src).1.sqc.nonreclose = t.sqc.nonreclose ∧
      ((t.manualClose src).1.sqc.state = some .stuck ↔ t.sqc.state = some .stuck) := by
  rw [manualClose_eq idle]
  split_ifs with state
  · exact ⟨h, rfl, .rfl⟩
  · exact ⟨h, rfl, .rfl⟩
  · exact ⟨h, rfl, .rfl⟩
  · exact ⟨h, rfl, .rfl⟩
  · refine ⟨closing_undisturbed h cls src, rfl, iff_of_false (by simp [closing]) ?_⟩
    simp [not_not.mp state]
  · exact ⟨{ h with demand := .inr cls }, rfl, .rfl⟩

theorem crewClose_taken {s : State} {q : CrewRequest} {r : EndedReception} {rest : List EndedReception}
    (plain : Plain s) (arrives : RequestArrives s .close q r rest) (idle : s.mdu.op = .idle)
    (cls : s.bcu.cls ≠ some .protectOnly) :
    exec .crewClose s = .next (((heard s r rest).manualClose .crew).1.askResult q.crew .close
      ((heard s r rest).manualClose .crew).2) := by
  obtain ⟨kept, switch, stuck⟩ := manualClose_undisturbed (heard_undisturbed s r rest) cls idle .crew
  obtain ⟨-, -, kind, -⟩ := id arrives
  have run : onFrame (s.pickRequest .close) (fun r _ s => State.answer (s.closeAsked .crew) r) s =
      ((heard s r rest).manualClose .crew).1.askResult q.crew .close
        ((heard s r rest).manualClose .crew).2 := by
    rw [onFrame_of_request arrives, closeAsked_of_plain (t := heard s r rest) plain rfl idle, State.answer, kind]
  exact next_of_undisturbed plain run (State.askResult_onlyQueue _ _ _ _) kept stuck switch

theorem crewTripAndClose : CrewTripAndClose := by
  intro s q r rest u plain ind record
  refine ⟨crewTrip_taken plain ind record, fun arrives idle cls => ?_⟩
  have asked := manualClose_eq (s := heard s r rest) idle .crew
  change _ = (if s.sqc.state ≠ some .lockout then _ else if s.tagHold then _
    else if s.mdu.handleDown then _ else if s.bcu.cls = some .cutoff then _
    else if s.mdu.close.state = .ready then _ else _) at asked
  rw [crewClose_taken plain arrives idle cls, asked]
  split_ifs <;> rfl

/-! ### STATUS_NOW, and a request not acted on (R133, R156) -/

theorem statusNowAndIgnored : StatusNowAndIgnored := by
  intro s q r rest plain
  have calm := heard_undisturbed s r rest
  constructor
  · intro arrives
    obtain ⟨-, -, kind, -⟩ := id arrives
    let t := ((heard s r rest).askResult q.crew .statusNow .accepted).statusDemand .crew
    have queue : OnlyQueue (heard s r rest) t :=
      (State.askResult_onlyQueue _ _ _ _).trans (State.statusDemand_onlyQueue _ _)
    have run : onFrame (s.pickRequest .statusNow) (fun r _ s => s.statusNow r) s = t := by
      have live : t.rearmLive = t := by
        rw [State.rearmLive, rearm_of_plain plain (calm.queue queue).rsl, ite_self]
      rw [onFrame_of_request arrives, State.statusNow, kind]
      exact live
    exact next_of_undisturbed plain run queue calm .rfl
  · rintro ⟨receptions, accepted⟩ ignored
    have picked : s.pickIgnored (.request q) = some q := by simp [State.pickIgnored, ignored]
    have run : onFrame s.pickIgnored (fun _ _ s => s) s = heard s r rest := by
      rw [onFrame_of_pick receptions accepted picked, heard_eq receptions]
    exact next_of_undisturbed plain run (.refl _) calm .rfl

/-- Settles O55: TRIP and CLOSE by what the SQC makes of them, with the result behind it; STATUS_NOW by its two
askings. -/
theorem crewOperations : Obligations.CrewOperations := ⟨crewTripAndClose, statusNowAndIgnored⟩

end Sys2Proof.Machine
end

section
/-! The first position, at a station of any role (R61, R63, R64, R165). -/

namespace Sys2Proof.Machine

open Sys2Proof.Safety Sys2Proof.Claims

/-! ### What the RSL takes from a new state (R165 to R170) -/

/-- `t` is `s` with at most the RSL changed, which keeps its inhibit reason, begins no store wait, and without a role
does not leave WATCH. -/
def OnlyRsl (s t : State) : Prop :=
  ∃ l, t = { s with rsl := l } ∧ l.inhibit = s.rsl.inhibit ∧
    (l.storeWait = none ∨ l.storeWait = s.rsl.storeWait) ∧
    (s.stl.image.role = .none → s.rsl.state = .watch → l.state = .watch)

theorem OnlyRsl.refl (s : State) : OnlyRsl s s := ⟨s.rsl, rfl, rfl, .inr rfl, fun _ h => h⟩

theorem OnlyRsl.trans {s t u : State} (h : OnlyRsl s t) (k : OnlyRsl t u) : OnlyRsl s u := by
  obtain ⟨l, rfl, inhibit, wait, watch⟩ := h
  obtain ⟨m, rfl, inhibit', wait', watch'⟩ := k
  refine ⟨m, rfl, inhibit'.trans inhibit, ?_, fun role h => watch' role (watch role h)⟩
  obtain none | same := wait'
  · exact .inl none
  · rw [same]
    exact wait

theorem OnlyRsl.stands {s t : State} (h : OnlyRsl s t) :
    t.bcu = s.bcu ∧ t.mdu = s.mdu ∧ t.lnk = s.lnk ∧ t.clock = s.clock := by
  obtain ⟨_, rfl, -⟩ := h
  exact ⟨rfl, rfl, rfl, rfl⟩

theorem State.watch_onlyRsl (s : State) : OnlyRsl s s.watch := ⟨_, rfl, rfl, .inl rfl, fun _ _ => rfl⟩

theorem State.stopWait_onlyRsl (s : State) : OnlyRsl s s.stopWait := ⟨_, rfl, rfl, .inl rfl, fun _ h => h⟩

theorem State.rslExits_onlyRsl (s : State) : OnlyRsl s s.rslExits := by
  unfold State.rslExits
  split
  · split
    · exact .refl s
    · exact s.watch_onlyRsl
  · split
    · exact .refl s
    · exact s.watch_onlyRsl
  · next restored =>
    split
    · exact ⟨_, rfl, rfl, .inl rfl, fun _ watch => by simp [restored] at watch⟩
    · exact .refl s
  · split
    · exact s.watch_onlyRsl
    · exact .refl s
  · exact .refl s
  · exact .refl s
  · exact .refl s

/-- A midpoint whose timer has not run by the age of VS enters TIMING with no check (R167). -/
theorem State.rslEntry_onlyRsl (s : State)
    (young : s.stl.image.role = .midpoint → s.sfe.vs.age s.now < 1000 * s.stl.image.tMid) :
    OnlyRsl s s.rslEntry := by
  unfold State.rslEntry
  split
  · next role =>
    split
    · have runs : 1000 * s.stl.image.tMid - s.sfe.vs.age s.now ≠ 0 := by have := young role; omega
      simp only [State.midpointEnter, if_neg runs]
      exact ⟨_, rfl, rfl, .inr rfl, fun none => by simp [role] at none⟩
    · exact .refl s
  · next role =>
    split
    · split
      · exact ⟨_, rfl, rfl, .inr rfl, fun none => by simp [role] at none⟩
      · exact .refl s
    · exact .refl s
  · exact .refl s

/-- The look of the RSL at the end of an event that changes the sequence alone. -/
theorem State.rslReview_onlyRsl (s : State) (before : RslInputs) (second : Bool)
    (young : s.stl.image.role = .midpoint → s.sfe.vs.age s.now < 1000 * s.stl.image.tMid) :
    OnlyRsl { s with rsl := { s.rsl with inhibit := s.formInhibit } } (s.rslReview before second) := by
  let u : State := { s with rsl := { s.rsl with inhibit := s.formInhibit } }
  let x := if u.rslExits.classAllowsRestore then u.rslExits else u.rslExits.stopWait
  have exits : OnlyRsl u x := by
    simp only [x]
    split
    · exact u.rslExits_onlyRsl
    · exact u.rslExits_onlyRsl.trans u.rslExits.stopWait_onlyRsl
  change OnlyRsl u (if second || x.rslInputs ≠ before then x.rslEntry else x)
  split
  · obtain ⟨l, e, -⟩ := id exits
    exact exits.trans (x.rslEntry_onlyRsl (by rw [e]; exact young))
  · exact exits

/-- A store wait that ends begins no close demand (R39). -/
theorem demand_of_onlyRsl {s t u : State} (ind : Indifferent s)
    (demand : t.closeDemand = s.closeDemand ∨ s.bcu.cls ≠ some .protectOnly) (h : OnlyRsl t u) :
    u.closeDemand = s.closeDemand ∨ s.bcu.cls ≠ some .protectOnly := by
  obtain same | free := demand
  · refine demand_of_indifferent ind fun some => ?_
    obtain ⟨l, rfl, -, wait, -⟩ := h
    rw [← same]
    simp only [State.closeDemand, Bool.or_eq_true] at some ⊢
    obtain none | still := wait
    · rw [none] at some
      exact some.imp_right (fun h => by simp at h)
    · rwa [still] at some
  · exact .inr free

/-- At the end of an event that leaves what it looks at as it was, with no test in progress, at a station of any
role: only the RSL changes. -/
theorem settle_onlyRsl {s t : State} (settled : Settled s) (test : s.bcu.test = none) (ind : Indifferent s)
    (young : s.stl.image.role = .midpoint → s.sfe.vs.age s.now < 1000 * s.stl.image.tMid)
    (sfe : t.sfe = s.sfe) (lnk : t.lnk = s.lnk) (h : Undisturbed s t) (before : RslInputs) :
    OnlyRsl { t with rsl := { t.rsl with inhibit := t.formInhibit } } (t.settle before false) := by
  obtain ⟨-, -, -, -, charger, listens⟩ := settled
  have now : t.now = s.now := congrArg Clock.uptime h.clock
  have review := t.rslReview_onlyRsl before false (by rw [h.stl, sfe, now]; exact young)
  have demand : (t.rslReview before false).closeDemand = s.closeDemand ∨ s.bcu.cls ≠ some .protectOnly :=
    demand_of_onlyRsl (t := { t with rsl := { t.rsl with inhibit := t.formInhibit } }) ind h.demand review
  obtain ⟨bcu, mdu, keeps, clock⟩ := review.stands
  have noTest : (t.rslReview before false).bcu.test = none := by rw [bcu, h.bcu, test]
  have assigned : (t.rslReview before false).chargerReview = t.rslReview before false :=
    chargerReview_stands charger (bcu.trans h.bcu) (clock.trans h.clock)
      (by rw [mdu]; exact h.tripStore) (by rw [mdu]; exact h.closeStore) demand
  have heard : (t.rslReview before false).listenReview = t.rslReview before false := by
    rw [lnk.symm.trans keeps.symm] at listens
    obtain on | none := listens
    · rw [State.listenReview, if_pos on]
    · exact State.listenReview_of_none none
  rw [State.settle, State.abortReview_of_no_test noTest, assigned, heard]
  exact review

/-! ### The start state (R61) -/

/-- The first position decided and the start state taken from it. -/
theorem startState_eq (s : State) (m : Mdu) (p : Position) :
    { s with mdu := { m.publish p with faultReported := decide (p = Position.unknown) } }.startState p =
      firstTaken s m p := by
  cases p <;> rfl

theorem firstPosition_eq {s : State} (first : s.mdu.position = none) (p : Position) :
    s.firstPosition p = firstTaken s s.mdu p := by
  rw [State.firstPosition, first]
  exact startState_eq s s.mdu p

theorem positionFrom_eq (o c : Bool) : positionFrom o c =
    if o = true ∧ c = false then .opened else if o = false ∧ c = true then .closed else .unknown := by
  cases o <;> cases c <;> rfl

theorem firstContacts_eq {s : State} (first : s.mdu.position = none) (o c : Bool) :
    s.firstContacts o c =
      firstTaken s { s.mdu with openC := some o, closedC := some c } (positionFrom o c) := by
  let u : State := { s with mdu := { s.mdu with openC := some o, closedC := some c } }
  have decided : s.firstContacts o c = u.firstPosition (positionFrom o c) := by
    rw [State.firstContacts, first]
    rfl
  rw [decided, firstPosition_eq (s := u) first]
  rfl

/-- The start state disturbs nothing: the timers of a close demand run on or stop. -/
theorem firstTaken_undisturbed {s : State} {m : Mdu} (ind : Indifferent s) (p : Position)
    (trip : m.trip = s.mdu.trip) (close : m.close = s.mdu.close) : Undisturbed s (firstTaken s m p) where
  tripStore := trip
  closeStore := close
  demand := by
    refine demand_falls ind rfl ?_ ?_
    · cases p <;> simp [firstTaken]
    · cases p <;> simp [firstTaken]

theorem firstTaken_formInhibit (s : State) (m : Mdu) (p : Position) : (firstTaken s m p).formInhibit =
    if s.stl.fault.isSome then some .settings
    else if s.lnk.idClash then some .idClash
    else if p = .unknown then some .stuck
    else if s.sqc.nonreclose then some .nonreclose else none := by
  cases p <;> rfl

/-- What a command does that takes the first position, whether from the contacts or from their absence. -/
theorem first_position_taken {s : State} {f : State → State} {m : Mdu} {p : Position} (calm : Calm s)
    (test : s.bcu.test = none) (ind : Indifferent s)
    (young : s.stl.image.role = .midpoint → s.sfe.vs.age s.now < 1000 * s.stl.image.tMid)
    (trip : m.trip = s.mdu.trip) (close : m.close = s.mdu.close) (run : f s = firstTaken s m p) :
    ∃ t, whenUp (event f) s = .next t ∧ t = { firstTaken s m p with rsl := t.rsl } ∧ t.txq = s.txq ∧
      t.rsl.inhibit = (if s.stl.fault.isSome then some .settings
        else if s.lnk.idClash then some .idClash
        else if p = .unknown then some .stuck
        else if s.sqc.nonreclose then some .nonreclose else none) ∧
      (s.stl.image.role = .none → s.rsl.state = .watch → t.rsl.state = .watch) := by
  obtain ⟨up, settled⟩ := calm
  obtain ⟨l, e, inhibit, -, watch⟩ := settle_onlyRsl (t := firstTaken s m p) settled test ind young rfl rfl
    (firstTaken_undisturbed ind p trip close) s.rslInputs
  refine ⟨{ firstTaken s m p with rsl := l }, (whenUp_of_up up).trans (by rw [event, run, e]), rfl, rfl, ?_, watch⟩
  exact inhibit.trans (firstTaken_formInhibit s m p)

/-- Settles O38: the start state from the first position, and of what settles then only the RSL moves. -/
theorem firstPositionDecides : Obligations.FirstPositionDecides := by
  intro s o c calm first test ind young
  have run := firstContacts_eq first o c
  rw [positionFrom_eq] at run
  exact ⟨first_position_taken calm test ind young rfl rfl run,
    first_position_taken calm test ind young rfl rfl (firstPosition_eq first .unknown)⟩

end Sys2Proof.Machine
end

section
/-! A statement that fails (R67, R137, R171 to R173): a frame heard beside an operation in flight. -/

namespace Sys2Proof.Machine

open Sys2Proof.Safety

/-- A REQUEST_RESULT of station 1, as an ended reception (R193). -/
def resultHeard : EndedReception := ⟨frameBytes 0x05 0 1 (be2 1 ++ be1 1 ++ be1 0), 11, 0⟩

/-- A tie in LOCKOUT whose upstream side is dead and without a feeding peer, its checks due and its fallback with
them, the close store READY and nothing against a close but a close operation still in flight, as a CLOSE_FAIL of an
earlier close leaves it that reaches the SQC late (R46); a frame of station 1 has just been received. -/
def tieWithCloseInFlight : State :=
  let s := State.reset
  { s with
    sfe := { s.sfe with vs := { s.sfe.vs with state := .dead }, vl := { s.sfe.vl with state := .live } }
    sqc := { s.sqc with
      state := some .lockout, cause := some .manual, nonreclose := false, nonrecloseRead := true }
    mdu := { s.mdu with
      handleDown := false, handleRead := true, op := .close, close := ⟨.ready, some true, false, none, none⟩ }
    bcu := { s.bcu with cls := some .normal }
    tgt := { s.tgt with hotlineOn := false, hotlineRead := true }
    rsl := ⟨.timing (some .up), none, true, true, none, none⟩
    stl := ⟨.up, { s.stl.image with role := .tie, fallbackVoltage := true }, s.stl.tables, none⟩
    rtm := { s.rtm with items := { s.rtm.items with tagUnknown := false } }
    transit := ⟨[], [resultHeard]⟩ }

theorem tieWithCloseInFlight_calm : Claims.Calm tieWithCloseInFlight := by
  unfold Claims.Calm Settled
  decide +kernel

theorem tieWithCloseInFlight_hears :
    Claims.FrameArrives tieWithCloseInFlight (.report 1) resultHeard [] :=
  ⟨rfl, by decide +kernel⟩

/-- The hand-offs that the frame leaves on their way to the SQC. -/
def reportsAfterFrame : Host.Outcome State Fault Refusal → List Report
  | .next t => t.transit.reports
  | .fault _ => []
  | .refused _ => []

/-- The frame leads to a check of the tie, which consents; the close it asks for meets the operation in flight and
is answered by CLOSE_FAIL (R69, R70). -/
theorem tieWithCloseInFlight_reports :
    reportsAfterFrame (exec .receivePeerReport tieWithCloseInFlight) = [.closeFail] := by decide +kernel

/-- Refutes O60, in its last part: an ACCEPTED frame of any kind makes the RSL of a tie check, and where it consents
while an operation is in flight the MDU answers the close with CLOSE_FAIL, so that the hand-offs on their way to the
SQC do not stand. -/
theorem not_sequenceAtAnyStation : ¬Obligations.SequenceAtAnyStation := by
  rintro ⟨-, -, -, -, heard⟩
  obtain ⟨t, ran, -, -, -, -, -, -, -, -, -, reports, -⟩ :=
    heard tieWithCloseInFlight (.report 1) resultHeard [] .receivePeerReport 1 id tieWithCloseInFlight_calm
      tieWithCloseInFlight_hears rfl (.inr (by decide))
  have failed := tieWithCloseInFlight_reports
  rw [ran, reportsAfterFrame, reports] at failed
  cases failed

end Sys2Proof.Machine
end

section
/-! What settles after an event of the mechanism, at a calm station of any role (R75, R97, R107, R165 to R174). -/

namespace Sys2Proof.Machine

open Sys2Proof.Safety Sys2Proof.Claims

/-! ### An event of the mechanism -/

/-- `s` with another mechanism, other retained items and other things on their way. -/
def State.withMechanism (s : State) (m : Mdu) (r : Rtm) (x : Transit) : State :=
  { s with mdu := m, rtm := r, transit := x }

/-- `t` is `s` with at most the mechanism, the retained items and what is on its way changed. -/
def OnlyMechanism (s t : State) : Prop := ∃ m r x, t = s.withMechanism m r x

/-- The exits of the restoration state read nothing of the mechanism. -/
theorem State.rslExits_withMechanism (s : State) (m : Mdu) (r : Rtm) (x : Transit) :
    (s.withMechanism m r x).rslExits = s.rslExits.withMechanism m r x := by
  have same : (s.withMechanism m r x).rsl = s.rsl := rfl
  unfold State.rslExits
  rw [same]
  split
  case h_5 | h_6 | h_7 => rfl
  all_goals
    rw [apply_ite (fun u : State => u.withMechanism m r x)]
    rfl

/-- The RSL of a settled station has nothing to do after an event of the mechanism. -/
theorem OnlyMechanism.rslReview {s t : State} (h : OnlyMechanism s t) (settled : Settled s) :
    t.rslReview s.rslInputs false = t := by
  obtain ⟨inhibit, exits, wait, -⟩ := settled
  obtain ⟨m, r, x, rfl⟩ := h
  have stay := s.rslExits_withMechanism m r x
  rw [exits] at stay
  have formed : { s.withMechanism m r x with
      rsl := { (s.withMechanism m r x).rsl with inhibit := (s.withMechanism m r x).formInhibit } } =
      s.withMechanism m r x :=
    congrArg (fun i => { s.withMechanism m r x with rsl := { s.rsl with inhibit := i } }) inhibit.symm
  have stopped : (if (s.withMechanism m r x).classAllowsRestore then s.withMechanism m r x
      else (s.withMechanism m r x).stopWait) = s.withMechanism m r x := by
    obtain allows | none := wait
    · exact if_pos allows
    · have same : (s.withMechanism m r x).stopWait = s.withMechanism m r x :=
        congrArg (fun w => { s.withMechanism m r x with rsl := { s.rsl with storeWait := w } }) none.symm
      rw [same, ite_self]
  have inputs : (s.withMechanism m r x).rslInputs = s.rslInputs := rfl
  simp only [State.rslReview, formed, stay, stopped, inputs, ne_eq, not_true_eq_false, decide_false, Bool.or_self,
    Bool.false_eq_true, if_false]

/-- After an event of the mechanism that leaves no abort condition to a test in progress, the charger alone is left
to look. -/
theorem OnlyMechanism.settle {s t : State} (h : OnlyMechanism s t) (settled : Settled s)
    (test : s.bcu.test = none ∨ t.abortHolds = false) : t.settle s.rslInputs false = t.chargerReview := by
  have review := h.rslReview settled
  obtain ⟨-, -, -, -, -, listens⟩ := settled
  obtain ⟨m, r, x, rfl⟩ := h
  have stands : (s.withMechanism m r x).abortReview = s.withMechanism m r x := by
    obtain none | holds := test
    · exact State.abortReview_of_no_test none
    · rw [State.abortReview, holds, Bool.and_false, if_neg Bool.false_ne_true]
  have heard : (s.withMechanism m r x).chargerReview.listenReview = (s.withMechanism m r x).chargerReview := by
    obtain on | none := listens
    · exact if_pos on
    · exact State.listenReview_of_none none
  rw [State.settle, review, stands, heard]

/-- A test in progress has both stores READY (R93, R97). -/
theorem stores_ready_of_test {s : State} (settled : Settled s) (test : s.bcu.test ≠ none) :
    s.mdu.trip.state = .ready ∧ s.mdu.close.state = .ready := by
  obtain ⟨-, -, -, aborts, -⟩ := settled
  have holds := aborts.resolve_left test
  simp only [State.abortHolds, Bool.or_eq_false_iff, Bool.not_eq_false', Bool.and_eq_true,
    Store.isReady_iff] at holds
  obtain ⟨-, stores⟩ := holds
  exact stores

/-- A test in progress is not aborted by an event of the mechanism that leaves READY stores READY. -/
theorem OnlyMechanism.no_abort {s t : State} (h : OnlyMechanism s t) (settled : Settled s)
    (trip : s.mdu.trip.state = .ready → t.mdu.trip.state = .ready)
    (close : s.mdu.close.state = .ready → t.mdu.close.state = .ready) :
    s.bcu.test = none ∨ t.abortHolds = false := by
  by_cases test : s.bcu.test = none
  · exact .inl test
  · obtain ⟨tripReady, closeReady⟩ := stores_ready_of_test settled test
    obtain ⟨-, -, -, aborts, -⟩ := settled
    have holds := aborts.resolve_left test
    obtain ⟨m, r, x, rfl⟩ := h
    refine .inr ?_
    simp only [State.abortHolds, Bool.or_eq_false_iff, Bool.not_eq_false', Bool.and_eq_true,
      Store.isReady_iff] at holds ⊢
    obtain ⟨others, -⟩ := holds
    exact ⟨others, trip tripReady, close closeReady⟩

/-- An event of the mechanism that leaves both stores leaves nothing to settle. -/
theorem OnlyMechanism.settle_of_same_stores {s t : State} (h : OnlyMechanism s t) (settled : Settled s)
    (trip : t.mdu.trip = s.mdu.trip) (close : t.mdu.close = s.mdu.close) : t.settle s.rslInputs false = t := by
  rw [h.settle settled (h.no_abort settled (by rw [trip]; exact id) (by rw [close]; exact id))]
  obtain ⟨-, -, -, -, charger, -⟩ := settled
  obtain ⟨m, r, x, rfl⟩ := h
  exact chargerReview_stands charger rfl rfl trip close (.inl rfl)

/-- A command whose event takes a calm `s` to a `t` that differs in the mechanism, the stores standing, ends there. -/
theorem next_of_mechanism {s t : State} {f : State → State} (calm : Calm s) (run : f s = t)
    (only : OnlyMechanism s t) (trip : t.mdu.trip = s.mdu.trip) (close : t.mdu.close = s.mdu.close) :
    whenUp (event f) s = .next t := by
  obtain ⟨up, settled⟩ := calm
  rw [whenUp_of_up up, event, run, only.settle_of_same_stores settled trip close]

end Sys2Proof.Machine
end

section
/-! The ends of a trip and of a close operation, and the positions that arrive in them (R63, R64, R67 to R73). -/

namespace Sys2Proof.Machine

open Sys2Proof.Safety Sys2Proof.Claims

/-! ### The retained counters (R73) -/

/-- The wear total after an open with a wear value, where there is one (R73). -/
def wearAfter (total : Nat) : Option Nat → Nat
  | some w => min 4294967295 (total + w)
  | none => total

/-- An open is counted; the wear, and with it MECH_WEAR, is that of a protection trip alone (R73). -/
theorem Retained.countOpen_eq (r : Retained) (wear : Option Nat) (limit : Nat) : r.countOpen wear limit = { r with
    opCounter := min 999999 (r.opCounter + 1), wearTotal := wearAfter r.wearTotal wear,
    mechWear := r.mechWear ||
      (wear.isSome && (limit ≠ 0 && limit ≤ wearAfter r.wearTotal wear)) } := by
  cases wear with
  | none => simp [Retained.countOpen, Machine.countOpen, wearAfter]
  | some w => simp [Retained.countOpen, Machine.countOpen, addWear, wearAfter]

/-! ### The ends of an operation (R68, R70, R72) -/

/-- The trip operation with an attempt ended OPEN after an operating time (R68, R72, R73). -/
def tripOpened (s : State) (a : Attempt) (ms : Nat) : State :=
  { s with
    mdu := { s.mdu with
      op := .idle, opTimer := none, opCause := none, wear := none, driveStart := none,
      faultTimer := none, faultReported := false, position := some .opened, lastEnd := some .opened,
      mechSlow := s.mdu.mechSlow || (s.stl.image.tSlow ≠ 0 && s.stl.image.tSlow < ms) || a = .second },
    rtm := Rtm.written { s.rtm.items with
      opCounter := min 999999 (s.rtm.items.opCounter + 1),
      wearTotal := wearAfter s.rtm.items.wearTotal s.mdu.wear,
      mechWear := s.rtm.items.mechWear ||
        (s.mdu.wear.isSome &&
          (s.stl.image.wearLimit ≠ 0 && s.stl.image.wearLimit ≤ wearAfter s.rtm.items.wearTotal s.mdu.wear)) },
    transit := { s.transit with reports := s.transit.reports ++ [.openConfirmation ms] } }

/-- The trip operation with an attempt ended in TRIP_FAIL (R64, R68, R72). -/
def tripFailed (s : State) (a : Attempt) : State :=
  { s with
    mdu := { s.mdu with
      op := .idle, opTimer := none, opCause := none, wear := none, driveStart := none,
      faultTimer := if s.mdu.position = some .unknown then some ⟨s.now, 20⟩ else none,
      mechSlow := s.mdu.mechSlow || a = .second },
    transit := { s.transit with reports := s.transit.reports ++ [.tripFail] } }

/-- The close operation ended CLOSED after an operating time (R70, R72). -/
def closeEnded (s : State) (ms : Nat) : State :=
  { s with
    mdu := { s.mdu with
      op := .idle, opTimer := none, opCause := none, wear := none, driveStart := none,
      faultTimer := none, faultReported := false, position := some .closed, lastEnd := some .closed,
      mechSlow := s.mdu.mechSlow || (s.stl.image.tSlowClose ≠ 0 && s.stl.image.tSlowClose < ms) },
    transit := { s.transit with reports := s.transit.reports ++ [.closeConfirmation] } }

theorem Operation.second_trip (ph : TripPhase) (a : Attempt) :
    (Operation.trip ph a).second = decide (a = .second) := by
  cases a <;> rfl

theorem confirmOpen_eq {s : State} {ph : TripPhase} {a : Attempt} (op : s.mdu.op = .trip ph a) :
    s.confirmOpen = tripOpened s a (s.mdu.operating s.now) := by
  simp only [State.confirmOpen, Mdu.slow, op, Operation.second_trip, Retained.countOpen_eq]
  rfl

theorem failTrip_eq {s : State} {ph : TripPhase} {a : Attempt} (op : s.mdu.op = .trip ph a) :
    s.failTrip = tripFailed s a := by
  simp only [State.failTrip, Mdu.slow, op, Operation.second_trip, ne_eq, not_true_eq_false, decide_false,
    Bool.false_and, Bool.or_false]
  rfl

theorem confirmClosed_eq {s : State} (op : s.mdu.op = .close) :
    s.confirmClosed = closeEnded s (s.mdu.operating s.now) := by
  simp only [State.confirmClosed, Mdu.slow, op, Operation.second, Bool.or_false]
  rfl

theorem operating_of_driven {m : Mdu} {d : Uptime} (start : m.driveStart = some d) (now : Uptime) :
    m.operating now = ageOf now d := by
  simp [Mdu.operating, start]

/-- An attempt enters DRIVE with the trip store READY and STORE_WAIT without (R67). -/
theorem Mdu.attempt_eq (m : Mdu) (now : Uptime) (a : Attempt) : m.attempt now a =
    if m.trip.state = .ready then
      { m with op := .trip .drive a, opTimer := some ⟨now, 60⟩, driveStart := some now }
    else { m with op := .trip .storeWait a, opTimer := some ⟨now, 2000⟩ } := by
  simp only [Mdu.attempt, Store.isReady_iff]
  rfl

/-! ### Positions that arrive in an operation (R63, R64) -/

/-- The debounced levels read (R63). -/
def contactsRead (s : State) (o c : Bool) : State :=
  { s with mdu := { s.mdu with openC := some o, closedC := some c } }

/-- A position published, and nothing else done (R64). -/
def published (s : State) (p : Position) : State := { s with mdu := s.mdu.publish p }

section
variable {s : State} {o c : Bool} (known : s.mdu.position ≠ none)
  (change : s.mdu.position ≠ some (positionFrom o c))
include known change

/-- A change of position in a trip operation (R69). -/
theorem contacts_trip {ph : TripPhase} {a : Attempt} (op : s.mdu.op = .trip ph a) : s.contacts o c =
    if positionFrom o c = .opened then (contactsRead s o c).confirmOpen
    else published (contactsRead s o c) (positionFrom o c) := by
  rw [State.contacts, if_neg (by simpa using known), if_neg change]
  split
  · next idle => cases op.symm.trans idle
  · rfl
  · next close => cases op.symm.trans close

/-- A change of position in a close operation (R70). -/
theorem contacts_close (op : s.mdu.op = .close) : s.contacts o c =
    if positionFrom o c = .closed then (contactsRead s o c).confirmClosed
    else published (contactsRead s o c) (positionFrom o c) := by
  rw [State.contacts, if_neg (by simpa using known), if_neg change]
  split
  · next idle => cases op.symm.trans idle
  · next trip => cases op.symm.trans trip
  · rfl

/-- A change of position outside an operation (R64, R65). -/
theorem contacts_idle (op : s.mdu.op = .idle) :
    s.contacts o c = (contactsRead s o c).moved (positionFrom o c) := by
  rw [State.contacts, if_neg (by simpa using known), if_neg change]
  split
  · rfl
  · next trip => cases op.symm.trans trip
  · next close => cases op.symm.trans close

end

theorem positionFrom_unknown {o c : Bool} (h : o = c) : positionFrom o c = .unknown := by
  subst h
  cases o <;> rfl

/-! ### The trip operation (R68, R69, R72, R73) -/

theorem openSeenEndsTrip : OpenSeenEndsTrip := by
  intro s a d calm op start ms wear
  have run : s.openSeen = tripOpened s a ms := by
    rw [State.openSeen, op]
    exact (confirmOpen_eq op).trans (by rw [operating_of_driven start])
  exact next_of_mechanism calm run ⟨_, _, _, rfl⟩ rfl rfl

theorem tripLimits : TripLimits := by
  intro s a calm runs failed
  refine ⟨fun op => ?_, fun op => ?_⟩
  · have limit : ifRuns (·.mdu.opTimer) State.pulseEnd s = s.pulseEnd := ifRuns_of_some runs
    cases a with
    | first =>
      have run : ifRuns (·.mdu.opTimer) State.pulseEnd s = { s with mdu := s.mdu.attempt s.now .second } := by
        rw [limit, State.pulseEnd, op]
      rw [Mdu.attempt_eq] at run
      rw [if_neg (by decide)]
      split at run
      · next ready =>
        rw [if_pos ready]
        exact next_of_mechanism calm run ⟨_, _, _, rfl⟩ rfl rfl
      · next waits =>
        rw [if_neg waits]
        exact next_of_mechanism calm run ⟨_, _, _, rfl⟩ rfl rfl
    | second =>
      have run : ifRuns (·.mdu.opTimer) State.pulseEnd s = tripFailed s .second := by
        rw [limit, State.pulseEnd, op]
        exact failTrip_eq op
      exact next_of_mechanism calm run ⟨_, _, _, rfl⟩ rfl rfl
  · have run : ifRuns (·.mdu.opTimer) State.storeWaitEnd s = tripFailed s a := by
      rw [ifRuns_of_some runs, State.storeWaitEnd, op]
      exact failTrip_eq op
    exact next_of_mechanism calm run ⟨_, _, _, rfl⟩ rfl rfl

theorem positionInTrip : PositionInTrip := by
  intro s ph a o c calm op known
  refine ⟨?_, ?_, ?_⟩
  · rintro rfl rfl rfl change ms wear
    have time : s.mdu.operating s.now = ms := by
      simp only [ms, Mdu.operating]
      cases s.mdu.driveStart <;> rfl
    have run : s.contacts true false = tripOpened (contactsRead s true false) a ms := by
      rw [contacts_trip known (o := true) (c := false) change op, ← time]
      exact confirmOpen_eq op
    exact next_of_mechanism calm run ⟨_, _, _, rfl⟩ rfl rfl
  · rintro rfl rfl change
    have run : s.contacts false true = published (contactsRead s false true) .closed :=
      contacts_trip known change op
    exact next_of_mechanism calm run ⟨_, _, _, rfl⟩ rfl rfl
  · rintro rfl change stopped
    have run : s.contacts o o = published (contactsRead s o o) .unknown := by
      have unknown : positionFrom o o = .unknown := positionFrom_unknown rfl
      rw [contacts_trip known (by rwa [unknown]) op, unknown]
      rfl
    exact next_of_mechanism calm run ⟨_, _, _, rfl⟩ rfl rfl

/-- Settles O39: the end of a trip operation as the statement has it, for each row that brings it about. -/
theorem tripOperation : Obligations.TripOperation := ⟨openSeenEndsTrip, tripLimits, positionInTrip⟩

/-! ### The close operation (R64, R70, R72) -/

theorem closeEnds : CloseEnds := by
  intro s d calm op start
  refine ⟨?_, fun runs => ?_⟩
  · have run : s.closedSeen = closeEnded s (ageOf s.now d) := by
      rw [State.closedSeen, if_pos op, confirmClosed_eq op, operating_of_driven start]
    exact next_of_mechanism calm run ⟨_, _, _, rfl⟩ rfl rfl
  · have run : ifRuns (·.mdu.opTimer) State.closePulseEnd s =
        { s with mdu := s.mdu.endOp s.now }.report .closeFail := by
      rw [ifRuns_of_some runs, State.closePulseEnd, if_pos op]
    exact next_of_mechanism calm run ⟨_, _, _, rfl⟩ rfl rfl

theorem positionInClose : PositionInClose := by
  intro s d o c calm op start known
  refine ⟨?_, ?_, ?_⟩
  · rintro rfl rfl change
    have run : s.contacts false true = closeEnded (contactsRead s false true) (ageOf s.now d) := by
      rw [contacts_close known (o := false) (c := true) change op, ← operating_of_driven start]
      exact confirmClosed_eq op
    exact next_of_mechanism calm run ⟨_, _, _, rfl⟩ rfl rfl
  · rintro rfl rfl change
    have run : s.contacts true false = published (contactsRead s true false) .opened :=
      contacts_close known change op
    exact next_of_mechanism calm run ⟨_, _, _, rfl⟩ rfl rfl
  · rintro rfl change stopped
    have run : s.contacts o o = published (contactsRead s o o) .unknown := by
      have unknown : positionFrom o o = .unknown := positionFrom_unknown rfl
      rw [contacts_close known (by rwa [unknown]) op, unknown]
      rfl
    exact next_of_mechanism calm run ⟨_, _, _, rfl⟩ rfl rfl

/-- Settles O40: the two ends of a close operation, and the positions that end it or leave it running. -/
theorem closeOperation : Obligations.CloseOperation := ⟨closeEnds, positionInClose⟩

end Sys2Proof.Machine
end

section
/-! The energy stores and the charger's assignment (R67, R74 to R77). -/

namespace Sys2Proof.Machine

open Sys2Proof.Safety Sys2Proof.Claims

/-! ### One store (R74, R75, R77) -/

theorem Store.wants_of_ready {t : Store} (h : t.state = .ready) : t.wants = false := by
  simp [Store.wants, h]

theorem Store.withdraw_of_off {t : Store} (h : t.enable = false) (now : Uptime) : t.withdraw now = t := by
  simp [Store.withdraw, h]

theorem Store.assign_of_off {t : Store} (h : t.enable = false) (now : Uptime) (limit : Nat) :
    t.assign now limit = { t with
      state := if t.state = .empty then .charging else t.state, enable := true, limit := some ⟨now, limit⟩ } := by
  simp [Store.assign, h]

/-- A ready input going inactive takes a READY store to EMPTY (R74). -/
theorem Store.readInput_inactive {t : Store} (ready : t.state = .ready) :
    t.readInput false = { t with ready := some false, state := .empty } := by
  simp [Store.readInput, ready]

/-- A READY store draws no charge (R74, R75). -/
theorem store_off_of_ready {t : Store} (sound : StoreSound t) (ready : t.state = .ready) : t.enable = false := by
  by_contra on
  obtain ⟨-, charging | ⟨fault, -⟩⟩ := sound (by simpa using on)
  · cases charging.symm.trans ready
  · cases fault.symm.trans ready

/-- A store that waits for its retry timer draws no charge (R77). -/
theorem store_off_of_retry {t : Store} (sound : StoreSound t) (fault : t.state = .fault) (retry : t.retry ≠ none) :
    t.enable = false := by
  by_contra on
  obtain ⟨-, charging | ⟨-, none⟩⟩ := sound (by simpa using on)
  · cases charging.symm.trans fault
  · exact retry none

theorem storeSound_store {s : State} (sound : StoresSound s) (id : StoreId) : StoreSound (s.mdu.store id) := by
  obtain ⟨trip, close, -⟩ := sound
  cases id with
  | trip => exact trip
  | close => exact close

/-! ### The charger's assignment (R75, R76) -/

/-- The charger's assignment, store by store. -/
theorem Mdu.assignCharger_eq {m : Mdu} {now : Uptime} {allowed : Bool} {trip close : Store}
    (first : (if m.trip.wants then m.trip.assign now 20000 else m.trip) = trip)
    (second : (if !m.trip.wants && m.trip.isReady && m.close.wants && allowed then m.close.assign now 60000
      else m.close.withdraw now) = close) :
    m.assignCharger now allowed = { m with trip := trip, close := close } := by
  subst first second
  rfl

/-- The trip store of a settled station has the charger where it takes it (R75). -/
theorem tripStore_settled {s : State} (settled : Settled s) :
    (if s.mdu.trip.wants then s.mdu.trip.assign s.now 20000 else s.mdu.trip) = s.mdu.trip := by
  obtain ⟨-, -, -, -, charger, -⟩ := settled
  exact congrArg (fun t : State => t.mdu.trip) charger

/-- The close store of a settled station draws no charge before the trip store is READY (R75). -/
theorem closeStore_withdrawn {s : State} (settled : Settled s) (h : s.mdu.trip.state ≠ .ready) :
    s.mdu.close.withdraw s.now = s.mdu.close := by
  obtain ⟨-, -, -, -, charger, -⟩ := settled
  have close : s.chargerReview.mdu.close = s.mdu.close := by rw [charger]
  have waits : s.mdu.trip.isReady = false := decide_eq_false h
  simpa [State.chargerReview, Mdu.assignCharger, waits] using close

/-- The charger's assignment leaves a READY store that draws no charge (R75). -/
theorem Mdu.assignCharger_of_ready {m : Mdu} {id : StoreId} (ready : (m.store id).state = .ready)
    (off : (m.store id).enable = false) (now : Uptime) (allowed : Bool) :
    (m.assignCharger now allowed).store id = m.store id := by
  cases id with
  | trip =>
    have unwanted : m.trip.wants = false := Store.wants_of_ready ready
    simp [Mdu.assignCharger, Mdu.store, unwanted]
  | close =>
    have unwanted : m.close.wants = false := Store.wants_of_ready ready
    have kept : m.close.withdraw now = m.close := Store.withdraw_of_off off now
    simp [Mdu.assignCharger, Mdu.store, unwanted, kept]

/-- A store just EMPTY: the charger goes to the trip store at once, and to the close store or not (R75, R76). -/
theorem Mdu.assignCharger_of_empty {m : Mdu} {id : StoreId} (read : (m.store id).ready = some false)
    (empty : (m.store id).state = .empty) (off : (m.store id).enable = false) (now : Uptime) (allowed : Bool) :
    let x := (m.assignCharger now allowed).store id
    x.ready = some false ∧ x.state = (if x.enable then .charging else .empty) ∧
      (id = .trip → x.enable = true ∧ x.limit = some ⟨now, 20000⟩) := by
  intro x
  have wants : (m.store id).wants = true := by simp [Store.wants, read, empty]
  cases id with
  | trip =>
    have given : x = { m.trip with state := .charging, enable := true, limit := some ⟨now, 20000⟩ } := by
      refine (if_pos wants).trans ((Store.assign_of_off off _ _).trans ?_)
      rw [if_pos empty]
      rfl
    rw [given]
    exact ⟨read, rfl, fun _ => ⟨rfl, rfl⟩⟩
  | close =>
    have given : x = { m.close with state := .charging, enable := true, limit := some ⟨now, 60000⟩ } ∨
        x = m.close := by
      change (if _ then m.close.assign now 60000 else m.close.withdraw now) = _ ∨
        (if _ then m.close.assign now 60000 else m.close.withdraw now) = _
      split
      · refine .inl ((Store.assign_of_off off _ _).trans ?_)
        rw [if_pos empty]
        rfl
      · exact .inr (Store.withdraw_of_off off now)
    obtain given | given := given
    · rw [given]
      exact ⟨read, rfl, nofun⟩
    · rw [given]
      have idle : m.close.enable = false := off
      exact ⟨read, empty.trans (if_neg (by rw [idle]; exact Bool.false_ne_true)).symm, nofun⟩

/-! ### What settles after an event of a store (R75, R97, R107) -/

/-- At the end of an event of the mechanism the charger is assigned, and the sequence and the restoration logic
stand, even where the event aborts a test. -/
theorem OnlyMechanism.settle_assigns {s t : State} (h : OnlyMechanism s t) (settled : Settled s) :
    (∃ allowed, (t.settle s.rslInputs false).mdu = t.mdu.assignCharger s.now allowed) ∧
      (t.settle s.rslInputs false).sqc = s.sqc ∧ (t.settle s.rslInputs false).rsl = s.rsl := by
  have review := h.rslReview settled
  obtain ⟨m, r, x, rfl⟩ := h
  obtain ⟨b, aborts⟩ := (s.withMechanism m r x).abortReview_frame
  obtain ⟨_, _, _, _, aborts⟩ := aborts
  rw [State.settle, review, aborts]
  obtain ⟨_, _, _, heard⟩ := State.listenReview_frame (State.chargerReview _)
  rw [heard]
  exact ⟨⟨_, rfl⟩, rfl, rfl⟩

/-! ### The ready inputs (R67, R74, R75) -/

/-- A store reads its input, and a trip operation that waits for it looks (R67, R74). -/
def Mdu.readyRead (m : Mdu) (now : Uptime) (id : StoreId) (active : Bool) : Mdu :=
  (m.withStore id (·.readInput active)).driveWhenReady now

theorem Mdu.withStore_same (m : Mdu) (id : StoreId) (f : Store → Store) :
    (m.withStore id f).store id = f (m.store id) := by
  cases id <;> rfl

theorem Mdu.withStore_other (m : Mdu) {id other : StoreId} (h : other ≠ id) (f : Store → Store) :
    (m.withStore id f).store other = m.store other := by
  cases id with
  | trip => cases other with
    | trip => exact absurd rfl h
    | close => rfl
  | close => cases other with
    | trip => rfl
    | close => exact absurd rfl h

/-- The operation that waits for the trip store looks at the store and leaves both (R67). -/
theorem Mdu.driveWhenReady_store (m : Mdu) (now : Uptime) (id : StoreId) :
    (m.driveWhenReady now).store id = m.store id := by
  unfold Mdu.driveWhenReady
  split
  · split
    · cases id <;> rfl
    · rfl
  · rfl

theorem Mdu.driveWhenReady_of_waits {m : Mdu} (waits : ∀ a, m.op = .trip .storeWait a → m.trip.state ≠ .ready)
    (now : Uptime) : m.driveWhenReady now = m := by
  unfold Mdu.driveWhenReady
  split
  · next a op => exact if_neg fun ready => waits a op (Store.isReady_iff.mp ready)
  · rfl

/-- A store that turns inactive lets no trip operation that waits begin (R67, R68). -/
theorem Mdu.readyRead_inactive {s : State} {id : StoreId} (sound : StoresSound s)
    (ready : (s.mdu.store id).state = .ready) :
    s.mdu.readyRead s.now id false = s.mdu.withStore id (·.readInput false) := by
  obtain ⟨-, -, -, waits⟩ := sound
  have waiting (a : Attempt) (op : s.mdu.op = .trip .storeWait a) : s.mdu.trip.state ≠ .ready :=
    waits (by cases a <;> simp [op])
  refine Mdu.driveWhenReady_of_waits (fun a op => ?_) s.now
  cases id with
  | trip => exact absurd ready (waiting a op)
  | close => exact waiting a op

/-- A reading that is a change and wakes no wait of the SQC or the RSL (R45, R74, R173). -/
theorem readyReading_eq {s : State} {id : StoreId} {active : Bool} (change : (s.mdu.store id).ready ≠ some active)
    (quiet : active = true → s.sqc.state ≠ some .energyWait ∧ s.rsl.storeWait = none) :
    s.readyReading id active = { s with mdu := s.mdu.readyRead s.now id active } := by
  simp only [State.readyReading, if_neg change]
  split
  · next close =>
    obtain ⟨-, on⟩ := Bool.and_eq_true_iff.mp close
    obtain ⟨awake, none⟩ := quiet on
    have stands : State.closeStoreReady { s with mdu := s.mdu.readyRead s.now id active } =
        { s with mdu := s.mdu.readyRead s.now id active } := by
      simp [State.closeStoreReady, awake]
    refine (congrArg State.rslStoreReady stands).trans ?_
    simp [State.rslStoreReady, none]
  · rfl

/-- A ready input that turns active (R67, R74). -/
theorem readyInput_active {s : State} {id : StoreId} (calm : Calm s) (change : (s.mdu.store id).ready ≠ some true)
    (awake : s.sqc.state ≠ some .energyWait) (noWait : s.rsl.storeWait = none) :
    exec (.readyInputChange id true) s =
      .next (State.chargerReview { s with mdu := s.mdu.readyRead s.now id true }) := by
  obtain ⟨up, settled⟩ := calm
  have only : OnlyMechanism s { s with mdu := s.mdu.readyRead s.now id true } := ⟨_, _, _, rfl⟩
  have ready (other : StoreId) (was : (s.mdu.store other).state = .ready) :
      ((s.mdu.readyRead s.now id true).store other).state = .ready := by
    rw [Mdu.readyRead, Mdu.driveWhenReady_store]
    by_cases same : other = id
    · rw [same, Mdu.withStore_same]
      rfl
    · rwa [Mdu.withStore_other _ same]
  have settles := only.settle settled (only.no_abort settled (ready .trip) (ready .close))
  change whenUp (event (·.readyReading id true)) s = _
  rw [whenUp_of_up up, event, readyReading_eq change fun _ => ⟨awake, noWait⟩, settles]

/-- A ready input of a READY store that turns inactive: the store is EMPTY, and then the charger is assigned (R74,
R75). -/
theorem readyInput_inactive {s : State} {id : StoreId} (calm : Calm s) (sound : StoresSound s)
    (change : (s.mdu.store id).ready ≠ some false) (ready : (s.mdu.store id).state = .ready) :
    exec (.readyInputChange id false) s =
      .next (State.settle { s with mdu := s.mdu.withStore id (·.readInput false) } s.rslInputs false) := by
  obtain ⟨up, -⟩ := calm
  change whenUp (event (·.readyReading id false)) s = _
  rw [whenUp_of_up up, event, readyReading_eq change nofun, Mdu.readyRead_inactive sound ready]

theorem readyInputRead : ReadyInputRead := by
  intro s id calm sound
  refine ⟨fun change awake noWait => ?_, fun change ready => ?_⟩
  · have read : (s.mdu.readyRead s.now id true).store id = ⟨.ready, some true, false, none, none⟩ := by
      rw [Mdu.readyRead, Mdu.driveWhenReady_store, Mdu.withStore_same]
      rfl
    refine ⟨_, readyInput_active calm change awake noWait, ?_, ?_, rfl, rfl, rfl, rfl, rfl, rfl, rfl, rfl, rfl, rfl⟩
    · rw [State.chargerReview_mdu, Mdu.assignCharger_of_ready (by rw [read]) (by rw [read]), read]
    · rintro rfl a op
      have driven : s.mdu.readyRead s.now .trip true =
          (s.mdu.withStore .trip (·.readInput true)).drive s.now a := by
        simp [Mdu.readyRead, Mdu.driveWhenReady, Mdu.withStore, op, Store.readInput, Store.makeReady, Store.isReady]
      rw [State.chargerReview_mdu, driven]
      exact ⟨rfl, rfl, rfl⟩
  · let u : State := { s with mdu := s.mdu.withStore id (·.readInput false) }
    have only : OnlyMechanism s u := ⟨_, _, _, rfl⟩
    have store : u.mdu.store id = { s.mdu.store id with ready := some false, state := .empty } :=
      (s.mdu.withStore_same id _).trans (Store.readInput_inactive ready)
    have idle : (s.mdu.store id).enable = false := store_off_of_ready (storeSound_store sound id) ready
    have off : (u.mdu.store id).enable = false := (congrArg Store.enable store).trans idle
    obtain ⟨up, settled⟩ := calm
    obtain ⟨⟨allowed, mdu⟩, sqc, rsl⟩ := only.settle_assigns settled
    obtain ⟨sfe, peu, pvt, tgt, stl, rtm, clock, -⟩ := u.settle_stands s.rslInputs false
    obtain ⟨read, state, trip⟩ :=
      Mdu.assignCharger_of_empty (m := u.mdu) (by rw [store]) (by rw [store]) off s.now allowed
    refine ⟨_, readyInput_inactive ⟨up, settled⟩ sound change ready, ?_⟩
    rw [mdu]
    refine ⟨read, state, trip, ?_, sqc, sfe, peu, pvt, tgt, rsl, stl, rtm, clock⟩
    cases id <;> rfl

/-! ### The timers of a charge (R75, R77) -/

/-- A command of a store that is not READY: no test is in progress, and the charger alone is left to look. -/
theorem next_of_store {s : State} {id : StoreId} {f : State → State} {m n : Mdu} (calm : Calm s)
    (unready : (s.mdu.store id).state ≠ .ready) (run : f s = { s with mdu := m })
    (assigned : m.assignCharger s.now (closeChargingAllowed s.bcu.cls s.closeDemand) = n) :
    whenUp (event f) s = .next { s with mdu := n } := by
  obtain ⟨up, settled⟩ := calm
  have noTest : s.bcu.test = none := by
    by_contra test
    obtain ⟨trip, close⟩ := stores_ready_of_test settled test
    cases id with
    | trip => exact unready trip
    | close => exact unready close
  have only : OnlyMechanism s { s with mdu := m } := ⟨_, _, _, rfl⟩
  rw [whenUp_of_up up, event, run, only.settle settled (.inl noTest), ← assigned]
  rfl

/-- The charger's assignment after a change of a trip store that is not READY: the close store has nothing to lose
(R75). -/
theorem assignCharger_tripChanged {s : State} (settled : Settled s) (was : s.mdu.trip.state ≠ .ready) {t : Store}
    (unready : t.state ≠ .ready) (allowed : Bool) :
    (s.mdu.withStore .trip fun _ => t).assignCharger s.now allowed =
      s.mdu.withStore .trip fun _ => if t.wants then t.assign s.now 20000 else t := by
  have waits : t.isReady = false := decide_eq_false unready
  refine Mdu.assignCharger_eq rfl ?_
  simp [Mdu.withStore, waits, closeStore_withdrawn settled was]

/-- The charger's assignment after a change of the close store: the trip store has what it takes (R75, R76). -/
theorem assignCharger_closeChanged {s : State} (settled : Settled s) (t : Store) (allowed : Bool) :
    (s.mdu.withStore .close fun _ => t).assignCharger s.now allowed =
      s.mdu.withStore .close fun _ =>
        if s.mdu.trip.state = .ready ∧ t.wants = true ∧ allowed = true then t.assign s.now 60000
        else t.withdraw s.now := by
  refine Mdu.assignCharger_eq (tripStore_settled settled) ?_
  by_cases ready : s.mdu.trip.state = .ready
  · simp [Mdu.withStore, Store.wants_of_ready ready, Store.isReady_iff.mpr ready, ready]
  · simp [Mdu.withStore, Store.isReady, ready]

theorem chargeLimit_over {s : State} {id : StoreId} (calm : Calm s) (sound : StoresSound s)
    (runs : (s.mdu.store id).limit ≠ none) (on : (s.mdu.store id).enable = true) :
    exec (.chargeLimitExpiry id) s = .next { s with mdu := s.mdu.withStore id (·.overLimit s.now) } := by
  have unready : (s.mdu.store id).state ≠ .ready := fun ready => by
    rw [store_off_of_ready (storeSound_store sound id) ready] at on
    cases on
  refine next_of_store calm unready (ifRuns_of_some runs) ?_
  have rests (t : Store) : (t.overLimit s.now).wants = false := by simp [Store.wants, Store.overLimit]
  obtain ⟨-, settled⟩ := calm
  cases id with
  | trip =>
    refine (assignCharger_tripChanged settled unready (t := s.mdu.trip.overLimit s.now) nofun _).trans ?_
    simp [Mdu.withStore, rests]
  | close =>
    refine (assignCharger_closeChanged settled (s.mdu.close.overLimit s.now) _).trans ?_
    rw [rests, Store.withdraw_of_off rfl]
    simp [Mdu.withStore]

/-- A retry charge that is due begins at once where the charger is given to the store, and else the store goes on
resting (R75, R77). -/
theorem retryTimer_over {s : State} {id : StoreId} (calm : Calm s) (sound : StoresSound s)
    (runs : (s.mdu.store id).retry ≠ none) (fault : (s.mdu.store id).state = .fault)
    (read : (s.mdu.store id).ready ≠ none) : exec (.retryTimerExpiry id) s = .next
      { s with
        mdu := s.mdu.withStore id fun x =>
          if id = .trip ∨ (s.mdu.trip.state = .ready ∧ closeChargingAllowed s.bcu.cls s.closeDemand = true) then
            { x with
              retry := none, enable := true, limit := some ⟨s.now, if id = .trip then 20000 else 60000⟩ }
          else { x with retry := none } } := by
  have unready : (s.mdu.store id).state ≠ .ready := by rw [fault]; decide
  refine next_of_store calm unready (ifRuns_of_some runs) ?_
  obtain ⟨-, settled⟩ := calm
  let t : Store := { s.mdu.store id with retry := none }
  have resting : (s.mdu.store id).enable = false := store_off_of_retry (storeSound_store sound id) fault runs
  have off : t.enable = false := resting
  have due : t.wants = true := by simp [t, Store.wants, fault, Option.isSome_iff_ne_none, read]
  have given (limit : Nat) : t.assign s.now limit = { t with enable := true, limit := some ⟨s.now, limit⟩ } := by
    rw [Store.assign_of_off off, if_neg (fun empty => by cases fault.symm.trans empty)]
  cases id with
  | trip =>
    refine (assignCharger_tripChanged settled unready (t := t) unready _).trans ?_
    rw [if_pos due, given]
    rfl
  | close =>
    refine (assignCharger_closeChanged settled t _).trans ?_
    rw [given, Store.withdraw_of_off off]
    simp only [due, true_and, reduceCtorEq, false_or, if_false]
    rfl

theorem storeTimersOver : StoreTimersOver := by
  intro s id calm sound
  refine ⟨chargeLimit_over calm sound, fun runs fault tripRead closeRead => ?_⟩
  refine retryTimer_over calm sound runs fault ?_
  cases id with
  | trip => exact tripRead
  | close => exact closeRead

/-- Settles O42: a reading moves its store and then the charger; an expiry moves its store, and the charger where it
is free. -/
theorem energyStores : Obligations.EnergyStores := ⟨readyInputRead, storeTimersOver⟩

end Sys2Proof.Machine
end

section
/-! What the state holds of the present stay in UNKNOWN: the position, whether its fault has been reported, and the
position faults on their way (R64).  Every operation but those that publish a position or report the fault leaves
them. -/

namespace Sys2Proof.Machine

/-! ### The stay (R64) -/

/-- The position, whether the fault of its stay has been reported, and how many position faults are on their way. -/
structure Stay where
  position : Option Position
  reported : Bool
  faults : Nat

/-- The stay that a state holds. -/
def State.stay (s : State) : Stay :=
  ⟨s.mdu.position, s.mdu.faultReported, s.transit.reports.count .positionFault⟩

/-- The stay is read off the mechanism and the hand-offs alone. -/
@[simp] theorem State.stay_mk (sfe : Sfe) (peu : Peu) (sqc : Sqc) (mdu : Mdu) (bcu : Bcu) (lnk : Lnk) (txq : Txq)
    (pvt : List PeerEntry) (tgt : Tgt) (rsl : Rsl) (stl : Stl) (rtm : Rtm) (clock : Clock) (transit : Transit)
    (free : Nat) (pending : List Instr) :
    State.stay ⟨sfe, peu, sqc, mdu, bcu, lnk, txq, pvt, tgt, rsl, stl, rtm, clock, transit, free, pending⟩ =
      ⟨mdu.position, mdu.faultReported, transit.reports.count .positionFault⟩ := rfl

@[simp] theorem State.stay_fold (s : State) :
    (⟨s.mdu.position, s.mdu.faultReported, s.transit.reports.count .positionFault⟩ : Stay) = s.stay := rfl

theorem State.stay_faults (s : State) : s.stay.faults = s.transit.reports.count .positionFault := rfl

theorem OnlyLink.stay {s t : State} (h : OnlyLink s t) : t.stay = s.stay := by
  obtain ⟨_, _, rfl⟩ := h
  rfl

theorem OnlyQueue.stay {s t : State} (h : OnlyQueue s t) : t.stay = s.stay := h.onlyLink.stay

/-! ### The shared operations -/

@[simp] theorem State.askSeqEvent_stay (s : State) (k : EventKind) : (s.askSeqEvent k).stay = s.stay :=
  (s.askSeqEvent_onlyQueue k).stay

@[simp] theorem State.askResult_stay (s : State) (n : Nat) (k : RequestKind) (o : RequestOutcome) :
    (s.askResult n k o).stay = s.stay := (s.askResult_onlyQueue n k o).stay

@[simp] theorem State.askTagNotice_stay (s : State) : s.askTagNotice.stay = s.stay := s.askTagNotice_onlyQueue.stay

@[simp] theorem State.askBattery_stay (s : State) : s.askBattery.stay = s.stay := s.askBattery_onlyQueue.stay

@[simp] theorem State.statusDemand_stay (s : State) (r : Reason) : (s.statusDemand r).stay = s.stay :=
  (s.statusDemand_onlyQueue r).stay

@[simp] theorem State.retain_stay (s : State) (f : Retained → Retained) : (s.retain f).stay = s.stay := rfl

/-- A hand-off other than a position fault. -/
theorem State.report_stay (s : State) {r : Report} (h : r ≠ .positionFault) : (s.report r).stay = s.stay := by
  simp [State.report, h]

theorem eitherOrder_stay {f g : State → State} (hf : ∀ u, (f u).stay = u.stay) (hg : ∀ u, (g u).stay = u.stay)
    (s : State) : (eitherOrder f g s).stay = s.stay := by
  obtain e | e := eitherOrder_cases f g s
  · rw [e, hg, hf]
    rfl
  · rw [e, hf, hg]
    rfl

/-! ### Trips (R41, R42, R51, R54, R58, R67) -/

@[simp] theorem Mdu.attempt_position (m : Mdu) (now : Uptime) (a : Attempt) :
    (m.attempt now a).position = m.position := by
  unfold Mdu.attempt
  split <;> rfl

@[simp] theorem Mdu.attempt_faultReported (m : Mdu) (now : Uptime) (a : Attempt) :
    (m.attempt now a).faultReported = m.faultReported := by
  unfold Mdu.attempt
  split <;> rfl

@[simp] theorem State.askTrip_stay (s : State) (c : OpCause) (e : ElementSet) (r : Ch4 Nat) :
    (s.askTrip c e r).stay = s.stay := by
  unfold State.askTrip Mdu.askTrip
  split <;> simp

@[simp] theorem State.enter_stay (s : State) (x : SeqState) (c : Option Cause) : (s.enter x c).stay = s.stay := by
  obtain ⟨_, h, -⟩ := s.enter_frame x c
  rw [h]
  rfl

@[simp] theorem State.toLockout_stay (s : State) (c : Cause) : (s.toLockout c).stay = s.stay := by
  simp [State.toLockout]

@[simp] theorem State.enterStuck_stay (s : State) (c : Cause) : (s.enterStuck c).stay = s.stay := by
  simp [State.enterStuck]

@[simp] theorem State.reclaim_stay (s : State) (shot : Nat) : (s.reclaim shot).stay = s.stay := by
  simp [State.reclaim]

@[simp] theorem State.trip_stay (s : State) (c : OpCause) (e : ElementSet) (r : Ch4 Nat) :
    (s.trip c e r).stay = s.stay := by
  simp [State.trip]

@[simp] theorem State.latestRms_stay (s : State) : s.latestRms.2.stay = s.stay := by
  obtain ⟨_, h⟩ := s.latestRms_frame
  rw [h]
  rfl

@[simp] theorem State.tripUnasked_stay (s : State) (c : OpCause) : (s.tripUnasked c).stay = s.stay := by
  simp [State.tripUnasked]

@[simp] theorem State.stuckTrip_stay (s : State) (c : OpCause) : (s.stuckTrip c).stay = s.stay := by
  simp [State.stuckTrip]

@[simp] theorem State.handState_stay (s : State) : s.handState.stay = s.stay := by
  unfold State.handState
  split <;> rfl

@[simp] theorem State.takeTripRequest_stay (s : State) (r : TripRequest) : (s.takeTripRequest r).stay = s.stay := by
  unfold State.takeTripRequest
  split <;> simp

@[simp] theorem State.manualTrip_stay (s : State) (c : OpCause) : (s.manualTrip c).1.stay = s.stay := by
  unfold State.manualTrip
  split
  case h_9 => split <;> simp
  all_goals simp

@[simp] theorem State.restoreOpen_stay (s : State) : s.restoreOpen.1.stay = s.stay := by
  unfold State.restoreOpen
  split <;> simp

/-! ### The hand-offs taken (R43, R46, R47, R56 to R58) -/

@[simp] theorem State.takeOpen_stay (s : State) (ms : Nat) : (s.takeOpen ms).stay = s.stay := by
  have asked (u : State) (k : EventKind) : (u.askTripEvents k).stay = u.stay := by simp [State.askTripEvents]
  unfold State.takeOpen
  dsimp only
  split
  · split
    · split <;> simp [asked, State.enterDead]
    · simp [asked]
    · rfl
  · simp
  · rfl

@[simp] theorem State.takeTripFail_stay (s : State) : s.takeTripFail.stay = s.stay := by
  unfold State.takeTripFail
  split <;> simp

@[simp] theorem State.takePositionFault_stay (s : State) : s.takePositionFault.stay = s.stay := by
  unfold State.takePositionFault
  split <;> simp

@[simp] theorem State.takeClosed_stay (s : State) : s.takeClosed.stay = s.stay := by
  unfold State.takeClosed
  split <;> simp

@[simp] theorem State.takeCloseFail_stay (s : State) : s.takeCloseFail.stay = s.stay := by
  unfold State.takeCloseFail
  split <;> simp

@[simp] theorem State.takeStep_stay (s : State) : s.takeStep.stay = s.stay := by
  unfold State.takeStep
  split <;> simp

@[simp] theorem State.takeUnsolicitedOpen_stay (s : State) (h : Bool) : (s.takeUnsolicitedOpen h).stay = s.stay := by
  unfold State.takeUnsolicitedOpen
  split <;> simp

@[simp] theorem State.takeUnsolicitedClose_stay (s : State) : s.takeUnsolicitedClose.stay = s.stay := by
  unfold State.takeUnsolicitedClose
  split <;> simp

@[simp] theorem State.reopenWatch_stay (s : State) : s.reopenWatch.stay = s.stay := by
  unfold State.reopenWatch
  split <;> rfl

@[simp] theorem State.externalClose_stay (s : State) : s.externalClose.stay = s.stay := by
  unfold State.externalClose
  split <;> simp

/-! ### Closes, timers and switches (R44 to R54, R59) -/

@[simp] theorem State.askClose_stay (s : State) : s.askClose.stay = s.stay := by
  unfold State.askClose
  split
  · rfl
  · exact s.report_stay nofun

@[simp] theorem State.beginClose_stay (s : State) (src : CloseSource) : (s.beginClose src).stay = s.stay := by
  simp [State.beginClose]

@[simp] theorem State.manualClose_stay (s : State) (src : CloseSource) : (s.manualClose src).1.stay = s.stay := by
  unfold State.manualClose
  split
  · rfl
  · split <;> simp

@[simp] theorem State.restoreClose_stay (s : State) : s.restoreClose.1.stay = s.stay := by
  unfold State.restoreClose
  split
  · rfl
  · split <;> simp

@[simp] theorem State.deadOver_stay (s : State) : s.deadOver.stay = s.stay := by
  unfold State.deadOver
  dsimp only
  split_ifs <;> simp

@[simp] theorem State.reclaimOver_stay (s : State) : s.reclaimOver.stay = s.stay := by
  simp [State.reclaimOver]

@[simp] theorem State.rearm_stay (s : State) : s.rearm.stay = s.stay := by
  unfold State.rearm
  split <;> rfl

@[simp] theorem State.closeAsked_stay (s : State) (src : CloseSource) : (s.closeAsked src).1.stay = s.stay := by
  unfold State.closeAsked
  dsimp only
  split <;> simp

@[simp] theorem State.lockDead_stay (s : State) (c : Cause) : (s.lockDead c).stay = s.stay := by
  unfold State.lockDead
  split <;> simp

@[simp] theorem State.nonrecloseReading_stay (s : State) (on : Bool) : (s.nonrecloseReading on).stay = s.stay := by
  unfold State.nonrecloseReading
  dsimp only
  split <;> simp

@[simp] theorem State.handleReading_stay (s : State) (down : Bool) : (s.handleReading down).stay = s.stay := by
  unfold State.handleReading
  dsimp only
  split <;> simp

@[simp] theorem State.classCutoff_stay (s : State) : s.classCutoff.stay = s.stay := by
  have stopped : s.demandOver.stay = s.stay := rfl
  unfold State.classCutoff
  dsimp only
  split <;> simp [stopped]

/-! ### The restoration logic (R166 to R173) -/

@[simp] theorem State.rest_stay (s : State) (r : RestState) : (s.rest r).stay = s.stay := rfl

@[simp] theorem State.midpointCheck_stay (s : State) : s.midpointCheck.stay = s.stay := by
  have asked := s.restoreOpen_stay
  unfold State.midpointCheck
  split
  · split
    · next e => rwa [e] at asked
    · next e => rwa [e] at asked
  · rfl

@[simp] theorem State.tieClose_stay (s : State) : s.tieClose.stay = s.stay := by
  have asked := s.restoreClose_stay
  unfold State.tieClose
  split
  · split
    · next e => rwa [e] at asked
    · next e => rwa [e] at asked
  · split_ifs <;> rfl

@[simp] theorem State.tieCheck_stay (s : State) (side : Side) : (s.tieCheck side).stay = s.stay := by
  have stopped : s.stopWait.stay = s.stay := rfl
  unfold State.tieCheck
  dsimp only
  split
  · rfl
  · exact stopped
  · split <;> simp [stopped]

@[simp] theorem State.rslCheck_stay (s : State) : s.rslCheck.stay = s.stay := by
  unfold State.rslCheck
  split
  case h_1 | h_2 => split <;> simp
  all_goals rfl

@[simp] theorem State.midpointOver_stay (s : State) : s.midpointOver.stay = s.stay := by
  unfold State.midpointOver
  split <;> simp

@[simp] theorem State.tieOver_stay (s : State) : s.tieOver.stay = s.stay := by
  unfold State.tieOver
  split
  · split <;> simp
  · rfl

@[simp] theorem State.rslStoreReady_stay (s : State) : s.rslStoreReady.stay = s.stay := by
  unfold State.rslStoreReady
  split <;> simp

@[simp] theorem State.closeStoreReady_stay (s : State) : s.closeStoreReady.stay = s.stay := by
  unfold State.closeStoreReady
  split <;> simp

theorem State.midpointEnter_stay (s : State) : s.midpointEnter.stay = s.stay := by
  unfold State.midpointEnter
  dsimp only
  split <;> simp

theorem State.rslEntry_stay (s : State) : s.rslEntry.stay = s.stay := by
  unfold State.rslEntry
  split
  · split
    · exact s.midpointEnter_stay
    · rfl
  · split
    · split <;> rfl
    · rfl
  · rfl

theorem State.rslReview_stay (s : State) (b : RslInputs) (x : Bool) : (s.rslReview b x).stay = s.stay := by
  obtain ⟨_, exits⟩ := State.rslExits_frame { s with rsl := { s.rsl with inhibit := s.formInhibit } }
  unfold State.rslReview
  simp only [exits]
  split <;> split <;> simp [State.rslEntry_stay, State.stopWait]

/-! ### The end of an event (R75, R97, R107) -/

@[simp] theorem State.abortTest_stay (s : State) : s.abortTest.stay = s.stay := s.abortTest_onlyQueue.stay

@[simp] theorem State.abortReview_stay (s : State) : s.abortReview.stay = s.stay := by
  obtain h | h := s.abortReview_cases <;> simp [h]

theorem State.endReception_stay (s : State) : s.endReception.stay = s.stay := by
  unfold State.endReception
  split <;> rfl

@[simp] theorem State.listenReview_stay (s : State) : s.listenReview.stay = s.stay := by
  unfold State.listenReview
  split
  · rfl
  · exact s.endReception_stay

@[simp] theorem State.settle_stay (s : State) (b : RslInputs) (x : Bool) : (s.settle b x).stay = s.stay := by
  have assigned (u : State) : u.chargerReview.stay = u.stay := rfl
  simp [State.settle, assigned, State.rslReview_stay]

theorem event_stay {f : State → State} {s : State} (h : (f s).stay = s.stay) : (event f s).stay = s.stay := by
  simp [event, h]

theorem linkEvent_stay {f : State → State} {s : State} (h : (f s).stay = s.stay) :
    (linkEvent f s).stay = s.stay := by
  simp [linkEvent, h]

theorem ifRuns_stay {t : State → Option Timer} {f : State → State} {s : State} (h : (f s).stay = s.stay) :
    (ifRuns t f s).stay = s.stay := by
  unfold ifRuns
  split
  · exact h
  · rfl

theorem whenDue_stay {d : State → Bool} {f : State → State} {s : State} (h : (f s).stay = s.stay) :
    (whenDue d f s).stay = s.stay := by
  unfold whenDue
  split
  · exact h
  · rfl

theorem withAbort_stay {f : State → State} (h : ∀ u, (f u).stay = u.stay) (s : State) :
    (withAbort f s).stay = s.stay := by
  obtain e | e | e := withAbort_cases f s <;> simp [e, h]

end Sys2Proof.Machine
end

section
/-! The stay in UNKNOWN beside the operations of the mechanism, the measurement chain, the battery, the tags and the
frames (R64). -/

namespace Sys2Proof.Machine

/-! ### Operations and stores (R67, R68, R70, R74, R77) -/

@[simp] theorem State.failTrip_stay (s : State) : s.failTrip.stay = s.stay := State.report_stay _ nofun

@[simp] theorem State.pulseEnd_stay (s : State) : s.pulseEnd.stay = s.stay := by
  unfold State.pulseEnd
  split <;> simp

@[simp] theorem State.storeWaitEnd_stay (s : State) : s.storeWaitEnd.stay = s.stay := by
  unfold State.storeWaitEnd
  split <;> simp

@[simp] theorem State.closePulseEnd_stay (s : State) : s.closePulseEnd.stay = s.stay := by
  unfold State.closePulseEnd
  split
  · exact State.report_stay _ nofun
  · rfl

@[simp] theorem State.readyReading_stay (s : State) (id : StoreId) (active : Bool) :
    (s.readyReading id active).stay = s.stay := by
  have read : State.stay { s with mdu := (s.mdu.withStore id (·.readInput active)).driveWhenReady s.now } =
      s.stay := by
    unfold Mdu.driveWhenReady
    split
    · split <;> cases id <;> rfl
    · cases id <;> rfl
  unfold State.readyReading
  split
  · rfl
  · dsimp only
    split
    · rw [State.rslStoreReady_stay, State.closeStoreReady_stay, read]
    · exact read

@[simp] theorem State.chargeOver_stay (s : State) (id : StoreId) : (s.chargeOver id).stay = s.stay := by
  cases id <;> rfl

@[simp] theorem State.retryOver_stay (s : State) (id : StoreId) : (s.retryOver id).stay = s.stay := by
  cases id <;> rfl

/-! ### The measurement chain (R3, R9, R19) -/

/-- A record hands on trip requests and sequence steps alone (R27, R34). -/
theorem State.evaluate_stay (s : State) (r : UpdateRecord) : (s.evaluate r).stay = s.stay := by
  have trips : (s.tripReportsAt r).count .positionFault = 0 := by
    unfold State.tripReportsAt
    split <;> simp
  have steps : (s.stepReportsAt r).count .positionFault = 0 := by
    unfold State.stepReportsAt
    split <;> simp
  cases h : s.evaluates r with
  | false => rw [State.evaluate_of_not h]
  | true =>
    rw [(State.evaluate_onlyQueue h).stay]
    simp [trips, steps]

theorem State.halfCycle_stay (s : State) : s.halfCycle.stay = s.stay := by
  rw [State.halfCycle_eq, State.evaluate_stay]
  rfl

@[simp] theorem State.halfCycleEvent_stay (s : State) : s.halfCycleEvent.stay = s.stay :=
  event_stay (withAbort_stay State.halfCycle_stay s)

/-! ### The battery (R80 to R98) -/

@[simp] theorem State.changeHealth_stay (s : State) (f : Health Attribute → Health Attribute) :
    (s.changeHealth f).stay = s.stay := (s.changeHealth_onlyQueue f).stay

theorem State.chargerExit_stay (s : State) (mV : Int) : (s.chargerExit mV).stay = s.stay := by
  have entered (m : ChargerMode) : (s.charger m).stay = s.stay := rfl
  unfold State.chargerExit
  split
  case h_4 | h_5 => rfl
  all_goals split_ifs <;> simp [entered]

@[simp] theorem State.chargedSecond_stay (s : State) (m : Mean) : (s.chargedSecond m).stay = s.stay := by
  unfold State.chargedSecond State.countCharge State.chargerStep
  split <;> simp [State.chargerExit_stay]

theorem State.publishClass_stay (s : State) (c : ReserveClass) : (s.publishClass c).stay = s.stay := by
  unfold State.publishClass
  rw [(State.startPeriod_onlyLink _).stay]
  exact (State.takePower_onlyLink _ _).stay.trans (State.abortReview_stay _)

theorem State.evaluateClass_stay (s : State) (m : Mean) : (s.evaluateClass m).stay = s.stay := by
  have published (u : State) (p : Prop) [Decidable p] (c : ReserveClass) :
      (if p then u else u.publishClass c).stay = u.stay := by
    split
    · rfl
    · exact u.publishClass_stay c
  have cutoff (u : State) (p : Prop) [Decidable p] :
      (if p then eitherOrder (·.changeHealth addDeepDischarge) State.classCutoff u else u).stay = u.stay := by
    split
    · exact eitherOrder_stay (fun v => v.changeHealth_stay _) State.classCutoff_stay u
    · rfl
  exact (cutoff _ _).trans (published _ _ _)

theorem State.oneSecond_stay (s : State) : s.oneSecond.stay = s.stay := by
  have second (u : State) (m : Mean) : (u.batterySecond m).stay = u.stay :=
    (State.evaluateClass_stay (u.chargedSecond m) m).trans (u.chargedSecond_stay m)
  exact second _ _

@[simp] theorem State.meanOr_stay (s : State) (m : Option Mean) : (s.meanOr m).2.stay = s.stay := by
  cases m <;> rfl

@[simp] theorem State.beginTest_stay (s : State) (src : TestSource) : (s.beginTest src).stay = s.stay := by
  simp [State.beginTest]

@[simp] theorem State.scheduledAttempt_stay (s : State) : s.scheduledAttempt.stay = s.stay := by
  unfold State.scheduledAttempt
  split <;> simp

theorem State.rollDay_stay (s : State) : s.rollDay.stay = s.stay := by
  unfold State.rollDay
  dsimp only
  split
  · split <;> simp [State.retain]
  · rfl

@[simp] theorem State.applyResult_stay (s : State) (t : TestResult) : (s.applyResult t).stay = s.stay := by
  simp [State.applyResult, State.retain]

theorem State.loadOver_stay (s : State) : s.loadOver.stay = s.stay := by
  unfold State.loadOver
  split
  · simp [State.endTest]
  · rfl

theorem State.testRetryOver_stay (s : State) : s.testRetryOver.stay = s.stay := by
  unfold State.testRetryOver
  dsimp only
  split <;> simp

theorem State.supplyReading_stay (s : State) (active : Bool) : (s.supplyReading active).stay = s.stay := by
  have changed (u : State) : (u.supplyChanged active).stay = u.stay := by
    unfold State.supplyChanged State.charger
    dsimp only
    split_ifs <;> simp
  unfold State.supplyReading
  dsimp only
  split <;> simp [changed]

@[simp] theorem State.testAsked_stay (s : State) : s.testAsked.1.stay = s.stay := by
  unfold State.testAsked
  split <;> simp

theorem State.dayEvent_stay (s : State) : s.dayEvent.stay = s.stay := event_stay s.rollDay_stay

@[simp] theorem State.secondEvent_stay (s : State) : s.secondEvent.stay = s.stay :=
  (event_stay (State.oneSecond_stay _)).trans (whenDue_stay s.dayEvent_stay)

@[simp] theorem State.sampleEvent_stay (s : State) : s.sampleEvent.stay = s.stay :=
  (whenDue_stay (State.secondEvent_stay _)).trans (whenDue_stay s.halfCycleEvent_stay)

theorem State.bitsEvent_stay (s : State) (b : Byte) : (s.bitsEvent b).stay = s.stay :=
  whenDue_stay s.sampleEvent_stay

/-! ### The tags (R154, R158 to R162) -/

theorem State.changeTags_stay (s : State) (on : Bool) {answer : State → State} (h : ∀ u, (answer u).stay = u.stay)
    (f : Retained → Retained) : (s.changeTags on answer f).stay = s.stay := by
  unfold State.changeTags
  dsimp only
  split
  · exact eitherOrder_stay (by simp [h]) (fun u => u.lockDead_stay .tag) _
  · rw [State.askTagNotice_stay, h]
    rfl

theorem State.hotlineReading_stay (s : State) (on : Bool) : (s.hotlineReading on).stay = s.stay := by
  unfold State.hotlineReading State.hotlineChanged
  split_ifs
  · rfl
  · rfl
  · exact State.changeTags_stay _ _ (fun _ => rfl) _
  · exact State.changeTags_stay _ _ (fun _ => rfl) _

theorem State.answerTags_stay (s : State) (r : CrewRequest) (o : RequestOutcome) (f : Option (Retained → Retained)) :
    (s.answerTags r o f).stay = s.stay := by
  cases f with
  | some f => exact s.changeTags_stay _ (fun u => u.askResult_stay _ _ _) f
  | none => exact s.askResult_stay _ _ _

theorem State.placeRequest_stay (s : State) (r : CrewRequest) : (s.placeRequest r).stay = s.stay := by
  unfold State.placeRequest
  split <;> exact s.answerTags_stay _ _ _

theorem State.removeRequest_stay (s : State) (r : CrewRequest) : (s.removeRequest r).stay = s.stay := by
  unfold State.removeRequest
  split <;> exact s.answerTags_stay _ _ _

theorem State.clearRequest_stay (s : State) (r : CrewRequest) : (s.clearRequest r).stay = s.stay := by
  unfold State.clearRequest
  split <;> exact s.answerTags_stay _ _ _

theorem State.statusNow_stay (s : State) (r : CrewRequest) : (s.statusNow r).stay = s.stay := by
  unfold State.statusNow State.rearmLive
  split <;> simp

/-! ### Frames (R107 to R109, R137) -/

/-- A reception taken by the filter (R108). -/
theorem State.filtered_stay (s : State) (a : Uptime) (k : FrameClass) :
    (s.dropReception.filterEffect a k).stay = s.stay := by
  obtain ⟨_, e⟩ := s.dropReception.filterEffect_frame a k
  rw [e]
  rfl

theorem onFrame_stay {α : Type} {pick : Frame → Option α} {f : α → Uptime → State → State}
    (h : ∀ a u t, (f a u t).stay = t.stay) (s : State) : (onFrame pick f s).stay = s.stay := by
  unfold onFrame
  split
  · split
    · split
      · exact (h _ _ _).trans (s.filtered_stay _ _)
      · rfl
    · rfl
  · rfl

theorem State.rejectFrame_stay (s : State) : s.rejectFrame.stay = s.stay := by
  unfold State.rejectFrame
  split
  · split
    · rfl
    · exact s.filtered_stay _ _
  · rfl

theorem State.peerFrame_stay (s : State) (id : Nat) (a : Uptime) (g : Option Segments) (f : PeerEntry → PeerEntry) :
    (s.peerFrame id a g f).stay = s.stay := by
  unfold State.peerFrame
  split <;> simp

theorem State.serialByte_stay (s : State) (b : Byte) : (s.serialByte b).stay = s.stay := by
  unfold State.serialByte
  dsimp only
  split_ifs
  · exact State.endReception_stay _
  · rfl
  · rfl

theorem State.second_stay (s : State) : s.second.stay = s.stay := by
  rw [State.second, State.settle_stay, State.rslCheck_stay]
  rfl

end Sys2Proof.Machine
end

section
/-! Changes of position outside an operation, and the one position fault of each stay in UNKNOWN (R63 to R65, R73). -/

namespace Sys2Proof.Machine

open Sys2Proof.Safety Sys2Proof.Claims

/-! ### A position outside an operation (R64, R65, R73) -/

/-- UNKNOWN outside an operation starts the position-fault timer (R64). -/
theorem moved_unknown (s : State) : s.moved .unknown =
    { s with mdu := { s.mdu.publish .unknown with faultTimer := some ⟨s.now, 20⟩ } } := by
  unfold State.moved
  split
  · rfl
  all_goals contradiction

/-- OPEN reached outside an operation: counted and reported after CLOSED (R65, R73). -/
theorem moved_opened (s : State) : s.moved .opened =
    if s.mdu.lastEnd = some .closed then
      ((published s .opened).retain fun r => { r with opCounter := min 999999 (r.opCounter + 1) }).report
        (.unsolicitedOpen s.mdu.handleDown)
    else published s .opened := by
  unfold State.moved
  split
  case h_2 last => rw [if_pos last]; rfl
  case h_4 other _ => exact (if_neg (other rfl)).symm
  all_goals contradiction

/-- CLOSED reached outside an operation: reported after OPEN (R65). -/
theorem moved_closed (s : State) : s.moved .closed =
    if s.mdu.lastEnd = some .opened then (published s .closed).report .unsolicitedClose
    else published s .closed := by
  unfold State.moved
  split
  case h_3 last => rw [if_pos last]; rfl
  case h_4 other => exact (if_neg fun last => other rfl last).symm
  all_goals contradiction

theorem position_changes_outside : Claims.PositionChanges := by
  intro s o c calm known idle p change read
  have reached : positionFrom o c = p := positionFrom_eq o c
  have run := contacts_idle known (o := o) (c := c) (by rwa [reached]) idle
  rw [reached] at run
  have last : (contactsRead s o c).mdu.lastEnd = s.mdu.lastEnd := rfl
  clear_value p
  refine ⟨?_, ?_, ?_⟩
  · rintro rfl
    rw [moved_unknown] at run
    exact next_of_mechanism calm run ⟨_, _, _, rfl⟩ rfl rfl
  · rintro rfl
    rw [moved_opened, last] at run
    split_ifs at run ⊢
    · exact next_of_mechanism calm run ⟨_, _, _, rfl⟩ rfl rfl
    · exact next_of_mechanism calm run ⟨_, _, _, rfl⟩ rfl rfl
  · rintro rfl
    rw [moved_closed, last] at run
    split_ifs at run ⊢
    · exact next_of_mechanism calm run ⟨_, _, _, rfl⟩ rfl rfl
    · exact next_of_mechanism calm run ⟨_, _, _, rfl⟩ rfl rfl

/-- R64's fault timer, whose expiry reports a stay once. -/
theorem positionFaultReported : PositionFaultReported := by
  intro s calm runs
  have run : ifRuns (·.mdu.faultTimer) State.faultTimerOver s = _ :=
    (ifRuns_of_some runs).trans s.faultTimerOver_eq
  exact next_of_mechanism calm run ⟨_, _, _, rfl⟩ rfl rfl

/-! ### One fault for each stay (R64) -/

/-- From the stay `a` to the stay `b` no second position fault is handed on: one that is finds the stay unreported
and leaves it reported, and a reported stay stays so until the position changes. -/
def OneFault (a b : Stay) : Prop :=
  (a.faults < b.faults →
    b.faults = a.faults + 1 ∧ a.reported = false ∧ b.reported = true ∧ a.position = some .unknown ∧
      b.position = some .unknown) ∧
  (a.reported = true → b.reported = false → b.position ≠ some .unknown)

/-- Without a fault handed on, in the same stay. -/
theorem oneFault_of_same {a b : Stay} (reported : b.reported = a.reported) (faults : b.faults ≤ a.faults) :
    OneFault a b :=
  ⟨fun more => absurd more (by omega), fun set clear => by simp [← reported, clear] at set⟩

theorem oneFault_of_eq {a b : Stay} (h : b = a) : OneFault a b := oneFault_of_same (by rw [h]) (by rw [h])

/-- Without a fault handed on, at a change of position. -/
theorem oneFault_of_change {a b : Stay} (faults : b.faults = a.faults)
    (left : a.reported = true → b.position ≠ some .unknown) : OneFault a b :=
  ⟨fun more => absurd more (by omega), fun set _ => left set⟩

/-- An event hands on what its own effect does. -/
theorem event_oneFault {f : State → State} {s : State} (h : OneFault s.stay (f s).stay) :
    OneFault s.stay (event f s).stay := by
  rwa [event, State.settle_stay]

theorem whenUp_oneFault {f : State → State} {s t : State} (h : whenUp f s = .next t)
    (k : OneFault s.stay (f s).stay) : OneFault s.stay t.stay := by
  rw [whenUp_next.mp h]
  split
  · exact k
  · exact oneFault_of_eq rfl

/-- A command that leaves the stay. -/
theorem whenUp_stay {f : State → State} {s t : State} (h : whenUp f s = .next t) (k : (f s).stay = s.stay) :
    OneFault s.stay t.stay := whenUp_oneFault h (oneFault_of_eq k)

/-- A command of the link leaves the stay. -/
theorem whenUp_link_stay {f : State → State} {s t : State} (h : whenUp (linkEvent f) s = .next t)
    (k : OnlyLink s (f s)) : OneFault s.stay t.stay := whenUp_stay h (linkEvent_stay k.stay)

/-! ### Hand-offs that arrive -/

/-- The stay stands, and of the position faults on their way at most some arrive. -/
def StayStands (s t : State) : Prop :=
  t.mdu.position = s.mdu.position ∧ t.mdu.faultReported = s.mdu.faultReported ∧ t.stay.faults ≤ s.stay.faults

theorem stayStands_of_eq {s t : State} (h : t.stay = s.stay) : StayStands s t :=
  ⟨congrArg Stay.position h, congrArg Stay.reported h, (congrArg Stay.faults h).le⟩

theorem StayStands.trans {s t u : State} (h : StayStands s t) (k : StayStands t u) : StayStands s u := by
  obtain ⟨position, reported, faults⟩ := h
  obtain ⟨position', reported', faults'⟩ := k
  exact ⟨position'.trans position, reported'.trans reported, faults'.trans faults⟩

theorem StayStands.oneFault {s t : State} (h : StayStands s t) : OneFault s.stay t.stay := by
  obtain ⟨-, reported, faults⟩ := h
  exact oneFault_of_same reported faults

/-- A hand-off that arrives is one fewer on its way. -/
theorem onArrival_stands {α : Type} {pick : Report → Option α} {f : α → State → State}
    (h : ∀ a u, (f a u).stay = u.stay) (s : State) : StayStands s (onArrival pick f s) := by
  cases e : takeReport pick s.transit.reports with
  | none =>
    rw [onArrival_of_none e]
    exact stayStands_of_eq rfl
  | some p =>
    obtain ⟨a, rest⟩ := p
    rw [onArrival_of_some e]
    have arrived : StayStands s { s with transit := { s.transit with reports := rest } } := by
      refine ⟨rfl, rfl, ?_⟩
      obtain ⟨before, after, r, all, left, -⟩ := takeReport_some e
      simp [State.stay_faults, all, left, List.count_cons]
    exact arrived.trans (stayStands_of_eq (h a _))

/-- A hand-off that may abort a test. -/
theorem withAbort_stands {f : State → State} (h : ∀ u, StayStands u (f u)) (s : State) :
    StayStands s (withAbort f s) := by
  have drawn : StayStands s { s with free := s.free + 1 } := stayStands_of_eq rfl
  have aborted (u : State) : StayStands u u.abortTest := stayStands_of_eq u.abortTest_stay
  obtain e | e | e := withAbort_cases f s <;> rw [e]
  · exact h s
  · exact (drawn.trans (aborted _)).trans (h _)
  · exact (drawn.trans (h _)).trans (aborted _)

theorem whenUp_arrival {f : State → State} {s t : State} (h : whenUp (event f) s = .next t)
    (k : StayStands s (f s)) : OneFault s.stay t.stay := whenUp_oneFault h (event_oneFault k.oneFault)

/-! ### The rows that publish a position, and the report (R61, R63, R64, R68, R70) -/

theorem confirmOpen_stay (s : State) : s.confirmOpen.stay = ⟨some .opened, false, s.stay.faults⟩ :=
  State.report_stay _ nofun

theorem confirmClosed_stay (s : State) : s.confirmClosed.stay = ⟨some .closed, false, s.stay.faults⟩ :=
  State.report_stay _ nofun

theorem moved_stay (s : State) (p : Position) : (s.moved p).stay = ⟨some p, false, s.stay.faults⟩ := by
  unfold State.moved
  dsimp only
  split
  case h_2 | h_3 => exact State.report_stay _ nofun
  all_goals rfl

/-- A change of position is published, whatever operation it finds in flight. -/
theorem contacts_stay {s : State} {o c : Bool} (known : s.mdu.position ≠ none)
    (change : s.mdu.position ≠ some (positionFrom o c)) :
    (s.contacts o c).stay = ⟨some (positionFrom o c), false, s.stay.faults⟩ := by
  have travel (p : Position) : (published (contactsRead s o c) p).stay = ⟨some p, false, s.stay.faults⟩ := rfl
  cases op : s.mdu.op with
  | idle =>
    rw [contacts_idle known change op]
    exact moved_stay _ _
  | trip ph a =>
    rw [contacts_trip known change op]
    split
    · next opened =>
      rw [confirmOpen_stay, opened]
      rfl
    · exact travel _
  | close =>
    rw [contacts_close known change op]
    split
    · next closed =>
      rw [confirmClosed_stay, closed]
      rfl
    · exact travel _

theorem contacts_oneFault {s : State} (sound : PositionSound s) (o c : Bool) :
    OneFault s.stay (s.contacts o c).stay := by
  obtain ⟨-, inUnknown⟩ := sound
  by_cases known : s.mdu.position = none
  · refine oneFault_of_eq ?_
    simp [State.contacts, known]
  · by_cases change : s.mdu.position = some (positionFrom o c)
    · refine oneFault_of_eq ?_
      rw [State.contacts, if_pos change]
      split <;> rfl
    · rw [contacts_stay known change]
      refine oneFault_of_change rfl fun set unknown => change ?_
      rw [inUnknown set]
      exact unknown.symm

/-- The first position ends no stay, and a first position of UNKNOWN is reported as it is taken (R63, R64). -/
theorem firstTaken_oneFault {s : State} (sound : PositionSound s) (first : s.mdu.position = none) (m : Mdu)
    (p : Position) : OneFault s.stay (firstTaken s m p).stay := by
  obtain ⟨-, inUnknown⟩ := sound
  refine oneFault_of_change rfl fun set => ?_
  cases first.symm.trans (inUnknown set)

theorem firstPosition_oneFault {s : State} (sound : PositionSound s) (p : Position) :
    OneFault s.stay (s.firstPosition p).stay := by
  by_cases first : s.mdu.position = none
  · rw [firstPosition_eq first]
    exact firstTaken_oneFault sound first _ p
  · refine oneFault_of_eq ?_
    simp [State.firstPosition, first]

theorem firstContacts_oneFault {s : State} (sound : PositionSound s) (o c : Bool) :
    OneFault s.stay (s.firstContacts o c).stay := by
  by_cases first : s.mdu.position = none
  · rw [firstContacts_eq first]
    exact firstTaken_oneFault sound first _ _
  · refine oneFault_of_eq ?_
    simp [State.firstContacts, first]

theorem openSeen_oneFault (s : State) : OneFault s.stay s.openSeen.stay := by
  unfold State.openSeen
  split
  · rw [confirmOpen_stay]
    exact oneFault_of_change rfl nofun
  · exact oneFault_of_eq rfl

theorem closedSeen_oneFault (s : State) : OneFault s.stay s.closedSeen.stay := by
  unfold State.closedSeen
  split
  · rw [confirmClosed_stay]
    exact oneFault_of_change rfl nofun
  · exact oneFault_of_eq rfl

/-- The fault timer runs in UNKNOWN alone, and its expiry hands on the fault of a stay not reported (R64). -/
theorem faultTimer_oneFault {s : State} (sound : PositionSound s) :
    OneFault s.stay (ifRuns (·.mdu.faultTimer) State.faultTimerOver s).stay := by
  obtain ⟨runsInUnknown, -⟩ := sound
  by_cases runs : s.mdu.faultTimer = none
  · rw [ifRuns_of_none runs]
    exact oneFault_of_eq rfl
  · obtain ⟨-, unknown⟩ := runsInUnknown runs
    rw [ifRuns_of_some runs, State.faultTimerOver_eq]
    cases reported : s.mdu.faultReported with
    | true => exact oneFault_of_same reported.symm (by simp [State.stay_faults])
    | false => exact ⟨fun _ => ⟨by simp [State.stay_faults], reported, rfl, unknown, unknown⟩, fun set => by
        cases reported.symm.trans set⟩

/-! ### Every command -/

/-- No command hands on a second position fault of a stay (R64). -/
theorem exec_oneFault {i : Instr} {s t : State} (sound : PositionSound s) (hi : ofStart i = false)
    (h : exec i s = .next t) : OneFault s.stay t.stay := by
  cases i with
  | restartInput | supplyReturn | settingsWordRead | settingsWordTimeout => exact Bool.noConfusion hi
  | openSeen => exact whenUp_oneFault h (event_oneFault (openSeen_oneFault s))
  | closedSeen => exact whenUp_oneFault h (event_oneFault (closedSeen_oneFault s))
  | positionChange o c => exact whenUp_oneFault h (event_oneFault (contacts_oneFault sound o c))
  | firstPosition o c => exact whenUp_oneFault h (event_oneFault (firstContacts_oneFault sound o c))
  | firstPositionTimeout => exact whenUp_oneFault h (event_oneFault (firstPosition_oneFault sound _))
  | positionFaultTimerExpiry => exact whenUp_oneFault h (event_oneFault (faultTimer_oneFault sound))
  | tripRequest => exact whenUp_arrival h (onArrival_stands (fun r u => u.takeTripRequest_stay r) s)
  | sequenceStep => exact whenUp_arrival h (onArrival_stands (fun _ u => u.takeStep_stay) s)
  | openConfirmation => exact whenUp_arrival h (onArrival_stands (fun ms u => u.takeOpen_stay ms) s)
  | tripFail => exact whenUp_arrival h (onArrival_stands (fun _ u => u.takeTripFail_stay) s)
  | closeConfirmation => exact whenUp_arrival h (onArrival_stands (fun _ u => u.takeClosed_stay) s)
  | closeFail => exact whenUp_arrival h (onArrival_stands (fun _ u => u.takeCloseFail_stay) s)
  | unsolicitedOpen =>
    exact whenUp_arrival h (withAbort_stands (onArrival_stands fun d u => u.takeUnsolicitedOpen_stay d) s)
  | unsolicitedClose => exact whenUp_arrival h (onArrival_stands (fun _ u => u.externalClose_stay) s)
  | positionFault =>
    exact whenUp_arrival h (withAbort_stands (onArrival_stands fun _ u => u.takePositionFault_stay) s)
  | modulatorBit b => exact whenUp_stay (f := (·.bitsEvent b)) h (s.bitsEvent_stay b)
  | decimatedSample => exact whenUp_stay h (whenDue_stay s.sampleEvent_stay)
  | halfCycleUpdate => exact whenUp_stay h (whenDue_stay s.halfCycleEvent_stay)
  | oneSecondUpdate => exact whenUp_stay h (whenDue_stay s.secondEvent_stay)
  | dayRollover => exact whenUp_stay h (whenDue_stay s.dayEvent_stay)
  | pulseLimitExpiry => exact whenUp_stay h (event_stay (ifRuns_stay s.pulseEnd_stay))
  | storeWaitExpiry => exact whenUp_stay h (event_stay (ifRuns_stay s.storeWaitEnd_stay))
  | closePulseLimitExpiry => exact whenUp_stay h (event_stay (ifRuns_stay s.closePulseEnd_stay))
  | handleChange d => exact whenUp_stay h (event_stay (s.handleReading_stay d))
  | readyInputChange id a => exact whenUp_stay h (event_stay (s.readyReading_stay id a))
  | chargeLimitExpiry id => exact whenUp_stay h (event_stay (ifRuns_stay (s.chargeOver_stay id)))
  | retryTimerExpiry id => exact whenUp_stay h (event_stay (ifRuns_stay (s.retryOver_stay id)))
  | deadTimerExpiry => exact whenUp_stay h (event_stay (ifRuns_stay s.deadOver_stay))
  | energyWaitExpiry => exact whenUp_stay h (event_stay (ifRuns_stay (s.toLockout_stay _)))
  | reclaimExpiry => exact whenUp_stay h (event_stay (ifRuns_stay s.reclaimOver_stay))
  | closeDemandExpiry | ackTimerExpiry | rslStoreWaitExpiry => exact whenUp_stay h (event_stay (ifRuns_stay rfl))
  | panelTrip => exact whenUp_stay h (event_stay ((State.manualTrip_stay _ _).trans s.rearm_stay))
  | panelClose => exact whenUp_stay h (event_stay (s.closeAsked_stay _))
  | nonrecloseChange on => exact whenUp_stay h (event_stay (s.nonrecloseReading_stay on))
  | supplyOkChange a => exact whenUp_stay h (event_stay (s.supplyReading_stay a))
  | testRetryExpiry => exact whenUp_stay h (event_stay (ifRuns_stay s.testRetryOver_stay))
  | loadTimerExpiry => exact whenUp_stay h (event_stay (ifRuns_stay s.loadOver_stay))
  | frameRejected => exact whenUp_stay h (event_stay s.rejectFrame_stay)
  | receiveStatus | receiveSeqEvent | receiveTagNotice | receivePeerReport =>
    exact whenUp_stay h (event_stay (onFrame_stay (fun _ _ u => u.peerFrame_stay _ _ _ _) s))
  | receivePickup =>
    exact whenUp_stay h (event_stay (onFrame_stay (fun _ _ u =>
      (State.startQuiet_onlyLink _ _ _).stay.trans (u.peerFrame_stay _ _ _ _)) s))
  | crewTagPlace => exact whenUp_stay h (event_stay (onFrame_stay (fun r _ u => u.placeRequest_stay r) s))
  | crewTagRemove => exact whenUp_stay h (event_stay (onFrame_stay (fun r _ u => u.removeRequest_stay r) s))
  | crewClearUnknown => exact whenUp_stay h (event_stay (onFrame_stay (fun r _ u => u.clearRequest_stay r) s))
  | crewTrip =>
    exact whenUp_stay h (event_stay (withAbort_stay (fun u => onFrame_stay (fun _ _ v => by simp [State.answer]) u) s))
  | crewClose => exact whenUp_stay h (event_stay (onFrame_stay (fun _ _ u => by simp [State.answer]) s))
  | crewStatusNow => exact whenUp_stay h (event_stay (onFrame_stay (fun r _ u => u.statusNow_stay r) s))
  | crewBatteryTest => exact whenUp_stay h (event_stay (onFrame_stay (fun _ _ u => by simp [State.answer]) s))
  | crewRequestNotActedOn => exact whenUp_stay h (event_stay (onFrame_stay (fun _ _ _ => rfl) s))
  | hotlineSwitchChange on => exact whenUp_stay h (event_stay (s.hotlineReading_stay on))
  | timeBaseSecond => exact whenUp_stay h s.second_stay
  | midpointTimerExpiry => exact whenUp_stay h (event_stay (ifRuns_stay s.midpointOver_stay))
  | tieTimerExpiry => exact whenUp_stay h (event_stay (ifRuns_stay s.tieOver_stay))
  | serialByteArrival b => exact whenUp_stay h (linkEvent_stay (s.serialByte_stay b))
  | receptionGapExpiry => exact whenUp_stay h (linkEvent_stay s.endReception_stay)
  | busyChange a =>
    cases h
    refine oneFault_of_eq ?_
    split
    · exact linkEvent_stay (s.busyLevel_onlyLink a).stay
    · rfl
  | collideActive => exact whenUp_link_stay h s.collided_onlyLink
  | gapExpiry => exact whenUp_link_stay h s.gapOver_onlyLink
  | backoffExpiry => exact whenUp_link_stay h s.backoffOver_onlyLink
  | sendEnd => exact whenUp_link_stay h s.sendOver_onlyLink
  | warmUpExpiry => exact whenUp_link_stay h (ifRuns_onlyLink s s.warmUpOver_onlyLink)
  | listenWindowOpen => exact whenUp_link_stay h s.openWindow_onlyLink
  | listenWindowClose => exact whenUp_link_stay h s.closeWindow_onlyLink
  | listenHoldLimit | linkTimerExpiry => exact whenUp_link_stay h (ifRuns_onlyLink s ⟨_, _, rfl⟩)
  | quietTimerExpiry => exact whenUp_link_stay h (ifRuns_onlyLink s s.quietOver_onlyLink)
  | pickupLifeExpiry => exact whenUp_link_stay h s.pickupLifeOver_onlyLink
  | statusPeriodExpiry => exact whenUp_link_stay h (ifRuns_onlyLink s s.periodOver_onlyLink)

theorem oneFaultForEachStay : OneFaultForEachStay := fun _ _ _ sound ran hi => exec_oneFault sound hi ran

/-- Settles O41: the changes of position by the end of travel they reach, the fault timer's report, and over all
commands the stay that each leaves. -/
theorem positionChanges : Obligations.PositionChanges :=
  ⟨position_changes_outside, positionFaultReported, oneFaultForEachStay⟩

end Sys2Proof.Machine
end

section
/-! What settles after an event of the battery, at a calm station of any role (R75, R97, R107, R165 to R174). -/

namespace Sys2Proof.Machine

open Sys2Proof.Safety Sys2Proof.Claims

/-- What the end of an event looks at, but for a test in progress and the listen enable, stands in `t` as `s` has
it. -/
structure BatteryEvent (s t : State) : Prop where
  sfe : t.sfe = s.sfe := by rfl
  peu : t.peu = s.peu := by rfl
  sqc : t.sqc = s.sqc := by rfl
  mdu : t.mdu = s.mdu := by rfl
  rsl : t.rsl = s.rsl := by rfl
  stl : t.stl = s.stl := by rfl
  clock : t.clock = s.clock := by rfl
  cls : t.bcu.cls = s.bcu.cls := by rfl
  idClash : t.lnk.idClash = s.lnk.idClash := by rfl

/-- Asking for a frame is no more than an event of the battery. -/
theorem BatteryEvent.queue {s t u : State} (h : BatteryEvent s t) (k : OnlyQueue t u) : BatteryEvent s u := by
  obtain ⟨_, _, _, _, rfl⟩ := k
  exact { h with }

/-- The restoration state has the conditions without which an event ends it (R167, R168, R170, R174). -/
def State.noExit (s : State) : Prop :=
  (s.rsl.state = .timing none → s.midpointHolds = true) ∧
    (∀ side, s.rsl.state = .timing (some side) → s.tieHolds side = true) ∧
    (s.rsl.state = .restored → s.sqc.state ≠ some .lockout) ∧
    (s.rsl.state = .inhibited .start → s.sfe.vs.state = .unknown ∨ s.sfe.vl.state = .unknown)

theorem State.watch_ne {s : State} (h : s.rsl.state ≠ .watch) : s.watch ≠ s := fun same =>
  h (congrArg (fun t : State => t.rsl.state) same).symm

/-- The RSL's look leaves a state alone exactly where none of its exits is open. -/
theorem State.rslExits_eq_self_iff (s : State) : s.rslExits = s ↔ s.noExit := by
  unfold State.rslExits State.noExit
  split
  case h_1 state | h_2 state => simp [State.watch_ne, state]
  case h_3 state =>
    have moved : s.rest (.inhibited .afterRestore) ≠ s := fun same => by
      have kept := congrArg (fun t : State => t.rsl.state) same
      cases kept.trans state
    simp [moved, state]
  case h_4 state => simp [State.watch_ne, state, or_iff_not_imp_left]
  case h_5 reason other state => simp [state, show reason ≠ .start from other]
  case h_6 state | h_7 state => simp [state]

/-- The exits of the restoration state read nothing of the battery. -/
theorem BatteryEvent.noExit {s t : State} (h : BatteryEvent s t) (k : s.noExit) : t.noExit := by
  have mid : t.midpointHolds = s.midpointHolds := by rw [State.midpointHolds, h.sqc, h.sfe, h.peu, h.rsl]; rfl
  have tie (side : Side) : t.tieHolds side = s.tieHolds side := by
    rw [State.tieHolds, State.deadSide, h.sqc, h.sfe, h.rsl]; rfl
  simpa only [State.noExit, mid, tie, h.rsl, h.sfe, h.sqc] using k

/-- The RSL of a settled station has nothing to do after an event of the battery. -/
theorem BatteryEvent.rslReview {s t : State} (h : BatteryEvent s t) (settled : Settled s) :
    t.rslReview s.rslInputs false = t := by
  obtain ⟨inhibit, exits, wait, -⟩ := settled
  have stay : t.rslExits = t := t.rslExits_eq_self_iff.mpr (h.noExit (s.rslExits_eq_self_iff.mp exits))
  have formInhibit : t.formInhibit = s.formInhibit := by
    simp only [State.formInhibit, h.stl, h.idClash, h.sqc]
  have formed : { t with rsl := { t.rsl with inhibit := t.formInhibit } } = t := by
    rw [formInhibit, ← inhibit, ← h.rsl]
  have stopped : (if t.classAllowsRestore then t else t.stopWait) = t := by
    split
    · rfl
    · next shut =>
      have waits : t.rsl.storeWait = none := by
        rw [h.rsl]
        refine wait.resolve_left fun allows => shut ?_
        simpa only [State.classAllowsRestore, h.cls] using allows
      rw [State.stopWait, ← waits]
  have inputs : t.rslInputs = s.rslInputs := by
    simp only [State.rslInputs, formInhibit, h.sfe, h.sqc, h.peu]
  simp only [State.rslReview, formed, stay, stopped, inputs, ne_eq, not_true_eq_false, decide_false, Bool.or_self,
    Bool.false_eq_true, if_false]

/-- With no abort condition to a test in progress, and the receiver on or no reception to cut, nothing is left to
settle. -/
theorem BatteryEvent.settle {s t : State} (h : BatteryEvent s t) (settled : Settled s)
    (test : t.bcu.test = none ∨ t.abortHolds = false)
    (listens : t.lnk.listenEnable = true ∨ t.lnk.reception = none) : t.settle s.rslInputs false = t := by
  have review := h.rslReview settled
  have stands : t.abortReview = t := by
    obtain none | holds := test
    · exact State.abortReview_of_no_test none
    · rw [State.abortReview, holds, Bool.and_false, if_neg Bool.false_ne_true]
  obtain ⟨-, -, -, -, charger, -⟩ := settled
  have demand : t.closeDemand = s.closeDemand := by simp only [State.closeDemand, h.sqc, h.rsl]
  have now : t.now = s.now := congrArg Clock.uptime h.clock
  have assigned : t.chargerReview = t := by
    have stores : s.mdu.assignCharger s.now (closeChargingAllowed s.bcu.cls s.closeDemand) = s.mdu :=
      congrArg State.mdu charger
    rw [State.chargerReview, h.mdu, now, h.cls, demand, stores, ← h.mdu]
  have heard : t.listenReview = t := by
    obtain on | none := listens
    · exact if_pos on
    · exact State.listenReview_of_none none
  rw [State.settle, review, stands, assigned, heard]

/-- The abort conditions stand where the supply does. -/
theorem BatteryEvent.abortHolds {s t : State} (h : BatteryEvent s t) (supply : t.bcu.supplyOk = s.bcu.supplyOk) :
    t.abortHolds = s.abortHolds := by
  simp only [State.abortHolds, h.peu, h.sqc, h.mdu, h.cls, supply]

end Sys2Proof.Machine
end

section
/-! SUPPLY_OK, the tests of the battery and their report (R80, R92 to R101, R127), at a calm station of any role. -/

namespace Sys2Proof.Machine

open Sys2Proof.Safety Sys2Proof.Claims

/-! ### A command of the battery -/

/-- A command whose event takes a calm `s` to a `t` that differs in the battery, no test of it to abort, ends there. -/
theorem next_of_battery {s t : State} {f : State → State} (calm : Calm s) (run : f s = t) (h : BatteryEvent s t)
    (test : t.bcu.test = none ∨ t.abortHolds = false)
    (listens : t.lnk.listenEnable = true ∨ t.lnk.reception = none) : whenUp (event f) s = .next t := by
  obtain ⟨up, settled⟩ := calm
  rw [whenUp_of_up up, event, run, h.settle settled test listens]

/-- The same where the link and the supply stand, a test beginning with no abort condition alone. -/
theorem next_of_battery_alone {s t : State} {f : State → State} (calm : Calm s) (run : f s = t)
    (h : BatteryEvent s t) (lnk : t.lnk = s.lnk) (supply : t.bcu.supplyOk = s.bcu.supplyOk)
    (test : s.bcu.test = none → t.bcu.test = none ∨ s.abortHolds = false) : whenUp (event f) s = .next t := by
  obtain ⟨-, -, -, -, aborts, -, listens⟩ := id calm
  refine next_of_battery calm run h ?_ (by rwa [lnk])
  rw [h.abortHolds supply]
  exact aborts.elim test .inr

/-- A command of the battery that asks for a frame, with no byte of one half received. -/
theorem next_of_battery_asked {s u t : State} {f : State → State} (calm : Calm s) (run : f s = t)
    (h : BatteryEvent s u) (queue : OnlyQueue u t) (test : u.bcu.test = none ∨ u.abortHolds = false)
    (noReception : u.lnk.reception = none) : whenUp (event f) s = .next t := by
  have kept := h.queue queue
  obtain ⟨_, _, _, _, rfl⟩ := queue
  exact next_of_battery calm run kept test (.inr noReception)

/-! ### SUPPLY_OK (R80, R97) -/

/-- A reading that is no change is only taken (R80). -/
theorem supplyReading_same {s : State} {active : Bool} (h : active = s.bcu.supplyOk) :
    s.supplyReading active = { s with bcu := { s.bcu with supplyRead := true } } := by
  rw [State.supplyReading, if_pos h]

/-- Supply back takes a charger in OFF to BULK, its duty of 0 standing (R80, R83). -/
theorem supplyReading_back {s : State} (without : s.bcu.supplyOk = false) (off : s.bcu.mode = .off)
    (dark : s.bcu.duty = 0) :
    s.supplyReading true = { s with
      bcu := { s.bcu with
        supplyOk := true, supplyRead := true, mode := .bulk, duty := 0, absorbSeconds := 0, tailRun := 0,
        floatSeconds := 0, lowFloatRun := 0 } } := by
  simp [State.supplyReading, State.supplyChanged, State.charger, Bcu.enterMode, without, off, dark]

/-- Supply gone takes the charger to OFF (R80, R83). -/
theorem supplyReading_gone {s : State} (supply : s.bcu.supplyOk = true) (noTest : s.bcu.test = none) :
    s.supplyReading false = { s with
      bcu := { s.bcu with
        supplyOk := false, supplyRead := true, mode := .off, duty := 0, absorbSeconds := 0, tailRun := 0,
        floatSeconds := 0, lowFloatRun := 0 } } := by
  simp [State.supplyReading, State.supplyChanged, State.charger, Bcu.enterMode, supply, noTest]

/-- Supply gone during a test aborts it, the charger in OFF (R80, R97). -/
theorem supplyReading_aborts {s : State} (supply : s.bcu.supplyOk = true) (test : s.bcu.test ≠ none) :
    s.supplyReading false = State.askBattery { s with
      bcu := { s.bcu with
        supplyOk := false, supplyRead := true, mode := .off, duty := 0, absorbSeconds := 0, tailRun := 0,
        floatSeconds := 0, lowFloatRun := 0, test := none, loadTimer := none, latestAttempt := some .aborted,
        testDue := true, retryTimer := some ⟨s.now, 3600000⟩ } } := by
  have running : s.bcu.test.isSome = true := Option.isSome_iff_ne_none.mpr test
  have gone : false ≠ s.bcu.supplyOk := by rw [supply]; decide
  rw [State.supplyReading, if_neg gone]
  exact if_pos running

theorem supplyChanges : SupplyChanges := by
  intro s calm sound noTest
  obtain ⟨-, dark, offWithout, -⟩ := sound
  obtain ⟨-, -, -, -, -, -, listens⟩ := id calm
  constructor
  · by_cases off : s.bcu.mode = .off
    · rw [if_pos off]
      exact next_of_battery calm (supplyReading_back (offWithout.mp off) off (dark (.inl off))) {} (.inl noTest) listens
    · have supply : s.bcu.supplyOk = true := by simpa using mt offWithout.mpr off
      rw [if_neg off]
      refine next_of_battery calm ((supplyReading_same supply.symm).trans ?_) {} (.inl noTest) listens
      rw [← supply]
  · by_cases supply : s.bcu.supplyOk = true
    · rw [if_pos supply]
      exact next_of_battery calm (supplyReading_gone supply noTest) {} (.inl noTest) listens
    · rw [if_neg supply]
      exact next_of_battery calm (supplyReading_same (by simpa using supply)) {} (.inl noTest) listens

/-- A test in progress has SUPPLY_OK (R93, R97). -/
theorem supply_of_test {s : State} (settled : Settled s) (test : s.bcu.test ≠ none) : s.bcu.supplyOk = true := by
  obtain ⟨-, -, -, aborts, -⟩ := settled
  have holds := aborts.resolve_left test
  simp only [State.abortHolds, Bool.or_eq_false_iff, Bool.not_eq_false'] at holds
  obtain ⟨⟨⟨-, supply⟩, -⟩, -⟩ := holds
  exact supply

theorem supplyInTest : SupplyInTest := by
  intro s x calm sound running noReception
  have test : s.bcu.test ≠ none := by simp [running]
  have supply := supply_of_test calm.2 test
  constructor
  · exact next_of_battery_alone calm (supplyReading_same supply.symm) {} rfl rfl fun none => absurd none test
  · exact next_of_battery_asked calm (supplyReading_aborts supply test) {} (State.askBattery_onlyQueue _) (.inl rfl)
      noReception

/-! ### The end of a test (R92, R95, R96, R98 to R101) -/

/-- The result judged, with the resistance as R96 clamps it. -/
theorem judge_eq (rMax vTestMin : Nat) (v0 v1 i1 : Int) :
    let r := (max 0 (min 65535 ((v0 - v1) * 1000 / i1))).toNat
    let valid := decide (100 ≤ i1)
    let good := valid && decide (r ≤ rMax) && decide ((vTestMin : Int) ≤ v1)
    judge rMax vTestMin v0 v1 i1 =
      ⟨if good then .pass else if valid then .fail else .invalid, v0, v1, i1, if valid then some r else none⟩ := by
  intro r valid good
  have measured : measuredR v0 v1 i1 = r := rfl
  rw [judge, measured]
  by_cases h : 100 ≤ i1
  · simp [good, valid, h, not_lt.mpr h]
  · simp [good, valid, h, not_le.mp h]

/-- The health attributes after a test, under the statement's names (R99, R100). -/
theorem afterResult_eq (rRef : Nat) (t : TestResult) (h : Health Attribute) :
    afterResult rRef t h =
      let fails := if t.outcome = .pass then 0 else min 255 (h.testFails.raw + 1)
      { h with
        resistance := match t.r with
          | some r =>
            let value := if r ≤ rRef then 200 else max 1 (200 - 100 * (r - rRef) / rRef)
            ⟨r, value, min h.resistance.worst value⟩
          | none => h.resistance
        testFails := ⟨fails, max 1 (200 - 60 * fails), min h.testFails.worst (max 1 (200 - 60 * fails))⟩ } := by
  unfold afterResult
  cases t.r <;> rfl

/-- The state in which a result has been written and the charger has left TEST, before any report is asked for. -/
def State.judged (s : State) (t : TestResult) : State :=
  { s with
    bcu := { s.bcu.leaveTest with latestAttempt := some t.outcome.attempt },
    rtm := Rtm.written { s.rtm.items with
      lastResult := some t, health := afterResult s.stl.image.rRef t s.rtm.items.health } }

/-- What follows a result: the report of BATTERY_POOR where it has become set, the days, and the test's own report
(R92, R98, R101). -/
theorem State.applyResult_eq (s : State) (t : TestResult) :
    s.applyResult t =
      let told := if s.poor = false ∧ (s.judged t).poor = true then (s.judged t).askBattery else s.judged t
      State.askBattery { told with
        bcu := { (s.judged t).bcu with daySeconds := 0, testDue := false },
        rtm := Rtm.written { (s.judged t).rtm.items with daysSinceTest := 0 } } := by
  have poor : (!s.poor && (s.judged t).poor) = decide (s.poor = false ∧ (s.judged t).poor = true) := by
    cases s.poor <;> cases (s.judged t).poor <;> rfl
  have changed : s.applyResult t =
      (let told := if !s.poor && (s.judged t).poor then (s.judged t).askBattery else s.judged t
      State.askBattery { told with
        bcu := { told.bcu with daySeconds := 0, testDue := false },
        rtm := Rtm.written { told.rtm.items with daysSinceTest := 0 } }) := rfl
  rw [changed, poor]
  by_cases becomes : s.poor = false ∧ (s.judged t).poor = true
  · obtain ⟨-, -, -, -, bcu, -, -, -, -, rtm, -⟩ := (State.askBattery_onlyQueue (s.judged t)).stands
    simp only [becomes, and_self, decide_true, if_true, bcu, rtm]
  · simp only [becomes, decide_false, Bool.false_eq_true, if_false]

theorem testEnds : TestEnds := by
  intro s x m calm running loaded timer noReception i1 r valid good h value fails judged told
  let result := judge s.stl.image.rMax s.stl.image.vTestMin x.v0 m.mV (-m.mA)
  have result_eq : result = ⟨if good then .pass else if valid then .fail else .invalid, x.v0, m.mV, i1,
      if valid then some r else none⟩ := judge_eq _ _ _ _ _
  have same : s.judged result = judged := by
    rw [result_eq, State.judged, afterResult_eq]
    dsimp only [judged, value, fails]
    clear told judged value fails result_eq
    clear_value good valid r
    cases valid <;> cases good <;> rfl
  have run : ifRuns (·.bcu.loadTimer) State.loadOver s = s.applyResult result := by
    rw [ifRuns_of_some timer, State.loadOver, running]
    change State.endTest s x = _
    rw [State.endTest, loaded]
    rfl
  have queue : OnlyQueue judged told := by
    dsimp only [told]
    split
    · exact State.askBattery_onlyQueue judged
    · exact .refl judged
  rw [State.applyResult_eq, same] at run
  obtain ⟨_, _, _, _, asked⟩ := queue
  refine next_of_battery_asked calm run ?_ (State.askBattery_onlyQueue _) (.inl rfl) ?_
  · change BatteryEvent s { told with
      bcu := { judged.bcu with daySeconds := 0, testDue := false },
      rtm := Rtm.written { judged.rtm.items with daysSinceTest := 0 } }
    rw [asked]
    exact {}
  · change told.lnk.reception = none
    rw [asked]
    exact noReception

/-! ### The report (R98, R101, R127, R129) -/

theorem State.search_txq (s : State) : s.search.txq = s.txq := by
  unfold State.search
  split
  · split <;> rfl
  · rfl

theorem State.afterJoin_txq (s : State) (p : Nat) : (s.afterJoin p).txq = s.txq := by
  unfold State.afterJoin
  split
  · split
    · exact State.search_txq _
    · exact s.search_txq
  · exact s.search_txq

/-- A join adds its entry to the list and nothing else (R124). -/
theorem State.join_entries (s : State) (c : Content) :
    (s.join c).txq.entries = insertEntry (s.newEntry c) s.txq.entries := by
  rw [State.join, State.afterJoin_txq]

/-- The BATTERY_REPORT of a sound list is the only one (R124). -/
theorem find_battery {s : State} (sound : QueueSound s) {e : Entry} (mem : e ∈ s.txq.entries)
    (battery : e.isBattery = true) : s.txq.entries.find? Entry.isBattery = some e := by
  obtain ⟨-, -, one, -⟩ := sound
  have kept : e ∈ s.txq.entries.filter Entry.isBattery := List.mem_filter.mpr ⟨mem, battery⟩
  obtain ⟨x, only⟩ := List.length_eq_one_iff.mp (le_antisymm one (List.length_pos_of_mem kept))
  rw [only, List.mem_singleton] at kept
  rw [← List.head?_filter, only, List.head?_cons, kept]

theorem batteryReportAsked : BatteryReportAsked := by
  intro s sound h c
  have poor : s.poor = decide (h.resistance.value ≤ s.stl.image.thresholds.resistance ∨
      h.testFails.value ≤ s.stl.image.thresholds.testFails ∨
      h.deepDischarge.value ≤ s.stl.image.thresholds.deepDischarge ∨
      h.absorbLimit.value ≤ s.stl.image.thresholds.absorbLimit) := by
    simp only [State.poor, batteryPoor, Attribute.below, Bool.decide_or, Bool.or_assoc]
    rfl
  have content : Content.battery s.batteryContent = c := by
    rw [State.batteryContent, poor]
  have none (no : ∀ e ∈ s.txq.entries, e.isBattery = false) : s.txq.entries.find? Entry.isBattery = none := by
    simpa using no
  refine ⟨fun no room => ?_, fun no full => ?_, fun e mem battery waits => ?_, fun e mem battery sends => ?_⟩
  · have joined : s.askBattery = s.join c := by
      rw [State.askBattery, none no]
      exact (if_pos room).trans (by rw [content])
    refine ⟨joined, fun x => ?_⟩
    rw [joined, State.join_entries, mem_insertEntry, or_comm]
    rfl
  · rw [State.askBattery, none no, ← content]
  · rw [State.askBattery, find_battery sound mem battery, ← content]
    exact if_neg (by simp [waits])
  · refine ⟨_, content.symm, ?_⟩
    rw [State.askBattery, find_battery sound mem battery]
    exact if_pos sends

/-- Settles O43: a reading moves the charger or aborts a test, the load timer judges its test and resets the days,
and a report goes where the BATTERY_REPORT of the list, if there is one, lets it. -/
theorem supplyAndTest : Obligations.SupplyAndTest := ⟨supplyChanges, supplyInTest, testEnds, batteryReportAsked⟩

end Sys2Proof.Machine
end

section
/-! The day rollover and the attempts at a test (R92 to R95), at a calm station of any role. -/

namespace Sys2Proof.Machine

open Sys2Proof.Safety Sys2Proof.Claims

/-! ### The preconditions (R93, R94) -/

/-- The first precondition that fails, in the three groups by which a crew is answered. -/
theorem testBar_eq (s : State) : s.testBar =
    if s.bcu.test ≠ none ∨ s.bcu.supplyOk = false ∨ s.bcu.mode ≠ .float ∨ s.bcu.floatSeconds < 3600 ∨
        s.sqc.state ≠ some .closed ∨ s.peu.anyPickup = true then
      some .refusedState
    else if s.bcu.cls ≠ some .normal ∨ s.mdu.trip.state ≠ .ready ∨ s.mdu.close.state ≠ .ready then
      some .refusedEnergy
    else if s.mdu.trip.enable = true ∨ s.mdu.close.enable = true then some .refusedState
    else none := by
  have test : s.bcu.test.isSome = true ↔ s.bcu.test ≠ none := Option.isSome_iff_ne_none
  have ready : (!(s.mdu.trip.isReady && s.mdu.close.isReady)) = true ↔
      s.mdu.trip.state ≠ .ready ∨ s.mdu.close.state ≠ .ready := by
    simp [Store.isReady]
  simp only [State.testBar, test, ready, Bool.not_eq_true', Mdu.chargerBusy, Bool.or_eq_true]
  split_ifs <;> grind

/-- No precondition fails exactly where all eight hold (R93). -/
theorem testBar_eq_none_iff (s : State) : s.testBar = none ↔ TestMayBegin s := by
  rw [testBar_eq]
  split_ifs <;> grind

/-- A test whose preconditions hold has no abort condition (R93, R97). -/
theorem abortHolds_of_mayBegin {s : State} (h : TestMayBegin s) : s.abortHolds = false := by
  obtain ⟨-, supply, -, -, state, pickup, cls, trip, close, -⟩ := h
  simp [State.abortHolds, supply, state, pickup, cls, Store.isReady, trip, close]

/-! ### The attempts (R93, R94) -/

theorem beginTest_eq {s : State} {m : Mean} (h : s.bcu.latestMean = some m) (src : TestSource) :
    s.beginTest src = { s with
      bcu := { s.bcu with
        mode := .test, duty := 0, absorbSeconds := 0, tailRun := 0, floatSeconds := 0, lowFloatRun := 0,
        test := some ⟨src, m.mV, s.now, none⟩, loadTimer := some ⟨s.now, 10000⟩, retryTimer := none } } := by
  rw [State.beginTest, h]
  rfl

/-- A scheduled attempt begins the test or starts the retry timer (R93). -/
theorem scheduledAttempt_eq {s : State} {m : Mean} (h : s.bcu.latestMean = some m) :
    s.scheduledAttempt = { s with
      bcu := if TestMayBegin s then
          { s.bcu with
            mode := .test, duty := 0, absorbSeconds := 0, tailRun := 0, floatSeconds := 0, lowFloatRun := 0,
            test := some ⟨.scheduled, m.mV, s.now, none⟩, loadTimer := some ⟨s.now, 10000⟩, retryTimer := none }
        else { s.bcu with retryTimer := some ⟨s.now, 60000⟩ } } := by
  have bar : s.testBar.isNone = true ↔ TestMayBegin s := by rw [Option.isNone_iff_eq_none, testBar_eq_none_iff]
  rw [State.scheduledAttempt, beginTest_eq h]
  simp only [bar]
  split <;> rfl

theorem scheduledAttempt : ScheduledAttempt := by
  intro s m calm timer due mean
  have run : ifRuns (·.bcu.retryTimer) State.testRetryOver s = _ :=
    (ifRuns_of_some timer).trans ((if_pos due).trans
      (scheduledAttempt_eq (s := { s with bcu := { s.bcu with retryTimer := none } }) mean))
  by_cases may : TestMayBegin s
  · rw [if_pos may] at run ⊢
    exact next_of_battery_alone calm run {} rfl rfl fun _ => .inr (abortHolds_of_mayBegin may)
  · rw [if_neg may] at run ⊢
    exact next_of_battery_alone calm run {} rfl rfl .inl

theorem crewBatteryTest : CrewBatteryTest := by
  intro s q r rest m calm noReception arrives mean
  obtain ⟨-, -, kind, -⟩ := id arrives
  have run : onFrame (s.pickRequest .batteryTest) (fun r _ s => State.answer s.testAsked r) s =
      ((heard s r rest).testAsked.1).askResult q.crew .batteryTest (heard s r rest).testAsked.2 := by
    rw [onFrame_of_request arrives, State.answer, kind]
  have refused {o : RequestOutcome} (bar : (heard s r rest).testBar = some o) :
      exec .crewBatteryTest s = .next ((heard s r rest).askResult q.crew .batteryTest o) := by
    have asked : (heard s r rest).testAsked = (heard s r rest, o) := by rw [State.testAsked, bar]
    rw [asked] at run
    obtain ⟨-, -, -, -, aborts, -⟩ := id calm
    exact next_of_battery_asked calm run {} (State.askResult_onlyQueue _ _ _ _) aborts noReception
  have bar := testBar_eq (heard s r rest)
  split_ifs with state energy busy
  · exact refused (bar.trans (if_pos state))
  · exact refused (bar.trans ((if_neg state).trans (if_pos energy)))
  · exact refused (bar.trans ((if_neg state).trans ((if_neg energy).trans (if_pos busy))))
  · have none : (heard s r rest).testBar = none :=
      bar.trans ((if_neg state).trans ((if_neg energy).trans (if_neg busy)))
    have holds := abortHolds_of_mayBegin ((testBar_eq_none_iff _).mp none)
    have asked : (heard s r rest).testAsked = ((heard s r rest).beginTest .crew, .accepted) := by
      rw [State.testAsked, none]
    rw [asked, beginTest_eq (s := heard s r rest) mean] at run
    exact next_of_battery_asked calm run {} (State.askResult_onlyQueue _ _ _ _)
      (.inr holds) noReception

/-! ### The day rollover (R92) -/

/-- A rollover that is due is taken as its event. -/
theorem exec_dayRollover {s : State} (day : 86400 ≤ s.bcu.daySeconds) :
    exec .dayRollover s = whenUp (event State.rollDay) s := by
  have due : s.dayDue = true := decide_eq_true day
  change whenUp (whenDue State.dayDue State.dayEvent) s = _
  rw [whenUp, whenDue_of_due due]
  rfl

theorem dayRollsOver : DayRollsOver := by
  intro s calm day notDue
  have due : (s.stl.image.testInterval ≤ min 65535 (s.rtm.items.daysSinceTest + 1) && !s.bcu.testDue) = false := by
    obtain set | short := notDue
    · simp [set]
    · simp [not_le.mpr short]
  have run : s.rollDay = { s with
      bcu := { s.bcu with daySeconds := 0 },
      rtm := Rtm.written { s.rtm.items with daysSinceTest := min 65535 (s.rtm.items.daysSinceTest + 1) } } := by
    rw [State.rollDay, due]
    rfl
  rw [exec_dayRollover day]
  exact next_of_battery_alone calm run {} rfl rfl .inl

theorem scheduledTestFallsDue : ScheduledTestFallsDue := by
  intro s m calm day notDue mean days due
  have falls : (s.stl.image.testInterval ≤ days && !s.bcu.testDue) = true := by simp [due, notDue]
  let u : State := { s with
    bcu := { s.bcu with daySeconds := 0, testDue := true },
    rtm := Rtm.written { s.rtm.items with daysSinceTest := days } }
  have run : s.rollDay = { u.scheduledAttempt with bcu := u.scheduledAttempt.bcu.keepLoaded m } := by
    rw [State.rollDay, falls, if_pos rfl, mean]
    rfl
  rw [scheduledAttempt_eq (s := u) mean] at run
  rw [exec_dayRollover day]
  by_cases may : TestMayBegin s
  · rw [if_pos may] at run ⊢
    exact next_of_battery_alone calm run {} rfl rfl fun _ => .inr (abortHolds_of_mayBegin may)
  · rw [if_neg may] at run ⊢
    refine next_of_battery_alone calm run {} rfl rfl fun noTest => .inl ?_
    rw [noTest]
    rfl

/-- Settles O29: a rollover that is not one of a test only counts its day; every attempt, a crew's too, begins its test
exactly where no precondition bars it. -/
theorem daysAndAttempts : Obligations.DaysAndAttempts :=
  ⟨dayRollsOver, scheduledTestFallsDue, scheduledAttempt, crewBatteryTest⟩

end Sys2Proof.Machine
end

section
/-! What the sequence and the restoration logic leave of the rest of the part: the measurement chain, the battery, the
peers, the tags, the settings, the retained items, the clock and both stores (R20, R38 to R58, R164 to R174). -/

namespace Sys2Proof.Machine

/-! ### The outside of the sequence -/

/-- What no operation of the sequence or of the restoration logic changes. -/
structure Outside where
  sfe : Sfe
  bcu : Bcu
  pvt : List PeerEntry
  tgt : Tgt
  stl : Stl
  rtm : Rtm
  clock : Clock
  trip : Store
  close : Store

/-- The outside of the sequence in a state. -/
def State.outside (s : State) : Outside :=
  ⟨s.sfe, s.bcu, s.pvt, s.tgt, s.stl, s.rtm, s.clock, s.mdu.trip, s.mdu.close⟩

/-- The outside is read off its items. -/
@[simp] theorem State.outside_mk (sfe : Sfe) (peu : Peu) (sqc : Sqc) (mdu : Mdu) (bcu : Bcu) (lnk : Lnk) (txq : Txq)
    (pvt : List PeerEntry) (tgt : Tgt) (rsl : Rsl) (stl : Stl) (rtm : Rtm) (clock : Clock) (transit : Transit)
    (free : Nat) (pending : List Instr) :
    State.outside ⟨sfe, peu, sqc, mdu, bcu, lnk, txq, pvt, tgt, rsl, stl, rtm, clock, transit, free, pending⟩ =
      ⟨sfe, bcu, pvt, tgt, stl, rtm, clock, mdu.trip, mdu.close⟩ := rfl

@[simp] theorem State.outside_fold (s : State) :
    (⟨s.sfe, s.bcu, s.pvt, s.tgt, s.stl, s.rtm, s.clock, s.mdu.trip, s.mdu.close⟩ : Outside) = s.outside := rfl

theorem OnlyLink.outside {s t : State} (h : OnlyLink s t) : t.outside = s.outside := by
  obtain ⟨_, _, rfl⟩ := h
  rfl

theorem OnlyQueue.outside {s t : State} (h : OnlyQueue s t) : t.outside = s.outside := h.onlyLink.outside

@[simp] theorem State.askSeqEvent_outside (s : State) (k : EventKind) : (s.askSeqEvent k).outside = s.outside :=
  (s.askSeqEvent_onlyQueue k).outside

@[simp] theorem State.askResult_outside (s : State) (n : Nat) (k : RequestKind) (o : RequestOutcome) :
    (s.askResult n k o).outside = s.outside := (s.askResult_onlyQueue n k o).outside

@[simp] theorem State.report_outside (s : State) (r : Report) : (s.report r).outside = s.outside := rfl

/-! ### Trips (R41, R42, R51, R54, R58, R67) -/

@[simp] theorem Mdu.attempt_trip (m : Mdu) (now : Uptime) (a : Attempt) : (m.attempt now a).trip = m.trip := by
  unfold Mdu.attempt
  split <;> rfl

@[simp] theorem Mdu.attempt_close (m : Mdu) (now : Uptime) (a : Attempt) : (m.attempt now a).close = m.close := by
  unfold Mdu.attempt
  split <;> rfl

@[simp] theorem State.askTrip_outside (s : State) (c : OpCause) (e : ElementSet) (r : Ch4 Nat) :
    (s.askTrip c e r).outside = s.outside := by
  unfold State.askTrip Mdu.askTrip
  split <;> simp

@[simp] theorem State.enter_outside (s : State) (x : SeqState) (c : Option Cause) :
    (s.enter x c).outside = s.outside := by
  obtain ⟨_, h, -⟩ := s.enter_frame x c
  rw [h]
  rfl

@[simp] theorem State.toLockout_outside (s : State) (c : Cause) : (s.toLockout c).outside = s.outside := by
  simp [State.toLockout]

@[simp] theorem State.enterStuck_outside (s : State) (c : Cause) : (s.enterStuck c).outside = s.outside := by
  simp [State.enterStuck]

@[simp] theorem State.reclaim_outside (s : State) (shot : Nat) : (s.reclaim shot).outside = s.outside := by
  simp [State.reclaim]

@[simp] theorem State.trip_outside (s : State) (c : OpCause) (e : ElementSet) (r : Ch4 Nat) :
    (s.trip c e r).outside = s.outside := by
  simp [State.trip]

@[simp] theorem State.latestRms_outside (s : State) : s.latestRms.2.outside = s.outside := by
  obtain ⟨_, h⟩ := s.latestRms_frame
  rw [h]
  rfl

@[simp] theorem State.tripUnasked_outside (s : State) (c : OpCause) : (s.tripUnasked c).outside = s.outside := by
  simp [State.tripUnasked]

@[simp] theorem State.stuckTrip_outside (s : State) (c : OpCause) : (s.stuckTrip c).outside = s.outside := by
  simp [State.stuckTrip]

@[simp] theorem State.handState_outside (s : State) : s.handState.outside = s.outside := by
  unfold State.handState
  split <;> rfl

@[simp] theorem State.takeTripRequest_outside (s : State) (r : TripRequest) :
    (s.takeTripRequest r).outside = s.outside := by
  unfold State.takeTripRequest
  split <;> simp

@[simp] theorem State.manualTrip_outside (s : State) (c : OpCause) : (s.manualTrip c).1.outside = s.outside := by
  unfold State.manualTrip
  split
  case h_9 => split <;> simp
  all_goals simp

@[simp] theorem State.restoreOpen_outside (s : State) : s.restoreOpen.1.outside = s.outside := by
  unfold State.restoreOpen
  split <;> simp

/-! ### The hand-offs taken (R43, R46, R47, R56 to R58) -/

@[simp] theorem State.takeOpen_outside (s : State) (ms : Nat) : (s.takeOpen ms).outside = s.outside := by
  have asked (u : State) (k : EventKind) : (u.askTripEvents k).outside = u.outside := by
    simp [State.askTripEvents]
  unfold State.takeOpen
  dsimp only
  split
  · split
    · split <;> simp [asked, State.enterDead]
    · simp [asked]
    · rfl
  · simp
  · rfl

@[simp] theorem State.takeTripFail_outside (s : State) : s.takeTripFail.outside = s.outside := by
  unfold State.takeTripFail
  split <;> simp

@[simp] theorem State.takePositionFault_outside (s : State) : s.takePositionFault.outside = s.outside := by
  unfold State.takePositionFault
  split <;> simp

@[simp] theorem State.takeClosed_outside (s : State) : s.takeClosed.outside = s.outside := by
  unfold State.takeClosed
  split <;> simp

@[simp] theorem State.takeCloseFail_outside (s : State) : s.takeCloseFail.outside = s.outside := by
  unfold State.takeCloseFail
  split <;> simp

@[simp] theorem State.takeStep_outside (s : State) : s.takeStep.outside = s.outside := by
  unfold State.takeStep
  split <;> simp

@[simp] theorem State.takeUnsolicitedOpen_outside (s : State) (h : Bool) :
    (s.takeUnsolicitedOpen h).outside = s.outside := by
  unfold State.takeUnsolicitedOpen
  split <;> simp

@[simp] theorem State.reopenWatch_outside (s : State) : s.reopenWatch.outside = s.outside := by
  unfold State.reopenWatch
  split <;> rfl

@[simp] theorem State.externalClose_outside (s : State) : s.externalClose.outside = s.outside := by
  have taken : s.takeUnsolicitedClose.outside = s.outside := by
    unfold State.takeUnsolicitedClose
    split <;> simp
  unfold State.externalClose
  split <;> simp [taken]

/-! ### Closes, timers and switches (R44 to R54, R59) -/

@[simp] theorem State.beginClose_outside (s : State) (src : CloseSource) :
    (s.beginClose src).outside = s.outside := by
  have asked (u : State) : u.askClose.outside = u.outside := by
    unfold State.askClose
    split <;> rfl
  simp [State.beginClose, asked]

@[simp] theorem State.restoreClose_outside (s : State) : s.restoreClose.1.outside = s.outside := by
  unfold State.restoreClose
  split
  · rfl
  · split <;> simp

@[simp] theorem State.deadOver_outside (s : State) : s.deadOver.outside = s.outside := by
  unfold State.deadOver
  dsimp only
  split_ifs <;> simp

@[simp] theorem State.reclaimOver_outside (s : State) : s.reclaimOver.outside = s.outside := by
  simp [State.reclaimOver]

@[simp] theorem State.rearm_outside (s : State) : s.rearm.outside = s.outside := by
  unfold State.rearm
  split <;> rfl

@[simp] theorem State.closeAsked_outside (s : State) (src : CloseSource) :
    (s.closeAsked src).1.outside = s.outside := by
  have asked (u : State) : (u.manualClose src).1.outside = u.outside := by
    unfold State.manualClose
    split
    · rfl
    · split <;> simp
  unfold State.closeAsked
  dsimp only
  split <;> simp [asked]

@[simp] theorem State.lockDead_outside (s : State) (c : Cause) : (s.lockDead c).outside = s.outside := by
  unfold State.lockDead
  split <;> simp

@[simp] theorem State.nonrecloseReading_outside (s : State) (on : Bool) :
    (s.nonrecloseReading on).outside = s.outside := by
  unfold State.nonrecloseReading
  dsimp only
  split <;> simp

@[simp] theorem State.handleReading_outside (s : State) (down : Bool) :
    (s.handleReading down).outside = s.outside := by
  unfold State.handleReading
  dsimp only
  split <;> simp

@[simp] theorem State.classCutoff_outside (s : State) : s.classCutoff.outside = s.outside := by
  have stopped : s.demandOver.outside = s.outside := rfl
  unfold State.classCutoff
  dsimp only
  split <;> simp [stopped]

/-! ### The restoration logic (R166 to R173) -/

@[simp] theorem State.rest_outside (s : State) (r : RestState) : (s.rest r).outside = s.outside := rfl
@[simp] theorem State.stopWait_outside (s : State) : s.stopWait.outside = s.outside := rfl

@[simp] theorem State.midpointCheck_outside (s : State) : s.midpointCheck.outside = s.outside := by
  have asked := s.restoreOpen_outside
  unfold State.midpointCheck
  split
  · split
    · next e => rwa [e] at asked
    · next e => rwa [e] at asked
  · rfl

@[simp] theorem State.tieCheck_outside (s : State) (side : Side) : (s.tieCheck side).outside = s.outside := by
  have closes : s.tieClose.outside = s.outside := by
    have asked := s.restoreClose_outside
    unfold State.tieClose
    split
    · split
      · next e => rwa [e] at asked
      · next e => rwa [e] at asked
    · split_ifs <;> rfl
  unfold State.tieCheck
  dsimp only
  split
  · rfl
  · rfl
  · split <;> simp [closes]

@[simp] theorem State.rslCheck_outside (s : State) : s.rslCheck.outside = s.outside := by
  unfold State.rslCheck
  split
  case h_1 | h_2 => split <;> simp
  all_goals rfl

@[simp] theorem State.midpointOver_outside (s : State) : s.midpointOver.outside = s.outside := by
  unfold State.midpointOver
  split <;> simp

@[simp] theorem State.tieOver_outside (s : State) : s.tieOver.outside = s.outside := by
  unfold State.tieOver
  split
  · split <;> simp
  · rfl

@[simp] theorem State.storeReady_outside (s : State) : s.closeStoreReady.rslStoreReady.outside = s.outside := by
  have begun : s.closeStoreReady.outside = s.outside := by
    unfold State.closeStoreReady
    split <;> simp
  unfold State.rslStoreReady
  split <;> simp [begun]

theorem State.rslEntry_outside (s : State) : s.rslEntry.outside = s.outside := by
  have entered : s.midpointEnter.outside = s.outside := by
    unfold State.midpointEnter
    dsimp only
    split <;> simp
  unfold State.rslEntry
  split
  · split
    · exact entered
    · rfl
  · split
    · split <;> rfl
    · rfl
  · rfl

@[simp] theorem State.rslReview_outside (s : State) (b : RslInputs) (x : Bool) :
    (s.rslReview b x).outside = s.outside := by
  obtain ⟨_, exits⟩ := State.rslExits_frame { s with rsl := { s.rsl with inhibit := s.formInhibit } }
  unfold State.rslReview
  simp only [exits]
  split <;> split <;> simp [State.rslEntry_outside]

/-! ### The elements (R19) -/

/-- An update record changes the elements, the hand-offs and the queue alone (R19). -/
theorem State.evaluate_outside (s : State) (r : UpdateRecord) : (s.evaluate r).outside = s.outside := by
  obtain ⟨_, _, h⟩ := s.evaluate_frame r
  exact h.outside

end Sys2Proof.Machine
end

section
/-! What a piece of an event keeps for the battery (R86, R97): the charge in its bounds, a test in progress or its abort
just now, and no charge drawn by a READY close store; and what a settled station has of its conditions. -/

namespace Sys2Proof.Machine

open Sys2Proof.Safety

/-! ### What is kept -/

/-- The test was aborted at this uptime (R97, R98). -/
structure AbortedNow (s : State) : Prop where
  noTest : s.bcu.test = none
  attempt : s.bcu.latestAttempt = some .aborted
  due : s.bcu.testDue = true
  retry : s.bcu.retryTimer = some ⟨s.now, 3600000⟩
  mode : s.bcu.mode ≠ .test

/-- A test is in progress, or was aborted at this uptime. -/
def Tested (s : State) : Prop := s.bcu.test ≠ none ∨ AbortedNow s

/-- A READY close store draws no charge (R74, R75). -/
def CloseOff (m : Mdu) : Prop := m.close.state = .ready → m.close.enable = false

/-- `t` follows `s` within an event: the settings and the uptime stand, the charge stays within the capacity, a READY
close store draws no charge, and under `p` a test does not end but by its abort. -/
structure Tends (p : Prop) (s t : State) : Prop where
  stl : t.stl = s.stl
  now : t.now = s.now
  charge : s.rtm.items.q ≤ s.stl.tables.qcap → t.rtm.items.q ≤ s.stl.tables.qcap
  closeOff : CloseOff s.mdu → CloseOff t.mdu
  test : p → Tested s → Tested t

theorem Tends.refl (p : Prop) (s : State) : Tends p s s := ⟨rfl, rfl, id, id, fun _ => id⟩

theorem Tends.trans {p : Prop} {s t u : State} (h : Tends p s t) (k : Tends p t u) : Tends p s u where
  stl := k.stl.trans h.stl
  now := k.now.trans h.now
  charge c := h.stl ▸ k.charge (h.stl.symm ▸ h.charge c)
  closeOff c := k.closeOff (h.closeOff c)
  test hp c := k.test hp (h.test hp c)

/-- The two parts of an event, the later one first: its state is read off it. -/
theorem Tends.after {p : Prop} {s t u : State} (k : Tends p t u) (h : Tends p s t) : Tends p s u := h.trans k

/-- A change beside the battery's own items. -/
theorem Tends.of_stands {s t : State} (p : Prop) (stl : t.stl = s.stl := by rfl) (now : t.now = s.now := by rfl)
    (bcu : t.bcu = s.bcu := by rfl) (close : t.mdu.close = s.mdu.close := by rfl)
    (q : t.rtm.items.q = s.rtm.items.q := by rfl) : Tends p s t where
  stl := stl
  now := now
  charge := by rw [q]; exact id
  closeOff := by rw [CloseOff, CloseOff, close]; exact id
  test _ h := by
    refine h.imp (by rw [bcu]; exact id) fun aborted => ?_
    exact ⟨bcu ▸ aborted.noTest, bcu ▸ aborted.attempt, bcu ▸ aborted.due, bcu.symm ▸ now.symm ▸ aborted.retry,
      bcu ▸ aborted.mode⟩

/-- What leaves the outside of the sequence. -/
theorem tends_of_outside {s t : State} (p : Prop) (h : t.outside = s.outside) : Tends p s t :=
  .of_stands p (congrArg Outside.stl h) (congrArg (fun o => o.clock.uptime) h) (congrArg Outside.bcu h)
    (congrArg Outside.close h) (congrArg (fun o => o.rtm.items.q) h)

theorem OnlyLink.tends {s t : State} (p : Prop) (h : OnlyLink s t) : Tends p s t := tends_of_outside p h.outside

theorem OnlyQueue.tends {s t : State} (p : Prop) (h : OnlyQueue s t) : Tends p s t := h.onlyLink.tends p

/-- The test, its latest attempt and its retry stand, and the charger does not enter TEST. -/
structure SameTest (b c : Bcu) : Prop where
  test : c.test = b.test := by rfl
  attempt : c.latestAttempt = b.latestAttempt := by rfl
  due : c.testDue = b.testDue := by rfl
  retry : c.retryTimer = b.retryTimer := by rfl
  mode : b.mode ≠ .test → c.mode ≠ .test := by exact id

/-- A change of the BCU that leaves the test. -/
theorem SameTest.tends {s : State} {b : Bcu} (p : Prop) (h : SameTest s.bcu b) : Tends p s { s with bcu := b } where
  stl := rfl
  now := rfl
  charge := id
  closeOff := id
  test _ k := by
    refine k.imp (by rw [← h.test]; exact id) fun aborted => ?_
    exact ⟨h.test.trans aborted.noTest, h.attempt.trans aborted.attempt, h.due.trans aborted.due,
      h.retry.trans aborted.retry, h.mode aborted.mode⟩

/-- A change of the BCU that leaves a test in progress, or that has none to leave. -/
theorem tends_of_running {s t : State} {p : Prop} (stl : t.stl = s.stl) (now : t.now = s.now)
    (close : t.mdu.close = s.mdu.close) (q : t.rtm.items.q = s.rtm.items.q)
    (test : p → Tested s → t.bcu.test ≠ none) : Tends p s t where
  stl := stl
  now := now
  charge := by rw [q]; exact id
  closeOff := by rw [CloseOff, CloseOff, close]; exact id
  test hp h := .inl (test hp h)

/-! ### The abort and the end of an event (R75, R97, R107) -/

section
variable (p : Prop) (s : State)

theorem State.abortTest_tends : Tends p s s.abortTest := by
  have aborted : Tends p s { s with bcu := s.bcu.aborted s.now } :=
    ⟨rfl, rfl, id, id, fun _ _ => .inr ⟨rfl, rfl, rfl, rfl, by
      change (if s.bcu.supplyOk then ChargerMode.bulk else .off) ≠ .test
      split <;> simp⟩⟩
  exact aborted.trans (s.abortTest_onlyQueue.tends p)

theorem State.abortReview_tends : Tends p s s.abortReview := by
  obtain h | h := s.abortReview_cases <;> rw [h]
  · exact .refl p s
  · exact s.abortTest_tends p

/-- A store that is given the charger is not READY (R75). -/
theorem Store.assign_not_ready {t : Store} (wants : t.wants = true) (now : Uptime) (limit : Nat) :
    (t.assign now limit).state ≠ .ready := by
  have unready : t.state ≠ .ready := fun ready => by simp [Store.wants_of_ready ready] at wants
  unfold Store.assign
  split
  · exact unready
  · dsimp only
    split
    · nofun
    · exact unready

theorem Store.withdraw_off (t : Store) (now : Uptime) : (t.withdraw now).enable = false := by
  unfold Store.withdraw
  split
  · next off => simpa using off
  · split <;> rfl

/-- The assignment gives no charge to a READY store, and withdraws it from one that is not to have it (R75). -/
theorem Mdu.assignCharger_closeOff (m : Mdu) (now : Uptime) (allowed : Bool) :
    CloseOff (m.assignCharger now allowed) := by
  unfold CloseOff Mdu.assignCharger
  dsimp only
  split
  · next given =>
    simp only [Bool.and_eq_true] at given
    obtain ⟨⟨-, wants⟩, -⟩ := given
    exact fun ready => absurd ready (Store.assign_not_ready wants now _)
  · exact fun _ => m.close.withdraw_off now

theorem State.chargerReview_tends : Tends p s s.chargerReview :=
  ⟨rfl, rfl, id, fun _ => Mdu.assignCharger_closeOff _ _ _, fun _ h => h.imp id fun a =>
    ⟨a.noTest, a.attempt, a.due, a.retry, a.mode⟩⟩

theorem State.listenReview_tends : Tends p s s.listenReview := by
  obtain ⟨_, _, _, h⟩ := s.listenReview_frame
  rw [h]
  exact .of_stands p

theorem State.settle_tends (b : RslInputs) (x : Bool) : Tends p s (s.settle b x) :=
  (tends_of_outside p (s.rslReview_outside b x)).trans ((State.abortReview_tends p _).trans
    ((State.chargerReview_tends p _).trans (State.listenReview_tends p _)))

end

/-! ### The conditions of a settled station (R75, R76, R97, R167, R170) -/

/-- TIMING stands with the conditions of its station's role (R167, R170). -/
def TimingHolds (s : State) : Prop :=
  (s.rsl.state = .timing none → s.midpointHolds = true) ∧
    ∀ side, s.rsl.state = .timing (some side) → s.tieHolds side = true

/-- A test in progress has no abort condition, the charger serves the stores by the policy, and TIMING has its
conditions. -/
structure Conditioned (s : State) : Prop where
  test : s.bcu.test = none ∨ s.abortHolds = false
  tripServed : s.mdu.trip.wants = true → s.mdu.trip.enable = true
  closeServed : s.mdu.close.enable = true →
    s.mdu.trip.state = .ready ∧ closeChargingAllowed s.bcu.cls s.closeDemand = true
  timing : TimingHolds s

theorem State.noExit.timing {s : State} (h : s.noExit) : TimingHolds s := by
  obtain ⟨mid, tie, -⟩ := h
  exact ⟨mid, tie⟩

/-- The charger's assignment serves the stores by the policy, whatever it finds (R75, R76). -/
theorem Mdu.assignCharger_serves (m : Mdu) (now : Uptime) (allowed : Bool) :
    let n := m.assignCharger now allowed
    (n.trip.wants = true → n.trip.enable = true) ∧
      (n.close.enable = true → n.trip.state = .ready ∧ allowed = true) := by
  unfold Mdu.assignCharger
  dsimp only
  refine ⟨?_, fun on => ?_⟩
  · split
    · intro _
      unfold Store.assign
      split
      · assumption
      · rfl
    · next unwanted => exact fun wants => absurd wants unwanted
  · split at on
    · next given =>
      simp only [Bool.and_eq_true, Bool.not_eq_true', Store.isReady_iff] at given
      obtain ⟨⟨⟨unwanted, ready⟩, -⟩, allows⟩ := given
      exact ⟨by rw [unwanted]; exact ready, allows⟩
    · rw [Store.withdraw_off] at on
      cases on

/-- What the end of an event has nothing left to do to has its conditions. -/
theorem conditioned_of_settled {s : State} (h : Settled s) : Conditioned s ∧ CloseOff s.mdu := by
  obtain ⟨-, exits, -, test, charger, -⟩ := h
  have assigned : s.mdu.assignCharger s.now (closeChargingAllowed s.bcu.cls s.closeDemand) = s.mdu :=
    congrArg State.mdu charger
  obtain ⟨trip, close⟩ := s.mdu.assignCharger_serves s.now (closeChargingAllowed s.bcu.cls s.closeDemand)
  have off := s.mdu.assignCharger_closeOff s.now (closeChargingAllowed s.bcu.cls s.closeDemand)
  rw [assigned] at trip close off
  exact ⟨⟨test, trip, close, (s.rslExits_eq_self_iff.mp exits).timing⟩, off⟩

/-- `t` is `s` with at most the LNK, the transmit queue and what is on its way changed. -/
def OnlyRadio (s t : State) : Prop := ∃ k q x, t = { s with lnk := k, txq := q, transit := x }

theorem OnlyLink.onlyRadio {s t : State} (h : OnlyLink s t) : OnlyRadio s t := by
  obtain ⟨k, q, rfl⟩ := h
  exact ⟨k, q, s.transit, rfl⟩

theorem OnlyRadio.trans {s t u : State} (h : OnlyRadio s t) (k : OnlyRadio t u) : OnlyRadio s u := by
  obtain ⟨_, _, _, rfl⟩ := h
  obtain ⟨l, q, x, rfl⟩ := k
  exact ⟨l, q, x, rfl⟩

theorem State.endReception_onlyRadio (s : State) : OnlyRadio s s.endReception := by
  obtain ⟨_, _, x, h⟩ := s.endReception_frame
  exact ⟨_, s.txq, x, h⟩

theorem State.listenReview_onlyRadio (s : State) : OnlyRadio s s.listenReview := by
  obtain ⟨_, _, x, h⟩ := s.listenReview_frame
  exact ⟨_, s.txq, x, h⟩

theorem OnlyRadio.conditioned {s t : State} (h : OnlyRadio s t) (k : Conditioned s) : Conditioned t := by
  obtain ⟨_, _, _, rfl⟩ := h
  exact ⟨k.test, k.tripServed, k.closeServed, k.timing⟩

theorem OnlyRadio.tends {s t : State} (p : Prop) (h : OnlyRadio s t) : Tends p s t := by
  obtain ⟨_, _, _, rfl⟩ := h
  exact .of_stands p

theorem State.midpointCheck_timing {s : State} (h : TimingHolds s) : TimingHolds s.midpointCheck := by
  unfold State.midpointCheck
  split
  · split
    · exact ⟨nofun, nofun⟩
    · next t o other asked =>
      unfold State.restoreOpen at asked
      split at asked
      · cases asked
        exact absurd rfl other
      · cases asked
        exact h
  · exact h

/-- The entry test of WATCH enters TIMING under its conditions alone (R167, R170). -/
theorem State.rslEntry_timing {s : State} (h : TimingHolds s) : TimingHolds s.rslEntry := by
  unfold State.rslEntry
  split
  · split
    · next holds =>
      obtain ⟨holds, -⟩ := Bool.and_eq_true_iff.mp holds
      unfold State.midpointEnter
      dsimp only
      split
      · exact State.midpointCheck_timing ⟨fun _ => holds, nofun⟩
      · exact ⟨fun _ => holds, nofun⟩
    · exact h
  · split
    · split
      · next side _ holds => exact ⟨nofun, fun other entered => by cases entered; exact holds⟩
      · exact h
    · exact h
  · exact h

theorem State.rslExits_timing (s : State) : TimingHolds s.rslExits := by
  unfold State.rslExits
  split
  case h_1 state =>
    split
    · next holds => exact ⟨fun _ => holds, by simp [state]⟩
    · exact ⟨nofun, nofun⟩
  case h_2 side state =>
    split
    · next holds => exact ⟨by simp [state], fun other same => by cases state.symm.trans same; exact holds⟩
    · exact ⟨nofun, nofun⟩
  case h_3 state | h_4 state =>
    split
    · exact ⟨nofun, nofun⟩
    · simp [TimingHolds, state]
  all_goals next state => simp [TimingHolds, state]

theorem State.rslReview_timing (s : State) (b : RslInputs) (x : Bool) : TimingHolds (s.rslReview b x) := by
  have waits {u : State} (h : TimingHolds u) : TimingHolds (if u.classAllowsRestore then u else u.stopWait) := by
    split
    · exact h
    · exact h
  have tests {u : State} (h : TimingHolds u) {p : Prop} [Decidable p] : TimingHolds (if p then u.rslEntry else u) := by
    split
    · exact State.rslEntry_timing h
    · exact h
  exact tests (waits (State.rslExits_timing _))

theorem State.abortReview_test (s : State) : s.abortReview.bcu.test = none ∨ s.abortReview.abortHolds = false := by
  unfold State.abortReview
  split
  · obtain ⟨-, -, -, -, bcu, -⟩ := s.abortTest_onlyQueue.stands
    rw [bcu]
    exact .inl rfl
  · next stands =>
    by_cases test : s.bcu.test = none
    · exact .inl test
    · exact .inr (by simpa [Option.isSome_iff_ne_none.mpr test] using stands)

/-- The charger's assignment leaves the READY stores that a test in progress needs (R75, R97). -/
theorem State.chargerReview_conditioned {s : State} (off : CloseOff s.mdu)
    (test : s.bcu.test = none ∨ s.abortHolds = false) (timing : TimingHolds s) : Conditioned s.chargerReview := by
  let allowed := closeChargingAllowed s.bcu.cls s.closeDemand
  obtain ⟨trip, close⟩ := s.mdu.assignCharger_serves s.now allowed
  refine ⟨test.imp_right fun holds => ?_, trip, close, timing⟩
  simp only [State.abortHolds, Bool.or_eq_false_iff, Bool.not_eq_false', Bool.and_eq_true, Store.isReady_iff] at holds ⊢
  obtain ⟨others, tripReady, closeReady⟩ := holds
  have tripKept : (s.mdu.assignCharger s.now allowed).trip = s.mdu.trip :=
    if_neg (by simp [Store.wants_of_ready tripReady])
  have closeKept := Mdu.assignCharger_of_ready (id := .close) closeReady (off closeReady) s.now allowed
  refine ⟨others, ?_, ?_⟩
  · exact (congrArg Store.state tripKept).trans tripReady
  · exact (congrArg Store.state closeKept).trans closeReady

/-- The end of an event leaves every condition, whatever the event has done to the rest. -/
theorem State.settle_conditioned {s : State} (off : CloseOff s.mdu) (b : RslInputs) (x : Bool) :
    Conditioned (s.settle b x) := by
  refine (State.listenReview_onlyRadio _).conditioned (State.chargerReview_conditioned ?_ ?_ ?_)
  · exact ((tends_of_outside True (s.rslReview_outside b x)).trans (State.abortReview_tends True _)).closeOff off
  · exact State.abortReview_test _
  · obtain ⟨_, h⟩ := (s.rslReview b x).abortReview_frame
    obtain ⟨_, _, _, _, h⟩ := h
    rw [h]
    exact s.rslReview_timing b x

end Sys2Proof.Machine
end

section
/-! What the operations of the mechanism, the measurement chain, the battery, the tags and the frames keep for the
battery (R86, R97). -/

namespace Sys2Proof.Machine

open Sys2Proof.Safety

/-! ### Guards -/

section
variable {p : Prop} {s : State}

theorem ifRuns_tends {t : State → Option Timer} {f : State → State} (h : Tends p s (f s)) :
    Tends p s (ifRuns t f s) := by
  unfold ifRuns
  split
  · exact h
  · exact .refl p s

theorem withAbort_tends {f : State → State} (h : ∀ u, Tends p u (f u)) : Tends p s (withAbort f s) := by
  have drawn : Tends p s { s with free := s.free + 1 } := .of_stands p
  obtain e | e | e := withAbort_cases f s <;> rw [e]
  · exact h s
  · exact drawn.trans ((State.abortTest_tends p _).trans (h _))
  · exact drawn.trans ((h _).trans (State.abortTest_tends p _))

theorem onArrival_tends {α : Type} {pick : Report → Option α} {f : α → State → State}
    (h : ∀ a u, Tends p u (f a u)) : Tends p s (onArrival pick f s) := by
  unfold onArrival
  split
  · exact (h _ _).after (.of_stands p)
  · exact .refl p s

theorem eitherOrder_tends {f g : State → State} (hf : ∀ u, Tends p u (f u)) (hg : ∀ u, Tends p u (g u)) :
    Tends p s (eitherOrder f g s) :=
  eitherOrder_keeps (Tends p s) f g s (.of_stands p) (fun u k => k.trans (hf u)) (fun u k => k.trans (hg u))

theorem onFrame_tends {α : Type} {pick : Frame → Option α} {f : α → Uptime → State → State}
    (h : ∀ a u t, Tends p t (f a u t)) : Tends p s (onFrame pick f s) := by
  unfold onFrame
  split
  · next r _ _ =>
    split
    · next m _ =>
      split
      · next a _ =>
        obtain ⟨l, x, e⟩ := s.heard_frame r.arrival (.accepted m)
        rw [e]
        exact (h a r.arrival _).after (.of_stands p)
      · exact .refl p s
    · exact .refl p s
  · exact .refl p s

end

/-! ### The mechanism (R64 to R70, R74, R77) -/

section
variable (p : Prop) (s : State)

theorem State.confirmOpen_tends : Tends p s s.confirmOpen := by
  refine .of_stands p (q := ?_)
  change (s.rtm.items.countOpen _ _).q = _
  unfold Retained.countOpen
  split <;> rfl

theorem State.confirmClosed_tends : Tends p s s.confirmClosed := .of_stands p

theorem State.failTrip_tends : Tends p s s.failTrip := .of_stands p

theorem State.pulseEnd_tends : Tends p s s.pulseEnd := by
  unfold State.pulseEnd
  split
  · exact .of_stands p (close := by simp)
  · exact s.failTrip_tends p
  · exact .refl p s

theorem State.storeWaitEnd_tends : Tends p s s.storeWaitEnd := by
  unfold State.storeWaitEnd
  split
  · exact s.failTrip_tends p
  · exact .refl p s

theorem State.openSeen_tends : Tends p s s.openSeen := by
  unfold State.openSeen
  split
  · exact s.confirmOpen_tends p
  · exact .refl p s

theorem State.closedSeen_tends : Tends p s s.closedSeen := by
  unfold State.closedSeen
  split
  · exact s.confirmClosed_tends p
  · exact .refl p s

theorem State.closePulseEnd_tends : Tends p s s.closePulseEnd := by
  unfold State.closePulseEnd
  split
  · exact .of_stands p
  · exact .refl p s

theorem State.contacts_tends (o c : Bool) : Tends p s (s.contacts o c) := by
  have read : Tends p s { s with mdu := { s.mdu with openC := some o, closedC := some c } } := .of_stands p
  have moved (u : State) (x : Position) : Tends p u (u.moved x) := by
    unfold State.moved
    dsimp only
    split <;> exact .of_stands p
  have published (u : State) (x : Position) : Tends p u { u with mdu := u.mdu.publish x } := .of_stands p
  unfold State.contacts
  dsimp only
  split
  · exact .refl p s
  · split
    · exact read
    · split
      · exact read.trans (moved _ _)
      · split
        · exact read.trans (State.confirmOpen_tends p _)
        · exact read.trans (published _ _)
      · split
        · exact read.trans (State.confirmClosed_tends p _)
        · exact read.trans (published _ _)

theorem State.faultTimerOver_tends : Tends p s s.faultTimerOver := by
  rw [State.faultTimerOver_eq]
  exact .of_stands p

theorem State.firstPosition_tends (x : Position) : Tends p s (s.firstPosition x) := by
  have started (u : State) : (u.startState x).outside = u.outside := by
    cases x with
    | closed => exact u.enter_outside _ _
    | opened => exact u.enter_outside _ _
    | unknown => exact u.enterStuck_outside _
  unfold State.firstPosition
  split
  · exact (tends_of_outside p (started _)).after (.of_stands p)
  · exact .refl p s

theorem State.firstContacts_tends (o c : Bool) : Tends p s (s.firstContacts o c) := by
  unfold State.firstContacts
  split
  · exact (State.firstPosition_tends p _ _).after (.of_stands p)
  · exact .refl p s

/-- A change of the stores that leaves no READY close store a charge. -/
theorem tends_of_stores {t : State} (m : Mdu) (h : t = { s with mdu := m }) (off : CloseOff s.mdu → CloseOff m) :
    Tends p s t := by
  subst h
  exact ⟨rfl, rfl, id, off, fun _ k => k.imp id fun a => ⟨a.noTest, a.attempt, a.due, a.retry, a.mode⟩⟩

theorem State.readyReading_tends (id : StoreId) (active : Bool) : Tends p s (s.readyReading id active) := by
  have read : Tends p s { s with mdu := (s.mdu.withStore id (·.readInput active)).driveWhenReady s.now } := by
    refine tends_of_stores p s _ rfl fun off => ?_
    rw [CloseOff]
    rw [show ((s.mdu.withStore id (·.readInput active)).driveWhenReady s.now).close =
      (s.mdu.withStore id (·.readInput active)).close from Mdu.driveWhenReady_store _ _ .close]
    cases id with
    | trip => exact off
    | close => exact Store.readInput_off active
  unfold State.readyReading
  split
  · exact .refl p s
  · dsimp only
    split
    · exact read.trans (tends_of_outside p (State.storeReady_outside _))
    · exact read

theorem State.chargeOver_tends (id : StoreId) : Tends p s (s.chargeOver id) := by
  refine tends_of_stores p s _ rfl fun off => ?_
  cases id with
  | trip => exact off
  | close => exact fun _ => rfl

theorem State.retryOver_tends (id : StoreId) : Tends p s (s.retryOver id) := by
  refine tends_of_stores p s _ rfl fun off => ?_
  cases id with
  | trip => exact off
  | close => exact off

/-! ### The measurement chain and the second (R9, R16, R19, R81 to R92) -/

theorem State.halfCycle_tends : Tends p s s.halfCycle := by
  rw [State.halfCycle_eq]
  exact (tends_of_outside p (State.evaluate_outside _ _)).after (.of_stands p)

theorem State.changeHealth_tends (f : Health Attribute → Health Attribute) : Tends p s (s.changeHealth f) :=
  ((s.changeHealth_onlyQueue f).tends p).after (.of_stands p)

/-- A charger mode entered that is not TEST. -/
theorem State.charger_tends {m : ChargerMode} (h : m ≠ .test) : Tends p s (s.charger m) :=
  SameTest.tends p { mode := fun _ => h }

theorem State.chargerExit_tends (mV : Int) : Tends p s (s.chargerExit mV) := by
  unfold State.chargerExit
  split
  · split
    · exact s.charger_tends p nofun
    · exact .refl p s
  · split
    · have full (u : State) : Tends p u (u.retain fun r => { r with q := u.stl.tables.qcap, qUncertain := false }) :=
        ⟨rfl, rfl, fun _ => le_refl _, fun c => c, fun _ h => h.imp (fun n => n) fun a =>
          ⟨a.noTest, a.attempt, a.due, a.retry, a.mode⟩⟩
      exact (s.charger_tends p (m := .float) nofun).trans (full _)
    · split
      · exact (s.charger_tends p (m := .float) nofun).trans (State.changeHealth_tends p _ _)
      · exact .refl p s
  · split
    · exact s.charger_tends p nofun
    · exact .refl p s
  · exact .refl p s
  · exact .refl p s

theorem State.chargerStep_tends (m : Mean) : Tends p s (s.chargerStep m) := by
  have counted : SameTest s.bcu (Bcu.count
      { s.bcu with duty := dutyStep s.stl.image s.bcu.mode m.mV m.mA s.bcu.duty } s.stl.image m.mV m.mA) := by
    unfold Bcu.count
    split <;> exact {}
  exact (counted.tends p).trans (State.chargerExit_tends p _ _)

/-- The charge counted stays within the capacity (R86). -/
theorem State.countCharge_tends (m : Mean) : Tends p s (s.countCharge m) where
  stl := by unfold State.countCharge; split <;> rfl
  now := by unfold State.countCharge; split <;> rfl
  charge h := by
    have counted := State.countCharge_q h m
    omega
  closeOff := by unfold State.countCharge; split <;> exact id
  test _ h := by
    unfold State.countCharge
    split
    · exact h
    · exact h.imp id fun a => ⟨a.noTest, a.attempt, a.due, a.retry, a.mode⟩

theorem State.publishClass_tends (k : ReserveClass) : Tends p s (s.publishClass k) := by
  have decided : Tends p s { s with bcu := { s.bcu with cls := some k } } := SameTest.tends p {}
  have stopped (u : State) : OnlyLink u { u with txq := { u.txq with period := none } } := ⟨_, _, rfl⟩
  exact decided.trans ((State.abortReview_tends p _).trans
    (((State.takePower_onlyLink _ _).trans ((stopped _).trans (State.startPeriod_onlyLink _))).tends p))

theorem State.evaluateClass_tends (m : Mean) : Tends p s (s.evaluateClass m) := by
  have formed (soc : Option Nat) (run : Nat) :
      Tends p s { s with bcu := { s.bcu with soc := soc, cutoffRun := run } } := SameTest.tends p {}
  have published (u : State) (q : Prop) [Decidable q] (k : ReserveClass) :
      Tends p u (if q then u else u.publishClass k) := by
    split
    · exact .refl p u
    · exact u.publishClass_tends p k
  have cutoff (u : State) (q : Prop) [Decidable q] :
      Tends p u (if q then eitherOrder (·.changeHealth addDeepDischarge) State.classCutoff u else u) := by
    split
    · exact eitherOrder_tends (fun v => v.changeHealth_tends p _) fun v => tends_of_outside p v.classCutoff_outside
    · exact .refl p u
  exact (formed _ _).trans ((published _ _ _).trans (cutoff _ _))

/-- The test in progress keeps its loaded mean, and none begins (R95). -/
theorem sameTest_keepLoaded {b : Bcu} {m : Mean} : b.test ≠ none ↔ (b.keepLoaded m).test ≠ none := by
  simp [Bcu.keepLoaded]

theorem tends_of_keepLoaded {t : State} (m : Mean) (d : Nat)
    (h : t = { s with bcu := { s.bcu with daySeconds := d }.keepLoaded m }) : Tends p s t := by
  subst h
  exact ⟨rfl, rfl, id, id, fun _ k => k.imp sameTest_keepLoaded.mp fun a =>
    ⟨by simp [Bcu.keepLoaded, a.noTest], a.attempt, a.due, a.retry, a.mode⟩⟩

theorem State.oneSecond_tends : Tends p s s.oneSecond := by
  have delivered (u : State) (m : Mean) : Tends p u { u with bcu := { u.bcu with latestMean := some m } } :=
    SameTest.tends p {}
  have second (u : State) (m : Mean) : Tends p u (u.batterySecond m) :=
    (delivered u m).trans ((State.chargerStep_tends p _ m).trans ((State.countCharge_tends p _ m).trans
      ((State.evaluateClass_tends p _ m).trans (tends_of_keepLoaded p _ m _ rfl))))
  exact (second _ _).after (.of_stands p)

/-! ### The test (R92 to R98) -/

theorem State.beginTest_tends (src : TestSource) : Tends p s (s.beginTest src) := by
  have drawn : Tends p s (s.meanOr s.bcu.latestMean).2 := by
    cases s.bcu.latestMean <;> exact .of_stands p
  exact drawn.trans (tends_of_running rfl rfl rfl rfl fun _ _ => nofun)

/-- A change of the battery where the test does not count. -/
theorem tends_untested {p : Prop} {s t : State} (hp : ¬p) (stl : t.stl = s.stl := by rfl)
    (now : t.now = s.now := by rfl) (close : t.mdu.close = s.mdu.close := by rfl)
    (q : t.rtm.items.q = s.rtm.items.q := by rfl) : Tends p s t :=
  tends_of_running stl now close q fun h => absurd h hp

theorem State.scheduledAttempt_tends (hp : ¬p) : Tends p s s.scheduledAttempt := by
  unfold State.scheduledAttempt
  split
  · exact s.beginTest_tends p _
  · exact tends_untested hp

theorem State.scheduledAttempt_test (h : s.bcu.test ≠ none) : s.scheduledAttempt.bcu.test ≠ none := by
  unfold State.scheduledAttempt
  split
  · nofun
  · exact h

/-- With test due set, as an abort leaves it, a rollover makes no attempt (R92, R97). -/
theorem State.rollDay_tends : Tends p s s.rollDay := by
  have counted (n : Nat) : Tends p s
      (State.retain { s with bcu := { s.bcu with daySeconds := 0 } } fun r => { r with daysSinceTest := n }) :=
    .trans (t := { s with bcu := { s.bcu with daySeconds := 0 } }) (SameTest.tends p {}) (.of_stands p)
  have attempted (n : Nat) : Tends False s (State.scheduledAttempt (State.retain
      { s with bcu := { s.bcu with daySeconds := 0, testDue := true } } fun r => { r with daysSinceTest := n })) :=
    (State.scheduledAttempt_tends False _ id).after (tends_untested id)
  unfold State.rollDay
  dsimp only
  split
  · next falls =>
    have notDue : s.bcu.testDue = false := by simpa using (Bool.and_eq_true_iff.mp falls).2
    have running (h : Tested s) : s.bcu.test ≠ none := h.resolve_right fun a => by simp [a.due] at notDue
    split
    · exact { (attempted _).trans (tends_untested id) with
        test := fun _ h => .inl (sameTest_keepLoaded.mp (State.scheduledAttempt_test _ (running h))) }
    · exact { attempted _ with test := fun _ h => .inl (State.scheduledAttempt_test _ (running h)) }
  · exact counted _

theorem State.testRetryOver_tends (hp : ¬p) : Tends p s s.testRetryOver := by
  unfold State.testRetryOver
  dsimp only
  split
  · exact (tends_untested hp).trans (State.scheduledAttempt_tends p _ hp)
  · exact tends_untested hp

theorem State.loadOver_tends (hp : ¬p) : Tends p s s.loadOver := by
  have drawn (m : Option Mean) : Tends p s (s.meanOr m).2 := by
    cases m <;> exact .of_stands p
  have applied (u : State) (r : TestResult) : Tends p u (u.applyResult r) := by
    have queue (b : Prop) [Decidable b] :
        OnlyQueue (u.judged r) (if b then (u.judged r).askBattery else u.judged r) := by
      split
      · exact State.askBattery_onlyQueue _
      · exact .refl _
    rw [State.applyResult_eq]
    dsimp only
    obtain ⟨_, _, _, _, told⟩ := queue (u.poor = false ∧ (u.judged r).poor = true)
    rw [told]
    exact ((State.askBattery_onlyQueue _).tends p).after (tends_untested hp)
  unfold State.loadOver
  split
  · next t _ => exact (drawn t.loaded).trans (applied _ _)
  · exact .refl p s

theorem State.supplyReading_tends (active : Bool) : Tends p s (s.supplyReading active) := by
  have read : Tends p s { s with bcu := { s.bcu with supplyRead := true } } := SameTest.tends p {}
  have supplied (u : State) : Tends p u { u with bcu := { u.bcu with supplyOk := active } } := SameTest.tends p {}
  have changed (u : State) : Tends p u (u.supplyChanged active) := by
    unfold State.supplyChanged
    dsimp only
    split
    · split
      · exact (supplied u).trans (State.charger_tends p _ nofun)
      · exact supplied u
    · split
      · exact (supplied u).trans (State.abortTest_tends p _)
      · exact (supplied u).trans (State.charger_tends p _ nofun)
  unfold State.supplyReading
  dsimp only
  split
  · exact read
  · exact read.trans (changed _)

theorem State.testAsked_tends : Tends p s s.testAsked.1 := by
  unfold State.testAsked
  split
  · exact .refl p s
  · exact s.beginTest_tends p _

/-! ### The tags (R154, R158 to R162) -/

theorem State.changeTags_tends (on : Bool) {answer : State → State} (h : ∀ u, Tends p u (answer u))
    {f : Retained → Retained} (hf : ∀ r, (f r).q = r.q) : Tends p s (s.changeTags on answer f) := by
  have written : Tends p s (State.retain { s with tgt := { s.tgt with hotlineOn := on } } f) :=
    .of_stands p (q := hf _)
  have asked (u : State) : Tends p u (answer u).askTagNotice :=
    (h u).trans ((State.askTagNotice_onlyQueue _).tends p)
  unfold State.changeTags
  dsimp only
  split
  · exact written.trans (eitherOrder_tends asked fun u => tends_of_outside p (u.lockDead_outside _))
  · exact written.trans (asked _)

theorem State.hotlineReading_tends (on : Bool) : Tends p s (s.hotlineReading on) := by
  have changed : Tends p s (s.hotlineChanged on) := by
    unfold State.hotlineChanged
    split
    all_goals
      refine (State.changeTags_tends p _ _ (Tends.refl p) ?_).after (.of_stands p)
      exact fun _ => rfl
  unfold State.hotlineReading
  split
  · exact .of_stands p
  · split
    · exact .refl p s
    · exact changed

theorem State.answerTags_tends (r : CrewRequest) (o : RequestOutcome) {f : Option (Retained → Retained)}
    (hf : ∀ g ∈ f, ∀ r : Retained, (g r).q = r.q) : Tends p s (s.answerTags r o f) := by
  have answered (u : State) : Tends p u (u.askResult r.crew r.kind o) := (u.askResult_onlyQueue _ _ _).tends p
  cases f with
  | some f => exact s.changeTags_tends p _ answered (hf f rfl)
  | none => exact answered s

theorem State.placeRequest_tends (r : CrewRequest) : Tends p s (s.placeRequest r) := by
  unfold State.placeRequest
  split
  · exact s.answerTags_tends p _ _ nofun
  · refine s.answerTags_tends p _ _ fun g hg => ?_
    obtain ⟨_, -, rfl⟩ := Option.map_eq_some_iff.mp hg
    exact fun _ => rfl

theorem State.removeRequest_tends (r : CrewRequest) : Tends p s (s.removeRequest r) := by
  unfold State.removeRequest
  split
  · exact s.answerTags_tends p _ _ (by rintro _ ⟨⟩ _; rfl)
  · exact s.answerTags_tends p _ _ nofun

theorem State.clearRequest_tends (r : CrewRequest) : Tends p s (s.clearRequest r) := by
  unfold State.clearRequest
  split
  · exact s.answerTags_tends p _ _ (by rintro _ ⟨⟩ _; rfl)
  · exact s.answerTags_tends p _ _ nofun

/-! ### Frames and requests (R108, R109, R137, R156) -/

theorem State.peerFrame_tends (id : Nat) (a : Uptime) (g : Option Segments) (f : PeerEntry → PeerEntry) :
    Tends p s (s.peerFrame id a g f) := by
  unfold State.peerFrame
  split
  · exact (tends_of_outside p (State.rslCheck_outside _)).after (.of_stands p)
  · exact .refl p s

theorem State.rejectFrame_tends : Tends p s s.rejectFrame := by
  unfold State.rejectFrame
  split
  · next r _ _ =>
    split
    · exact .refl p s
    · obtain ⟨l, x, e⟩ := s.heard_frame r.arrival (s.classOf r)
      rw [e]
      exact .of_stands p
  · exact .refl p s

theorem State.statusNow_tends (r : CrewRequest) : Tends p s (s.statusNow r) := by
  have rearmed (u : State) : u.rearmLive.outside = u.outside := by
    unfold State.rearmLive
    split <;> simp
  exact ((s.askResult_onlyQueue _ _ _).trans (State.statusDemand_onlyQueue _ _)).tends p |>.trans
    (tends_of_outside p (rearmed _))

end

end Sys2Proof.Machine
end

section
/-! What every command keeps for the battery, and the statements over all commands and steps (R75, R76, R86, R97, R98,
R167, R170). -/

namespace Sys2Proof.Machine

open Sys2Proof.Safety Sys2Proof.Claims

/-! ### Events -/

/-- `t` is what a command makes of `s`: it keeps what counts for the battery, and where `s` has the conditions of a
settled station, `t` has them. -/
structure Ended (p : Prop) (s t : State) : Prop extends Tends p s t where
  conditioned : CloseOff s.mdu → Conditioned s → Conditioned t

theorem Ended.refl (p : Prop) (s : State) : Ended p s s := ⟨.refl p s, fun _ h => h⟩

theorem Ended.trans {p : Prop} {s t u : State} (h : Ended p s t) (k : Ended p t u) : Ended p s u :=
  ⟨h.toTends.trans k.toTends, fun off c => k.conditioned (h.closeOff off) (h.conditioned off c)⟩

section
variable {p : Prop} {s : State}

/-- What an event has done settles into the conditions. -/
theorem settle_ended {t : State} (h : Tends p s t) (b : RslInputs) (x : Bool) : Ended p s (t.settle b x) :=
  ⟨h.trans (t.settle_tends p b x), fun off _ => State.settle_conditioned (h.closeOff off) b x⟩

theorem event_ended {f : State → State} (h : Tends p s (f s)) : Ended p s (event f s) := settle_ended h _ _

/-- The radio is no part of the conditions. -/
theorem OnlyRadio.ended {t : State} (h : OnlyRadio s t) : Ended p s t := ⟨h.tends p, fun _ => h.conditioned⟩

theorem linkEvent_ended {f : State → State} (h : OnlyRadio s (f s)) : Ended p s (linkEvent f s) :=
  (h.trans (State.listenReview_onlyRadio _)).ended

theorem whenDue_ended {d : State → Bool} {f : State → State} (h : Ended p s (f s)) : Ended p s (whenDue d f s) := by
  unfold whenDue
  split
  · exact h
  · exact .refl p s

/-- A sample or a bit leaves the voltage states, which alone of the measurement chain the conditions read. -/
theorem ended_of_sfe (f : Sfe) (vs : f.vs = s.sfe.vs) (vl : f.vl = s.sfe.vl) : Ended p s { s with sfe := f } := by
  refine ⟨.of_stands p, fun _ k => ⟨k.test, k.tripServed, k.closeServed, ?_⟩⟩
  obtain ⟨mid, tie⟩ := k.timing
  refine ⟨fun state => ?_, fun side state => ?_⟩
  · have holds := mid state
    rw [State.midpointHolds, ← vs] at holds
    exact holds
  · have holds := tie side state
    rw [State.tieHolds, State.deadSide, ← vs, ← vl] at holds
    exact holds

end

/-! ### The measurement chain (R1 to R16, R92) -/

section
variable (p : Prop) (s : State)

theorem State.halfCycleEvent_ended : Ended p s s.halfCycleEvent :=
  event_ended (withAbort_tends (State.halfCycle_tends p))

theorem State.dayEvent_ended : Ended p s s.dayEvent := event_ended (s.rollDay_tends p)

theorem State.secondEvent_ended : Ended p s s.secondEvent :=
  (whenDue_ended (s.dayEvent_ended p)).trans (event_ended (State.oneSecond_tends p _))

theorem State.sampleEvent_ended : Ended p s s.sampleEvent := by
  have half (u : State) : Ended p u (whenDue State.halfDue State.halfCycleEvent u) :=
    whenDue_ended (u.halfCycleEvent_ended p)
  have second (u : State) : Ended p u (whenDue State.secondDue State.secondEvent u) :=
    whenDue_ended (u.secondEvent_ended p)
  have voltages (f : Sfe) (aI aV : Nat) : (f.sample aI aV).vs = f.vs ∧ (f.sample aI aV).vl = f.vl := by
    unfold Sfe.sample
    dsimp only
    split <;> exact ⟨rfl, rfl⟩
  obtain ⟨vs, vl⟩ := voltages (whenDue State.secondDue State.secondEvent
    (whenDue State.halfDue State.halfCycleEvent s)).sfe _ _
  exact ((half s).trans (second _)).trans (ended_of_sfe _ vs vl)

theorem State.bitsEvent_ended (b : Byte) : Ended p s (s.bitsEvent b) :=
  (whenDue_ended (s.sampleEvent_ended p)).trans (ended_of_sfe _ rfl rfl)

end

/-! ### Every command -/

theorem whenUp_ended {p : Prop} {f : State → State} {s t : State} (h : whenUp f s = .next t)
    (k : Ended p s (f s)) : Ended p s t := by
  rw [whenUp_next.mp h]
  split
  · exact k
  · exact .refl p s

theorem whenUp_event_ended {p : Prop} {f : State → State} {s t : State} (h : whenUp (event f) s = .next t)
    (k : Tends p s (f s)) : Ended p s t := whenUp_ended h (event_ended k)

/-- A command of the sequence, the operations or the restoration logic, which leaves their outside. -/
theorem whenUp_outside_ended {p : Prop} {f : State → State} {s t : State} (h : whenUp (event f) s = .next t)
    (k : (f s).outside = s.outside) : Ended p s t := whenUp_event_ended h (tends_of_outside p k)

theorem whenUp_arrival_ended {p : Prop} {α : Type} {pick : Report → Option α} {f : α → State → State} {s t : State}
    (h : whenUp (event (onArrival pick f)) s = .next t) (k : ∀ a u, (f a u).outside = u.outside) : Ended p s t :=
  whenUp_event_ended h (onArrival_tends fun a u => tends_of_outside p (k a u))

theorem whenUp_link_ended {p : Prop} {f : State → State} {s t : State} (h : whenUp (linkEvent f) s = .next t)
    (k : OnlyLink s (f s)) : Ended p s t := whenUp_ended h (linkEvent_ended k.onlyRadio)

theorem ifRuns_outside {r : State → Option Timer} {f : State → State} {s : State}
    (h : (f s).outside = s.outside) : (ifRuns r f s).outside = s.outside := by
  unfold ifRuns
  split
  · exact h
  · rfl

/-- No command but the two that judge or retry a test ends one otherwise than by its abort, and every command leaves
the conditions of a settled station. -/
theorem exec_ended {i : Instr} {s t : State} (hi : ofStart i = false) (h : exec i s = .next t) :
    Ended (i ≠ .loadTimerExpiry ∧ i ≠ .testRetryExpiry) s t := by
  cases i with
  | restartInput | supplyReturn | settingsWordRead | settingsWordTimeout => exact Bool.noConfusion hi
  | modulatorBit b => exact whenUp_ended (f := (·.bitsEvent b)) h (s.bitsEvent_ended _ b)
  | decimatedSample => exact whenUp_ended h (whenDue_ended (s.sampleEvent_ended _))
  | halfCycleUpdate => exact whenUp_ended h (whenDue_ended (s.halfCycleEvent_ended _))
  | oneSecondUpdate => exact whenUp_ended h (whenDue_ended (s.secondEvent_ended _))
  | dayRollover => exact whenUp_ended h (whenDue_ended (s.dayEvent_ended _))
  | tripRequest => exact whenUp_arrival_ended h fun r u => u.takeTripRequest_outside r
  | sequenceStep => exact whenUp_arrival_ended h fun _ u => u.takeStep_outside
  | openConfirmation => exact whenUp_arrival_ended h fun ms u => u.takeOpen_outside ms
  | tripFail => exact whenUp_arrival_ended h fun _ u => u.takeTripFail_outside
  | closeConfirmation => exact whenUp_arrival_ended h fun _ u => u.takeClosed_outside
  | closeFail => exact whenUp_arrival_ended h fun _ u => u.takeCloseFail_outside
  | unsolicitedClose => exact whenUp_arrival_ended h fun _ u => u.externalClose_outside
  | unsolicitedOpen =>
    exact whenUp_event_ended h (withAbort_tends fun _ => onArrival_tends fun d u =>
      tends_of_outside _ (u.takeUnsolicitedOpen_outside d))
  | positionFault =>
    exact whenUp_event_ended h (withAbort_tends fun _ => onArrival_tends fun _ u =>
      tends_of_outside _ u.takePositionFault_outside)
  | openSeen => exact whenUp_event_ended h (s.openSeen_tends _)
  | pulseLimitExpiry => exact whenUp_event_ended h (ifRuns_tends (s.pulseEnd_tends _))
  | storeWaitExpiry => exact whenUp_event_ended h (ifRuns_tends (s.storeWaitEnd_tends _))
  | closedSeen => exact whenUp_event_ended h (s.closedSeen_tends _)
  | closePulseLimitExpiry => exact whenUp_event_ended h (ifRuns_tends (s.closePulseEnd_tends _))
  | positionChange o c => exact whenUp_event_ended h (s.contacts_tends _ o c)
  | positionFaultTimerExpiry => exact whenUp_event_ended h (ifRuns_tends (s.faultTimerOver_tends _))
  | firstPosition o c => exact whenUp_event_ended h (s.firstContacts_tends _ o c)
  | firstPositionTimeout => exact whenUp_event_ended h (s.firstPosition_tends _ _)
  | handleChange d => exact whenUp_outside_ended h (s.handleReading_outside d)
  | readyInputChange id a => exact whenUp_event_ended h (s.readyReading_tends _ id a)
  | chargeLimitExpiry id => exact whenUp_event_ended h (ifRuns_tends (s.chargeOver_tends _ id))
  | retryTimerExpiry id => exact whenUp_event_ended h (ifRuns_tends (s.retryOver_tends _ id))
  | deadTimerExpiry => exact whenUp_outside_ended h (ifRuns_outside s.deadOver_outside)
  | energyWaitExpiry => exact whenUp_outside_ended h (ifRuns_outside (s.toLockout_outside _))
  | reclaimExpiry => exact whenUp_outside_ended h (ifRuns_outside s.reclaimOver_outside)
  | closeDemandExpiry | rslStoreWaitExpiry => exact whenUp_outside_ended h (ifRuns_outside rfl)
  | panelTrip => exact whenUp_outside_ended h ((State.manualTrip_outside _ _).trans s.rearm_outside)
  | panelClose => exact whenUp_outside_ended h (s.closeAsked_outside _)
  | nonrecloseChange on => exact whenUp_outside_ended h (s.nonrecloseReading_outside on)
  | supplyOkChange a => exact whenUp_event_ended h (s.supplyReading_tends _ a)
  | testRetryExpiry => exact whenUp_event_ended h (ifRuns_tends (s.testRetryOver_tends _ fun k => k.2 rfl))
  | loadTimerExpiry => exact whenUp_event_ended h (ifRuns_tends (s.loadOver_tends _ fun k => k.1 rfl))
  | frameRejected => exact whenUp_event_ended h (s.rejectFrame_tends _)
  | receiveStatus | receiveSeqEvent | receiveTagNotice | receivePeerReport =>
    exact whenUp_event_ended h (onFrame_tends fun _ _ u => u.peerFrame_tends _ _ _ _ _)
  | receivePickup =>
    exact whenUp_event_ended h (onFrame_tends fun _ _ u =>
      (u.peerFrame_tends _ _ _ _ _).trans ((State.startQuiet_onlyLink _ _ _).tends _))
  | crewTagPlace => exact whenUp_event_ended h (onFrame_tends fun r _ u => u.placeRequest_tends _ r)
  | crewTagRemove => exact whenUp_event_ended h (onFrame_tends fun r _ u => u.removeRequest_tends _ r)
  | crewClearUnknown => exact whenUp_event_ended h (onFrame_tends fun r _ u => u.clearRequest_tends _ r)
  | crewTrip =>
    exact whenUp_event_ended h (withAbort_tends fun _ => onFrame_tends fun _ _ u =>
      tends_of_outside _ (by simp [State.answer]))
  | crewClose => exact whenUp_event_ended h (onFrame_tends fun _ _ u => tends_of_outside _ (by simp [State.answer]))
  | crewStatusNow => exact whenUp_event_ended h (onFrame_tends fun r _ u => u.statusNow_tends _ r)
  | crewBatteryTest =>
    exact whenUp_event_ended h (onFrame_tends fun _ _ u =>
      (u.testAsked_tends _).trans ((State.askResult_onlyQueue _ _ _ _).tends _))
  | crewRequestNotActedOn => exact whenUp_event_ended h (onFrame_tends fun _ _ u => .refl _ u)
  | hotlineSwitchChange on => exact whenUp_event_ended h (s.hotlineReading_tends _ on)
  | ackTimerExpiry => exact whenUp_event_ended h (ifRuns_tends (.of_stands _))
  | timeBaseSecond =>
    exact whenUp_ended h (settle_ended ((tends_of_outside _ (State.rslCheck_outside _)).after (.of_stands _)) _ _)
  | midpointTimerExpiry => exact whenUp_outside_ended h (ifRuns_outside s.midpointOver_outside)
  | tieTimerExpiry => exact whenUp_outside_ended h (ifRuns_outside s.tieOver_outside)
  | serialByteArrival b =>
    refine whenUp_ended h (linkEvent_ended ?_)
    unfold State.serialByte
    dsimp only
    split
    · split
      · exact .trans ⟨_, s.txq, s.transit, rfl⟩ (State.endReception_onlyRadio _)
      · exact ⟨_, s.txq, s.transit, rfl⟩
    · exact (OnlyLink.refl s).onlyRadio
  | receptionGapExpiry => exact whenUp_ended h (linkEvent_ended s.endReception_onlyRadio)
  | busyChange a =>
    cases h
    split
    · exact linkEvent_ended (s.busyLevel_onlyLink a).onlyRadio
    · exact OnlyRadio.ended ⟨_, s.txq, s.transit, rfl⟩
  | collideActive => exact whenUp_link_ended h s.collided_onlyLink
  | gapExpiry => exact whenUp_link_ended h s.gapOver_onlyLink
  | backoffExpiry => exact whenUp_link_ended h s.backoffOver_onlyLink
  | sendEnd => exact whenUp_link_ended h s.sendOver_onlyLink
  | warmUpExpiry => exact whenUp_link_ended h (ifRuns_onlyLink s s.warmUpOver_onlyLink)
  | listenWindowOpen => exact whenUp_link_ended h s.openWindow_onlyLink
  | listenWindowClose => exact whenUp_link_ended h s.closeWindow_onlyLink
  | listenHoldLimit | linkTimerExpiry => exact whenUp_link_ended h (ifRuns_onlyLink s ⟨_, _, rfl⟩)
  | quietTimerExpiry => exact whenUp_link_ended h (ifRuns_onlyLink s s.quietOver_onlyLink)
  | pickupLifeExpiry => exact whenUp_link_ended h s.pickupLifeOver_onlyLink
  | statusPeriodExpiry => exact whenUp_link_ended h (ifRuns_onlyLink s s.periodOver_onlyLink)

end Sys2Proof.Machine
end

section
/-! The conditions of a test, of the charger and of TIMING after every command (R75, R76, R97, R98, R167, R170). -/

namespace Sys2Proof.Machine

open Sys2Proof.Safety Sys2Proof.Claims

/-- A command at a calm station leaves its conditions. -/
theorem exec_conditioned {i : Instr} {s t : State} (calm : Calm s) (hi : ofStart i = false) (h : exec i s = .next t) :
    Conditioned t := by
  obtain ⟨-, settled⟩ := calm
  obtain ⟨conditions, off⟩ := conditioned_of_settled settled
  exact (exec_ended hi h).conditioned off conditions

/-- An expiry of the retry timer ends no test but by its abort (R93, R97). -/
theorem testRetry_tested {s t : State} (up : s.up = true) (h : exec .testRetryExpiry s = .next t)
    (test : s.bcu.test ≠ none) : Tested t := by
  have retried (u : State) (running : u.bcu.test ≠ none) : u.testRetryOver.bcu.test ≠ none := by
    unfold State.testRetryOver
    dsimp only
    split
    · exact State.scheduledAttempt_test _ running
    · exact running
  have event : t = event (ifRuns (·.bcu.retryTimer) State.testRetryOver) s := by
    rw [whenUp_next.mp h, if_pos up]
  rw [event]
  refine (State.settle_tends True _ _ _).test trivial (.inl ?_)
  unfold ifRuns
  split
  · exact retried s test
  · exact test

theorem testNeedsItsConditions : TestNeedsItsConditions := by
  intro i s t calm h hi
  refine ⟨fun test => ?_, fun test ended other => ?_⟩
  · have holds := (exec_conditioned calm hi h).test.resolve_left test
    simp only [State.abortHolds, Bool.or_eq_false_iff, Bool.not_eq_false', Bool.and_eq_true, Store.isReady_iff,
      decide_eq_false_iff_not, ne_eq, not_not] at holds
    obtain ⟨⟨⟨⟨pickup, state⟩, supply⟩, cls⟩, trip, close⟩ := holds
    exact ⟨pickup, state, supply, cls, trip, close⟩
  · have tested : Tested t := by
      by_cases retry : i = .testRetryExpiry
      · subst retry
        obtain ⟨up, -⟩ := calm
        exact testRetry_tested up h test
      · exact (exec_ended hi h).test ⟨other, retry⟩ (.inl test)
    have aborted := tested.resolve_left fun running => running ended
    exact ⟨aborted.attempt, aborted.due, aborted.retry, aborted.mode⟩

/-- The close store is charged in NORMAL and ECONOMY, and in PROTECT_ONLY on demand (R76). -/
theorem closeChargingAllowed_iff (cls : Option ReserveClass) (demand : Bool) :
    closeChargingAllowed cls demand = true ↔
      cls = some .normal ∨ cls = some .economy ∨ (cls = some .protectOnly ∧ demand = true) := by
  unfold closeChargingAllowed
  split <;> simp

theorem chargerServesByPolicy : ChargerServesByPolicy := by
  intro i s t calm h hi
  have conditions := exec_conditioned calm hi h
  refine ⟨conditions.tripServed, fun on => ?_⟩
  obtain ⟨ready, allowed⟩ := conditions.closeServed on
  refine ⟨ready, ((closeChargingAllowed_iff _ _).mp allowed).imp_right (Or.imp_right (And.imp_right fun demand => ?_))⟩
  simpa [State.closeDemand, or_assoc, Option.isSome_iff_ne_none] using demand

theorem State.tieHolds_iff (s : State) (side : Side) :
    s.tieHolds side = true ↔ s.sqc.state = some .lockout ∧ s.deadSide = some side ∧ s.rsl.inhibit = none := by
  simp only [State.tieHolds, Bool.and_eq_true, decide_eq_true_iff, Option.isNone_iff_eq_none, and_assoc]

theorem State.deadSide_up (s : State) :
    s.deadSide = some .up ↔ s.sfe.vs.state = .dead ∧ s.sfe.vl.state = .live := by
  unfold State.deadSide
  split
  · next up => simp [up]
  · next other =>
    refine iff_of_false ?_ other
    split <;> nofun

theorem State.deadSide_dn (s : State) :
    s.deadSide = some .dn ↔ s.sfe.vl.state = .dead ∧ s.sfe.vs.state = .live := by
  unfold State.deadSide
  split
  · next up => simp [up]
  · split
    · next dn => simp [dn]
    · next other => exact iff_of_false nofun other

theorem timingNeedsItsConditions : TimingNeedsItsConditions := by
  intro i s t calm h hi
  obtain ⟨mid, tie⟩ := (exec_conditioned calm hi h).timing
  refine ⟨fun state => ?_, fun state => ?_, fun state => ?_⟩
  · have holds := mid state
    simp only [State.midpointHolds, Bool.and_eq_true, decide_eq_true_iff, Bool.not_eq_true', Option.isNone_iff_eq_none]
      at holds
    obtain ⟨⟨⟨closed, dead⟩, pickup⟩, inhibit⟩ := holds
    exact ⟨dead, closed, pickup, inhibit⟩
  · obtain ⟨lockout, side, inhibit⟩ := (State.tieHolds_iff _ _).mp (tie _ state)
    obtain ⟨dead, live⟩ := t.deadSide_up.mp side
    exact ⟨dead, live, lockout, inhibit⟩
  · obtain ⟨lockout, side, inhibit⟩ := (State.tieHolds_iff _ _).mp (tie _ state)
    obtain ⟨dead, live⟩ := t.deadSide_dn.mp side
    exact ⟨dead, live, lockout, inhibit⟩

/-- Settles O14: every command ends in what settles, the test's abort, the charger's assignment and the exits of TIMING
among it, or leaves what they read. -/
theorem testChargerTiming : Obligations.TestChargerTiming :=
  ⟨testNeedsItsConditions, chargerServesByPolicy, timingNeedsItsConditions⟩

end Sys2Proof.Machine
end

section
/-! The charge of the battery over every step and at every one-second update (R83, R86, R92). -/

namespace Sys2Proof.Machine

open Sys2Proof.Safety Sys2Proof.Claims

/-! ### The bounds of the charge (R86) -/

/-- A start clamps the charge it finds to the new capacity (R186). -/
theorem State.bringUp_charge (s : State) (b : List Word16) :
    (s.bringUp b).rtm.items.q ≤ (s.bringUp b).stl.tables.qcap := by
  have formed : (s.bringUp b).outside = _ := (State.statusDemand_onlyQueue _ .start).outside
  have stl : (s.bringUp b).stl = freeze b := congrArg Outside.stl formed
  have rtm : (s.bringUp b).rtm = retainTest s.rtm (freeze b).tables.qcap (freeze b).image.wearLimit :=
    congrArg Outside.rtm formed
  rw [stl, rtm]
  exact Nat.min_le_left _ _

/-- A command of a start leaves the part reading its block, or brings it up (R178). -/
theorem exec_start_charge {i : Instr} {s t : State} (sound : ChargeSound s) (hi : ofStart i = true)
    (h : exec i s = .next t) : ChargeSound t := by
  have word (w : Word16) : ChargeSound (s.takeWord w) := by
    unfold State.takeWord
    split
    · split
      · intro up
        simp [State.up] at up
      · exact fun _ => s.bringUp_charge _
    · exact sound
  cases i with
  | restartInput | supplyReturn =>
    cases h
    intro up
    simp [State.up, State.startOver] at up
  | settingsWordRead w => cases h; exact word w
  | settingsWordTimeout => cases h; exact word _
  | _ => exact Bool.noConfusion hi

theorem exec_charge {i : Instr} {s t : State} (sound : ChargeSound s) (h : exec i s = .next t) : ChargeSound t := by
  cases hi : ofStart i with
  | true => exact exec_start_charge sound hi h
  | false =>
    have kept := (exec_ended hi h).toTends
    intro up
    rw [State.up, kept.stl] at up
    rw [kept.stl]
    exact kept.charge (sound up)

theorem chargeHolds : ChargeHolds := by
  intro s t sound h
  obtain ⟨i, rest, -, ran⟩ | rfl := step_cases h
  · exact exec_charge (s := { s with pending := rest }) sound ran
  · unfold State.idle
    split
    · split <;> exact sound
    · exact sound

/-! ### A rollover taken before the second (R92, log entry 23) -/

/-- What a rollover leaves of a calm station: an event of the battery beside the link and the supply, a test beginning
under its preconditions, and the charge and the tail run of ABSORB as they were. -/
structure DayRolled (s t : State) : Prop extends BatteryEvent s t where
  lnk : t.lnk = s.lnk := by rfl
  supply : t.bcu.supplyOk = s.bcu.supplyOk := by rfl
  test : s.bcu.test = none → t.bcu.test = none ∨ s.abortHolds = false := by exact .inl
  q : t.rtm.items.q = s.rtm.items.q := by rfl
  tail : t.bcu.mode = .absorb ∧ 59 ≤ t.bcu.tailRun ↔ s.bcu.mode = .absorb ∧ 59 ≤ s.bcu.tailRun := by exact .rfl

theorem BatteryEvent.trans {s t u : State} (h : BatteryEvent s t) (k : BatteryEvent t u) : BatteryEvent s u :=
  ⟨k.sfe.trans h.sfe, k.peu.trans h.peu, k.sqc.trans h.sqc, k.mdu.trans h.mdu, k.rsl.trans h.rsl, k.stl.trans h.stl,
    k.clock.trans h.clock, k.cls.trans h.cls, k.idClash.trans h.idClash⟩

theorem DayRolled.trans {s t u : State} (h : DayRolled s t) (k : DayRolled t u) : DayRolled s u where
  toBatteryEvent := h.toBatteryEvent.trans k.toBatteryEvent
  lnk := k.lnk.trans h.lnk
  supply := k.supply.trans h.supply
  test none := (h.test none).elim (fun still => (k.test still).imp_right (h.abortHolds h.supply).symm.trans) .inr
  q := k.q.trans h.q
  tail := k.tail.trans h.tail

/-- The attempt that a rollover makes begins a test in FLOAT alone, under its preconditions (R93). -/
theorem State.scheduledAttempt_dayRolled (s : State) : DayRolled s s.scheduledAttempt := by
  unfold State.scheduledAttempt
  split
  · next bar =>
    have may := (testBar_eq_none_iff s).mp (Option.isNone_iff_eq_none.mp bar)
    have holds := abortHolds_of_mayBegin may
    obtain ⟨-, -, float, -⟩ := may
    have tail (m : ChargerMode) (h : m ≠ .absorb) (n : Nat) :
        m = .absorb ∧ 59 ≤ n ↔ s.bcu.mode = .absorb ∧ 59 ≤ s.bcu.tailRun := by
      simp [h, float]
    unfold State.beginTest
    cases s.bcu.latestMean with
    | none => exact { test := fun _ => .inr holds, tail := tail .test nofun 0 }
    | some m => exact { test := fun _ => .inr holds, tail := tail .test nofun 0 }
  · exact {}

theorem State.rollDay_dayRolled (s : State) : DayRolled s s.rollDay := by
  have attempted (n : Nat) : DayRolled s (State.scheduledAttempt (State.retain
      { s with bcu := { s.bcu with daySeconds := 0, testDue := true } } fun r => { r with daysSinceTest := n })) :=
    .trans {} (State.scheduledAttempt_dayRolled _)
  unfold State.rollDay
  dsimp only
  split
  · split
    · refine (attempted _).trans { test := fun none => .inl ?_ }
      exact Option.map_eq_none_iff.mpr none
    · exact attempted _
  · exact {}

/-- Nothing settles after a rollover at a calm station. -/
theorem dayEvent_dayRolled {s : State} (settled : Settled s) : DayRolled s s.dayEvent := by
  have rolled := s.rollDay_dayRolled
  have settles : s.dayEvent = s.rollDay := by
    obtain ⟨-, -, -, aborts, -, listens⟩ := id settled
    refine rolled.settle settled ?_ (by rwa [rolled.lnk])
    rw [rolled.abortHolds rolled.supply]
    exact aborts.elim rolled.test .inr
  rwa [settles]

/-! ### The charge at a second (R83, R86) -/

theorem chargeCounted : ChargeCounted := by
  intro s calm due hq mA tail q
  obtain ⟨up, settled⟩ := calm
  let u := whenDue State.dayDue State.dayEvent s
  have rolled : DayRolled s u := by
    unfold u whenDue
    split
    · exact dayEvent_dayRolled settled
    · exact {}
  have run : exec .oneSecondUpdate s = .next (event State.oneSecond u) := by
    change whenUp (whenDue State.secondDue State.secondEvent) s = _
    rw [whenUp_of_up up, whenDue_of_due (State.secondDue_eq_true.mpr due)]
    rfl
  have bound : u.rtm.items.q ≤ u.stl.tables.qcap := by rwa [rolled.q, rolled.stl]
  have charged := State.chargedSecond_q (s := { u with sfe := u.sfe.oneSecond u.now }) bound
    (u.sfe.means u.stl.image.vbGain u.stl.image.ibGain u.now)
  have mean : (u.sfe.means u.stl.image.vbGain u.stl.image.ibGain u.now).mA = mA := by
    rw [rolled.sfe, rolled.stl]
    rfl
  have tails : (u.bcu.mode = .absorb && (mA < u.stl.image.iTail && 59 ≤ u.bcu.tailRun) : Bool) = tail := by
    have same := rolled.tail
    rw [rolled.stl, Bool.eq_iff_iff]
    simp only [tail, Bool.and_eq_true, decide_eq_true_iff]
    tauto
  rw [← u.oneSecondEvent_taken.q] at charged
  dsimp only at charged
  rw [mean, tails, rolled.stl, rolled.q] at charged
  exact ⟨_, run, charged⟩

/-- Settles O27: every command keeps the bounds, a start making them anew; and a second counts its current from the
charge that a rollover before it and a tail end leave. -/
theorem chargeKept : Obligations.ChargeKept := ⟨chargeHolds, chargeCounted⟩

end Sys2Proof.Machine
end

section
/-! The reserve class and the health values as functions of what they are formed from (R88, R90, R99, R100). -/

namespace Sys2Proof.Machine

open Sys2Proof.Safety Sys2Proof.Claims

/-! ### The class (R88, R90) -/

/-- The entry conditions of the classes, the worst first (R88). -/
theorem worstEntered_eq (c : Settings) (i : ClassInputs) : worstEntered c i =
    if i.cutoffReached then .cutoff
    else if (i.uncertain = false ∧ i.soc < 30) ∨ i.mV < c.vProt then .protectOnly
    else if (i.uncertain = false ∧ i.soc < 60) ∨ i.mV < c.vEcon then .economy
    else .normal := by
  simp only [worstEntered, Bool.or_eq_true, Bool.and_eq_true, Bool.not_eq_true', decide_eq_true_eq]

/-- The leave conditions of the classes (R88). -/
theorem leaves_iff (c : Settings) (i : ClassInputs) (p : ReserveClass) : leaves c i p = true ↔
    match p with
    | .normal => False
    | .economy => (i.uncertain = true ∨ 70 ≤ i.soc) ∧ (c.vEcon : Int) + 200 ≤ i.mV
    | .protectOnly => (i.uncertain = true ∨ 40 ≤ i.soc) ∧ (c.vProt : Int) + 200 ≤ i.mV
    | .cutoff => (c.vCut : Int) + 500 ≤ i.mV ∧ i.supplyOk = true := by
  cases p <;> simp [leaves]

/-- A class that may be left is worse than the worst class entered, CUTOFF as long as it is not reached anew. -/
theorem worst_lt_of_leaves {c : Settings} {i : ClassInputs} {p : ReserveClass} (h : leaves c i p = true)
    (le : (worstEntered c i).code ≤ p.code) (cutoff : i.cutoffReached = true → p ≠ .cutoff) :
    (worstEntered c i).code + 1 ≤ p.code := by
  rw [leaves_iff] at h
  rw [worstEntered_eq] at le ⊢
  cases p with
  | normal => exact h.elim
  | economy | protectOnly =>
    obtain ⟨soc, mV⟩ := h
    split_ifs at le ⊢ with reached protects economy
    all_goals simp only [ReserveClass.code] at le ⊢
    all_goals grind
  | cutoff =>
    have anew : i.cutoffReached = false := Bool.eq_false_iff.mpr fun reached => cutoff reached rfl
    simp only [anew, Bool.false_eq_true, if_false]
    split_ifs <;> simp [ReserveClass.code]

/-- The class moves up by exactly one. -/
theorem ReserveClass.better_code (p : ReserveClass) : p.better.code = max 1 (p.code - 1) := by cases p <;> rfl

theorem classMovesOneUp : ClassMovesOneUp := by
  intro c i p worst better
  have worst_eq : worstEntered c i = worst := worstEntered_eq c i
  have better_eq : better = if leaves c i p then some p.better else none := by
    cases p <;> simp [better, leaves, ReserveClass.better]
  have after : classAfter c i (some p) = if p.code < worst.code then worst else better.getD p := by
    rw [classAfter, worst_eq, better_eq, apply_ite (Option.getD · p)]
    rfl
  refine ⟨worst_eq, after, ?_, fun cutoff => ?_⟩
  · rw [classAfter]
    split_ifs
    · omega
    · rw [p.better_code]
      omega
    · omega
  · rw [classAfter, worst_eq]
    split_ifs with worse leave
    · exact le_rfl
    · have lt := worst_lt_of_leaves leave (by rw [worst_eq]; omega) cutoff
      rw [worst_eq] at lt
      rw [p.better_code]
      have := p.better_code
      omega
    · omega

/-! ### The health values (R99, R100) -/

/-- A value that falls by a multiple of its raw. -/
theorem fallingValue_bounds {n m : Nat} (k : Nat) (h : n ≤ m) :
    1 ≤ max 1 (200 - k * n) ∧ max 1 (200 - k * n) ≤ 200 ∧ max 1 (200 - k * m) ≤ max 1 (200 - k * n) := by
  have := Nat.mul_le_mul_left k h
  omega

theorem resistanceValue_bounds (r : Nat) {n m : Nat} (h : n ≤ m) :
    1 ≤ resistanceValue r n ∧ resistanceValue r n ≤ 200 ∧ resistanceValue r m ≤ resistanceValue r n := by
  have loss : 100 * (n - r) / r ≤ 100 * (m - r) / r :=
    Nat.div_le_div_right (Nat.mul_le_mul_left 100 (Nat.sub_le_sub_right h r))
  unfold resistanceValue
  generalize 100 * (n - r) / r = x at loss ⊢
  generalize 100 * (m - r) / r = y at loss ⊢
  split_ifs <;> omega

theorem healthValuesInRange : HealthValuesInRange := by
  intro r n m a hr hnm
  have renewed : a.renew n m = ⟨n, m, if a.worst ≤ m then a.worst else m⟩ := by
    rw [Attribute.renew, min_def]
  exact ⟨rfl, rfl, rfl, rfl, renewed, resistanceValue_bounds r hnm, fallingValue_bounds 60 hnm,
    fallingValue_bounds 20 hnm, fallingValue_bounds 25 hnm⟩

end Sys2Proof.Machine
end

section
/-! What asking for a frame leaves of the link: the entry being sent and its access, the radio and the status period
(R114, R120, R124 to R127). -/

namespace Sys2Proof.Machine

open Sys2Proof.Safety Sys2Proof.Claims

/-! ### The entry being sent -/

/-- The entry being sent is in the list and in flight, and no two entries bear one join order. -/
structure SendListed (l : Lnk) (q : Txq) : Prop where
  listed : l.access = .sending → ∃ e ∈ q.entries, l.selected = some e.order ∧ e.inFlight = true
  nodup : (q.entries.map Entry.order).Nodup
  below : ∀ e ∈ q.entries, e.order < q.nextOrder

theorem sendListed_of_sound {s : State} (queue : QueueSound s) (radio : RadioSound s) : SendListed s.lnk s.txq := by
  obtain ⟨-, -, -, -, nodup, below⟩ := queue
  obtain ⟨-, -, -, -, sends⟩ := radio
  refine ⟨fun sending => ?_, nodup, below⟩
  obtain ⟨e, selected, flies⟩ := (Option.any_eq_true _ _).mp (sends sending)
  obtain ⟨mem, order⟩ := State.selectedEntry_mem selected
  exact ⟨e, mem, order, flies⟩

theorem insertEntry_perm (e : Entry) (l : List Entry) : (insertEntry e l).Perm (e :: l) := by
  induction l with
  | nil => exact .refl _
  | cons x xs ih =>
    unfold insertEntry
    split
    · exact (ih.cons x).trans (.swap e x xs)
    · exact .refl _

/-- A new entry bears the next join order. -/
theorem SendListed.insert {l : Lnk} {q : Txq} (h : SendListed l q) {e : Entry} (order : e.order = q.nextOrder) :
    SendListed l { q with entries := insertEntry e q.entries, nextOrder := q.nextOrder + 1 } where
  listed sending := by
    obtain ⟨x, mem, selected⟩ := h.listed sending
    exact ⟨x, (mem_insertEntry ..).mpr (.inr mem), selected⟩
  nodup := by
    refine (((insertEntry_perm e q.entries).map Entry.order).nodup_iff).mpr (List.nodup_cons.mpr ⟨?_, h.nodup⟩)
    rintro dup
    obtain ⟨x, mem, same⟩ := List.mem_map.mp dup
    have := h.below x mem
    omega
  below x mem := by
    obtain rfl | mem := (mem_insertEntry ..).mp mem
    · exact order ▸ Nat.lt_succ_self _
    · exact Nat.lt_succ_of_lt (h.below x mem)

/-- An entry changed in place keeps its join order and whether it is in flight. -/
theorem SendListed.change {l : Lnk} {q : Txq} (h : SendListed l q) (n : Nat) {f : Entry → Entry}
    (kept : ∀ e, (f e).order = e.order ∧ (f e).inFlight = e.inFlight) : SendListed l (q.change n f) := by
  have same (e : Entry) : (if e.order = n then f e else e).order = e.order ∧
      (if e.order = n then f e else e).inFlight = e.inFlight := by
    split
    · exact kept e
    · exact ⟨rfl, rfl⟩
  have orders : (q.change n f).entries.map Entry.order = q.entries.map Entry.order := by
    simp only [Txq.change_entries, List.map_map]
    exact List.map_congr_left fun e _ => (same e).1
  refine ⟨fun sending => ?_, orders ▸ h.nodup, fun e mem => ?_⟩
  · obtain ⟨e, mem, selected, flies⟩ := h.listed sending
    obtain ⟨order, flight⟩ := same e
    exact ⟨_, List.mem_map_of_mem mem, selected.trans (congrArg some order.symm), flight.trans flies⟩
  · obtain ⟨x, stood, rfl⟩ := List.mem_map.mp mem
    exact lt_of_eq_of_lt (same x).1 (h.below x stood)

/-- An entry taken out that is not the one being sent. -/
theorem SendListed.remove {l : Lnk} {q : Txq} (h : SendListed l q) {n : Nat} (other : l.selected ≠ some n) :
    SendListed l (q.remove n) where
  listed sending := by
    obtain ⟨e, mem, selected, flies⟩ := h.listed sending
    have stays : e.order ≠ n := fun same => other (same ▸ selected)
    exact ⟨e, List.mem_filter.mpr ⟨mem, by simpa using stays⟩, selected, flies⟩
  nodup := h.nodup.sublist (List.filter_sublist.map _)
  below e mem := h.below e (List.mem_filter.mp mem).1

/-- Overflow never looks at the entry being sent (R125). -/
theorem SendListed.not_sending {l : Lnk} {q : Txq} (h : SendListed l q) {v : Entry} (mem : v ∈ q.entries)
    (waits : v.inFlight = false) (selected : l.selected = some v.order) : l.access ≠ .sending := by
  intro sending
  obtain ⟨e, listed, order, flies⟩ := h.listed sending
  have same : e = v := List.inj_on_of_nodup_map h.nodup listed mem (Option.some.inj (order.symm.trans selected))
  rw [same, waits] at flies
  exact Bool.noConfusion flies

theorem Txq.evicts_mem {q : Txq} {p : Nat} {v : Entry} (h : q.evicts p = some v) :
    v ∈ q.entries ∧ v.inFlight = false := by
  unfold Txq.evicts at h
  split at h
  · next victim =>
    split at h
    · cases h
      exact Txq.victim_mem victim
    · cases h
  · cases h

/-! ### What an asking leaves of the link -/

/-- What askings leave of the link: the radio, the random generator, the status period, a send in progress, and, with
the radio off, an access in IDLE. -/
structure LinkAsked (s t : State) : Prop where
  lnk : ∃ a o x r h, t.lnk =
    { s.lnk with access := a, selected := o, slot := x, reception := r, holdLimit := h }
  period : t.txq.period = s.txq.period
  sends : SendListed s.lnk s.txq → SendListed t.lnk t.txq ∧ (t.lnk.access = .sending ↔ s.lnk.access = .sending)
  idle : s.lnk.power = .off → s.lnk.access = .idle → t.lnk.access = .idle

theorem LinkAsked.of_stands {s t : State} (lnk : t.lnk = s.lnk) (txq : t.txq = s.txq) : LinkAsked s t where
  lnk := ⟨s.lnk.access, s.lnk.selected, s.lnk.slot, s.lnk.reception, s.lnk.holdLimit, lnk⟩
  period := congrArg Txq.period txq
  sends listed := by rw [lnk, txq]; exact ⟨listed, .rfl⟩
  idle _ idle := by rwa [lnk]

theorem LinkAsked.trans {s t u : State} (h : LinkAsked s t) (k : LinkAsked t u) : LinkAsked s u := by
  obtain ⟨_, _, _, _, _, lnk⟩ := h.lnk
  obtain ⟨a, o, x, r, l, lnk'⟩ := k.lnk
  refine ⟨⟨a, o, x, r, l, by rw [lnk', lnk]⟩, k.period.trans h.period, fun listed => ?_, fun off idle => ?_⟩
  · obtain ⟨listed, same⟩ := h.sends listed
    obtain ⟨listed, same'⟩ := k.sends listed
    exact ⟨listed, same'.trans same⟩
  · exact k.idle (by rw [lnk]; exact off) (h.idle off idle)

/-- What changes neither the link nor the queue may come first. -/
theorem LinkAsked.after {s u t : State} (h : LinkAsked u t) (lnk : u.lnk = s.lnk) (txq : u.txq = s.txq) :
    LinkAsked s t := (LinkAsked.of_stands lnk txq).trans h

/-- Only the transmit queue's list changes. -/
theorem LinkAsked.of_txq {s : State} {q : Txq} (period : q.period = s.txq.period)
    (listed : SendListed s.lnk s.txq → SendListed s.lnk q) : LinkAsked s { s with txq := q } where
  lnk := ⟨s.lnk.access, s.lnk.selected, s.lnk.slot, s.lnk.reception, s.lnk.holdLimit, rfl⟩
  period := period
  sends h := ⟨listed h, .rfl⟩
  idle _ idle := idle

section Ask
variable (s : State)

/-- With the radio off the search selects nothing (R114). -/
theorem State.search_linkAsked : LinkAsked s s.search := by
  unfold State.search
  split
  · next free =>
    split
    · next e found =>
      have eligible := List.find?_some found
      refine ⟨⟨_, _, _, s.lnk.reception, s.lnk.holdLimit, rfl⟩, rfl, fun listed => ?_, fun off => ?_⟩
      · exact ⟨⟨nofun, listed.nodup, listed.below⟩, by simp [free]⟩
      · simp [Lnk.eligible, off, RadioPower.selects] at eligible
    · exact .of_stands rfl rfl
  · exact .of_stands rfl rfl

/-- An access that ends without a send. -/
theorem State.returnSelected_linkAsked (h : SendListed s.lnk s.txq → s.lnk.access ≠ .sending) :
    LinkAsked s s.returnSelected := by
  refine LinkAsked.trans (t := { s with lnk := s.lnk.released }) ?_ (State.search_linkAsked _)
  refine ⟨⟨_, _, _, s.lnk.reception, s.lnk.holdLimit, rfl⟩, rfl, fun listed => ?_, fun _ _ => rfl⟩
  exact ⟨⟨nofun, listed.nodup, listed.below⟩, by simp [Lnk.released, h listed]⟩

/-- An entry that overflow evicts (R125). -/
theorem State.dropEntry_linkAsked {v : Entry} (mem : v ∈ s.txq.entries) (waits : v.inFlight = false) :
    LinkAsked s (s.dropEntry v.order) := by
  unfold State.dropEntry
  split
  · next selected =>
    refine LinkAsked.trans (t := { s with lnk := s.lnk.released, txq := s.txq.remove v.order }) ?_
      (State.search_linkAsked _)
    refine ⟨⟨_, _, _, s.lnk.reception, s.lnk.holdLimit, rfl⟩, rfl, fun listed => ?_, fun _ _ => rfl⟩
    have removed : SendListed s.lnk.released (s.txq.remove v.order) :=
      SendListed.remove ⟨by simp [Lnk.released], listed.nodup, listed.below⟩ (Option.some_ne_none _).symm
    exact ⟨removed, by simp [Lnk.released, listed.not_sending mem waits selected]⟩
  · next other => exact (LinkAsked.of_txq (q := s.txq.remove v.order) rfl (·.remove other)).trans (State.search_linkAsked _)

theorem State.afterJoin_linkAsked (p : Nat) : LinkAsked s (s.afterJoin p) := by
  unfold State.afterJoin
  split
  · split
    · next displaced =>
      refine s.returnSelected_linkAsked fun _ sending => ?_
      simp [sending] at displaced
    · exact s.search_linkAsked
  · exact s.search_linkAsked

theorem State.join_linkAsked (c : Content) : LinkAsked s (s.join c) :=
  .trans (t := { s with
      txq := { s.txq with
        entries := insertEntry (s.newEntry c) s.txq.entries, nextOrder := s.txq.nextOrder + 1 } })
    (.of_txq rfl (·.insert rfl)) (State.afterJoin_linkAsked _ _)

theorem State.joinStatus_linkAsked (r : Reasons) : LinkAsked s (s.joinStatus r) := by
  unfold State.joinStatus
  split
  · exact s.join_linkAsked _
  · split
    · next evicts =>
      obtain ⟨mem, waits⟩ := Txq.evicts_mem evicts
      exact (s.dropEntry_linkAsked mem waits).trans (State.join_linkAsked _ _)
    · exact .of_stands rfl rfl

theorem State.statusDemand_linkAsked (r : Reason) : LinkAsked s (s.statusDemand r) := by
  unfold State.statusDemand
  split
  · exact s.joinStatus_linkAsked _
  · split
    · exact .of_txq rfl fun listed => ⟨listed.listed, listed.nodup, listed.below⟩
    · refine .of_txq rfl (·.change _ fun e => ?_)
      split <;> exact ⟨rfl, rfl⟩

theorem State.joinFrame_linkAsked (c : Content) : LinkAsked s (s.joinFrame c) := by
  unfold State.joinFrame
  split
  · exact s.join_linkAsked c
  · split
    · next evicts =>
      obtain ⟨mem, waits⟩ := Txq.evicts_mem evicts
      exact ((s.dropEntry_linkAsked mem waits).trans (State.join_linkAsked _ _)).trans
        (State.statusDemand_linkAsked _ _)
    · exact s.statusDemand_linkAsked _

theorem State.askSeqEvent_linkAsked (k : EventKind) : LinkAsked s (s.askSeqEvent k) :=
  (s.joinFrame_linkAsked _).trans (State.statusDemand_linkAsked _ _)

theorem State.askBattery_linkAsked : LinkAsked s s.askBattery := by
  unfold State.askBattery
  split
  · exact s.joinFrame_linkAsked _
  · split
    · exact .of_txq rfl fun listed => ⟨listed.listed, listed.nodup, listed.below⟩
    · exact .of_txq rfl (·.change _ fun _ => ⟨rfl, rfl⟩)

end Ask

end Sys2Proof.Machine
end

section
/-! The charger of the battery at a second, and what follows the decision of the class in it (R82, R83, R97, R100). -/

namespace Sys2Proof.Machine

open Sys2Proof.Safety Sys2Proof.Claims

/-! ### What follows the class -/

/-- The charger's mode with its duty and the counts of its modes. -/
def Bcu.chargerCounts (b : Bcu) : ChargerMode × Nat × Nat × Nat × Nat × Nat :=
  (b.mode, b.duty, b.absorbSeconds, b.tailRun, b.floatSeconds, b.lowFloatRun)

/-- What the end of a second leaves of the BCU: SoC, the class, the cutoff run, a duty of 0, and, with no test to abort,
the charger. -/
structure BatteryStands (s t : State) : Prop where
  soc : t.bcu.soc = s.bcu.soc := by rfl
  cls : t.bcu.cls = s.bcu.cls := by rfl
  run : t.bcu.cutoffRun = s.bcu.cutoffRun := by rfl
  duty : s.bcu.duty = 0 → t.bcu.duty = 0 := by exact id
  charger : s.bcu.test = none → t.bcu.test = none ∧ t.bcu.chargerCounts = s.bcu.chargerCounts := by
    exact fun none => ⟨none, rfl⟩

theorem BatteryStands.of_bcu {s t : State} (h : t.bcu = s.bcu) : BatteryStands s t where
  soc := by rw [h]
  cls := by rw [h]
  run := by rw [h]
  duty zero := by rwa [h]
  charger none := by rw [h]; exact ⟨none, rfl⟩

theorem BatteryStands.trans {s t u : State} (h : BatteryStands s t) (k : BatteryStands t u) : BatteryStands s u where
  soc := k.soc.trans h.soc
  cls := k.cls.trans h.cls
  run := k.run.trans h.run
  duty zero := k.duty (h.duty zero)
  charger none := by
    obtain ⟨none, counts⟩ := h.charger none
    obtain ⟨none, counts'⟩ := k.charger none
    exact ⟨none, counts'.trans counts⟩

theorem OnlyLink.batteryStands {s t : State} (h : OnlyLink s t) : BatteryStands s t := by
  obtain ⟨_, _, rfl⟩ := h
  exact {}

theorem OnlyQueue.batteryStands {s t : State} (h : OnlyQueue s t) : BatteryStands s t := h.onlyLink.batteryStands

/-- What follows the class leaves the BCU, and of the link what askings leave. -/
structure ClassStands (s t : State) : Prop extends BatteryStands s t, LinkAsked s t

theorem ClassStands.of_stands {s t : State} (bcu : t.bcu = s.bcu) (lnk : t.lnk = s.lnk) (txq : t.txq = s.txq) :
    ClassStands s t := ⟨.of_bcu bcu, .of_stands lnk txq⟩

theorem ClassStands.trans {s t u : State} (h : ClassStands s t) (k : ClassStands t u) : ClassStands s u :=
  ⟨h.toBatteryStands.trans k.toBatteryStands, h.toLinkAsked.trans k.toLinkAsked⟩

section Ops
variable (s : State)

theorem State.askBattery_classStands : ClassStands s s.askBattery :=
  ⟨s.askBattery_onlyQueue.batteryStands, s.askBattery_linkAsked⟩

theorem State.changeHealth_classStands (f : Health Attribute → Health Attribute) :
    ClassStands s (s.changeHealth f) := by
  have retained : ClassStands s (s.retain fun r => { r with health := f r.health }) := .of_stands rfl rfl rfl
  unfold State.changeHealth
  dsimp only
  split
  · exact retained.trans (State.askBattery_classStands _)
  · exact retained

theorem State.abortReview_classStands : ClassStands s s.abortReview := by
  unfold State.abortReview
  split
  · next aborts =>
    obtain ⟨running, -⟩ := (Bool.and_eq_true ..).mp aborts
    refine ClassStands.trans (t := { s with bcu := s.bcu.aborted s.now }) ?_ (State.askBattery_classStands _)
    refine ⟨{ duty := fun _ => rfl, charger := fun none => ?_ }, .of_stands rfl rfl⟩
    rw [none] at running
    exact Bool.noConfusion running
  · exact .of_stands rfl rfl rfl

theorem State.enter_linkAsked (x : SeqState) (c : Option Cause) : LinkAsked s (s.enter x c) := by
  obtain ⟨_, h, -⟩ := s.enter_frame x c
  rw [h]
  exact .of_stands rfl rfl

theorem State.toLockout_linkAsked (c : Cause) : LinkAsked s (s.toLockout c) := by
  unfold State.toLockout
  refine .trans ?_ (State.askSeqEvent_linkAsked _ _)
  exact (State.enter_linkAsked _ _ _).after rfl rfl

theorem State.classCutoff_classStands : ClassStands s s.classCutoff := by
  refine ⟨.of_bcu (congrArg Outside.bcu s.classCutoff_outside), ?_⟩
  unfold State.classCutoff
  dsimp only
  split
  · exact (State.toLockout_linkAsked _ _).after rfl rfl
  · exact .of_stands rfl rfl

theorem State.settle_classStands (b : RslInputs) (x : Bool) : ClassStands s (s.settle b x) := by
  obtain ⟨bcu, lnk, txq, -⟩ := s.rslReview_stands b x
  have reviewed := (ClassStands.of_stands bcu lnk txq).trans (State.abortReview_classStands _)
  refine (reviewed.trans (u := (s.rslReview b x).abortReview.chargerReview)
    (.of_stands (State.chargerReview_bcu _) rfl rfl)).trans ?_
  obtain ⟨r, h, _, heard⟩ := State.listenReview_frame (s.rslReview b x).abortReview.chargerReview
  rw [State.settle, heard]
  exact ⟨{}, ⟨_, _, _, r, h, rfl⟩, rfl, fun listed => ⟨⟨listed.listed, listed.nodup, listed.below⟩, .rfl⟩, fun _ => id⟩

end Ops

/-! ### The class decided (R87 to R91) -/

/-- SoC at an evaluation (R87). -/
def State.nextSoc (s : State) : Nat := stateOfCharge s.stl.tables.qcap s.rtm.items.q s.poor

/-- The test that stands in for the voltage at an evaluation (R91). -/
def State.shield (s : State) : Option RunningTest :=
  if socEndsTest s.nextSoc s.rtm.items.qUncertain then none else s.bcu.test

/-- The cutoff run after an evaluation (R89). -/
def State.nextRun (s : State) (m : Mean) : Nat :=
  cutoffRunAfter s.stl.image.vCut s.shield.isSome m.mV s.bcu.cutoffRun

/-- What an evaluation of the class is formed from (R88). -/
def State.classInputs (s : State) (m : Mean) : ClassInputs where
  soc := s.nextSoc
  uncertain := s.rtm.items.qUncertain
  mV := match s.shield with
    | some t => t.v0
    | none => m.mV
  supplyOk := s.bcu.supplyOk
  cutoffReached := s.nextRun m = 10 && s.bcu.cutoffRun ≠ 10 && s.bcu.cls ≠ some .cutoff

/-- The class that an evaluation gives (R88, R90). -/
def State.nextClass (s : State) (m : Mean) : ReserveClass := classAfter s.stl.image (s.classInputs m) s.bcu.cls

/-- The state with SoC and the cutoff run, its class still to be published. -/
def State.measured (s : State) (m : Mean) : State :=
  { s with bcu := { s.bcu with soc := some s.nextSoc, cutoffRun := s.nextRun m } }

/-- The state with its class published where it changes. -/
def State.classed (s : State) (m : Mean) : State :=
  if s.bcu.cls = some (s.nextClass m) then s.measured m else (s.measured m).publishClass (s.nextClass m)

/-- An evaluation publishes a class that changes, and at the cutoff run counts a deep discharge. -/
theorem State.evaluateClass_eq (s : State) (m : Mean) : s.evaluateClass m =
    if (s.classInputs m).cutoffReached then
      eitherOrder (·.changeHealth addDeepDischarge) State.classCutoff (s.classed m)
    else s.classed m := rfl

/-- What the publishing of a class leaves of the BCU. -/
theorem State.publishClass_batteryStands (s : State) (c : ReserveClass) :
    BatteryStands { s with bcu := { s.bcu with cls := some c } } (s.publishClass c) := by
  have stopped (u : State) : OnlyLink u { u with txq := { u.txq with period := none } } := ⟨_, _, rfl⟩
  exact (State.abortReview_classStands _).toBatteryStands.trans
    ((State.takePower_onlyLink _ _).trans ((stopped _).trans (State.startPeriod_onlyLink _))).batteryStands

theorem State.classed_batteryStands (s : State) (m : Mean) :
    BatteryStands { s.measured m with bcu := { (s.measured m).bcu with cls := some (s.nextClass m) } }
      (s.classed m) := by
  unfold State.classed
  split
  · next same => exact { cls := same }
  · exact State.publishClass_batteryStands _ _

/-- What follows the class at an evaluation. -/
theorem State.evaluateClass_classStands (s : State) (m : Mean) : ClassStands (s.classed m) (s.evaluateClass m) := by
  rw [State.evaluateClass_eq]
  split
  · exact eitherOrder_keeps (ClassStands (s.classed m)) _ _ _ (.of_stands rfl rfl rfl)
      (fun u h => h.trans (u.changeHealth_classStands _)) (fun u h => h.trans u.classCutoff_classStands)
  · exact .of_stands rfl rfl rfl

/-- The BCU after an evaluation. -/
theorem State.evaluateClass_batteryStands (s : State) (m : Mean) :
    BatteryStands { s.measured m with bcu := { (s.measured m).bcu with cls := some (s.nextClass m) } }
      (s.evaluateClass m) :=
  (s.classed_batteryStands m).trans (s.evaluateClass_classStands m).toBatteryStands

/-- Publishing a class leaves the retained items. -/
theorem State.classed_rtm (s : State) (m : Mean) : (s.classed m).rtm = s.rtm := by
  have aborted (u : State) : u.abortReview.rtm = u.rtm := by
    obtain ⟨_, asked⟩ := u.abortReview_frame
    exact congrArg Outside.rtm asked.outside
  have stopped (u : State) : OnlyLink u { u with txq := { u.txq with period := none } } := ⟨_, _, rfl⟩
  have published (u : State) (c : ReserveClass) : (u.publishClass c).rtm = u.rtm :=
    (congrArg Outside.rtm ((State.takePower_onlyLink _ _).trans
      ((stopped _).trans (State.startPeriod_onlyLink _))).outside).trans (aborted _)
  unfold State.classed
  split
  · rfl
  · exact published _ _

/-- The retained items after an evaluation: at the cutoff run one more deep discharge (R89, R99). -/
theorem State.evaluateClass_items (s : State) (m : Mean) : (s.evaluateClass m).rtm.items =
    if (s.classInputs m).cutoffReached then
      { s.rtm.items with health := addDeepDischarge s.rtm.items.health }
    else s.rtm.items := by
  have counted (u : State) : (u.changeHealth addDeepDischarge).rtm.items =
      { u.rtm.items with health := addDeepDischarge u.rtm.items.health } := by
    obtain ⟨_, _, _, _, asked⟩ := u.changeHealth_onlyQueue addDeepDischarge
    rw [asked]
    rfl
  have locked (u : State) : u.classCutoff.rtm = u.rtm := congrArg Outside.rtm u.classCutoff_outside
  rw [State.evaluateClass_eq]
  split
  · obtain h | h := eitherOrder_cases (·.changeHealth addDeepDischarge) State.classCutoff (s.classed m)
    · rw [h, locked, counted]
      exact congrArg (fun r : Rtm => { r.items with health := addDeepDischarge r.items.health }) (s.classed_rtm m)
    · rw [h, counted, locked]
      exact congrArg (fun r : Rtm => { r.items with health := addDeepDischarge r.items.health }) (s.classed_rtm m)
  · rw [s.classed_rtm]

end Sys2Proof.Machine
end

section
/-! The charger's step at a second (R82, R83). -/

namespace Sys2Proof.Machine

open Sys2Proof.Safety Sys2Proof.Claims

/-! ### The step in each mode -/

theorem State.changeHealth_bcu (s : State) (f : Health Attribute → Health Attribute) :
    (s.changeHealth f).bcu = s.bcu := congrArg Outside.bcu (s.changeHealth_onlyQueue f).outside

theorem State.changeHealth_items (s : State) (f : Health Attribute → Health Attribute) :
    (s.changeHealth f).rtm.items = { s.rtm.items with health := f s.rtm.items.health } :=
  congrArg (·.rtm.items) (s.changeHealth_onlyQueue f).outside

section Step
variable {s : State} (m : Mean)

theorem State.chargerStep_off (mode : s.bcu.mode = .off) : (s.chargerStep m).bcu.chargerCounts =
    (.off, 0, s.bcu.absorbSeconds, s.bcu.tailRun, s.bcu.floatSeconds, s.bcu.lowFloatRun) := by
  simp [State.chargerStep, State.chargerExit, Bcu.count, dutyStep, Bcu.chargerCounts, mode]

theorem State.chargerStep_test (mode : s.bcu.mode = .test) : (s.chargerStep m).bcu.chargerCounts =
    (.test, 0, s.bcu.absorbSeconds, s.bcu.tailRun, s.bcu.floatSeconds, s.bcu.lowFloatRun) := by
  simp [State.chargerStep, State.chargerExit, Bcu.count, dutyStep, Bcu.chargerCounts, mode]

theorem State.chargerStep_bulk (mode : s.bcu.mode = .bulk) :
    let x := dutyStep s.stl.image .bulk m.mV m.mA s.bcu.duty
    (s.chargerStep m).bcu.chargerCounts =
      if s.stl.image.vAbs ≤ m.mV then (.absorb, x, 0, 0, 0, 0)
      else (.bulk, x, s.bcu.absorbSeconds, s.bcu.tailRun, s.bcu.floatSeconds, s.bcu.lowFloatRun) := by
  simp only [State.chargerStep, State.chargerExit, Bcu.count, mode, ge_iff_le]
  split <;> simp [State.charger, Bcu.enterMode, Bcu.chargerCounts]

theorem State.chargerStep_absorb (mode : s.bcu.mode = .absorb) :
    let x := dutyStep s.stl.image .absorb m.mV m.mA s.bcu.duty
    let tail := if m.mA < s.stl.image.iTail then min 60 (s.bcu.tailRun + 1) else 0
    let absorbed := min 14400 (s.bcu.absorbSeconds + 1)
    (s.chargerStep m).bcu.chargerCounts =
      if tail = 60 ∨ absorbed = 14400 then (.float, x, 0, 0, 0, 0)
      else (.absorb, x, absorbed, tail, s.bcu.floatSeconds, s.bcu.lowFloatRun) := by
  intro x tail absorbed
  simp only [State.chargerStep, State.chargerExit, Bcu.count, mode]
  by_cases ends : tail = 60
  · rw [if_pos ends, if_pos (Or.inl ends : tail = 60 ∨ absorbed = 14400)]
    simp [State.charger, Bcu.enterMode, Bcu.chargerCounts, x]
  · rw [if_neg ends]
    by_cases limit : absorbed = 14400
    · rw [if_pos limit, if_pos (Or.inr limit : tail = 60 ∨ absorbed = 14400), State.changeHealth_bcu]
      simp [State.charger, Bcu.enterMode, Bcu.chargerCounts, x]
    · rw [if_neg limit, if_neg (not_or.mpr ⟨ends, limit⟩ : ¬(tail = 60 ∨ absorbed = 14400))]
      rfl

theorem State.chargerStep_float (mode : s.bcu.mode = .float) :
    let x := dutyStep s.stl.image .float m.mV m.mA s.bcu.duty
    let low := if m.mV < (s.stl.image.vFloat : Int) - 500 then min 60 (s.bcu.lowFloatRun + 1) else 0
    (s.chargerStep m).bcu.chargerCounts =
      if low = 60 then (.bulk, x, 0, 0, 0, 0)
      else (.float, x, s.bcu.absorbSeconds, s.bcu.tailRun, min 65535 (s.bcu.floatSeconds + 1), low) := by
  intro x low
  simp only [State.chargerStep, State.chargerExit, Bcu.count, mode]
  by_cases ends : low = 60
  · rw [if_pos ends, if_pos ends]
    simp [State.charger, Bcu.enterMode, Bcu.chargerCounts, x]
  · rw [if_neg ends, if_neg ends]
    rfl

/-- Outside ABSORB the step leaves the retained items. -/
theorem State.chargerStep_rtm (mode : s.bcu.mode ≠ .absorb) : (s.chargerStep m).rtm = s.rtm := by
  have exits (u : State) (mode : u.bcu.mode ≠ .absorb) : (u.chargerExit m.mV).rtm = u.rtm := by
    unfold State.chargerExit
    split
    · split <;> rfl
    · next absorb => exact absurd absorb mode
    · split <;> rfl
    · rfl
    · rfl
  obtain ⟨counted, -⟩ :=
    { s.bcu with duty := dutyStep s.stl.image s.bcu.mode m.mV m.mA s.bcu.duty }.count_stands s.stl.image m.mV m.mA
  exact exits _ (counted.trans_ne mode)

/-- Of the retained items read later, the step sets QUNCERTAIN free at a tail end and counts a limit end (R83). -/
theorem State.chargerStep_items (s : State) :
    let tail := if m.mA < s.stl.image.iTail then min 60 (s.bcu.tailRun + 1) else 0
    let absorbed := min 14400 (s.bcu.absorbSeconds + 1)
    (s.chargerStep m).rtm.items.health.absorbLimit.raw =
        (if s.bcu.mode = .absorb ∧ tail ≠ 60 ∧ absorbed = 14400 then
          min 65535 (s.rtm.items.health.absorbLimit.raw + 1)
        else s.rtm.items.health.absorbLimit.raw) ∧
      (s.chargerStep m).rtm.items.qUncertain =
        (s.rtm.items.qUncertain && !(s.bcu.mode = .absorb && tail = 60)) := by
  intro tail absorbed
  by_cases mode : s.bcu.mode = .absorb
  · simp only [State.chargerStep, State.chargerExit, Bcu.count, mode]
    by_cases ends : tail = 60
    · rw [if_pos ends]
      simp [ends, State.charger, Rtm.written]
    · rw [if_neg ends]
      by_cases limit : absorbed = 14400
      · rw [if_pos limit, State.changeHealth_items]
        simp [ends, limit, addAbsorbLimit, Attribute.renew, State.charger]
      · rw [if_neg limit]
        simp [ends, limit]
  · rw [State.chargerStep_rtm m mode]
    simp [mode]

end Step

/-! ### The second -/

/-- What the charger's step leaves of the BCU for the class: the test, the class, the cutoff run, the supply. -/
structure ChargerOnly (b c : Bcu) : Prop where
  test : c.test = b.test := by rfl
  cls : c.cls = b.cls := by rfl
  run : c.cutoffRun = b.cutoffRun := by rfl
  supply : c.supplyOk = b.supplyOk := by rfl

theorem Bcu.count_chargerOnly (b : Bcu) (c : Settings) (mV mA : Int) : ChargerOnly b (b.count c mV mA) := by
  unfold Bcu.count
  split <;> exact {}

theorem State.chargerExit_chargerOnly (s : State) (mV : Int) : ChargerOnly s.bcu (s.chargerExit mV).bcu := by
  by_cases tail : s.bcu.mode = .absorb ∧ s.bcu.tailRun = 60
  · rw [State.chargerExit_of_tail tail]
    exact {}
  · obtain h | ⟨_, h⟩ | h := State.chargerExit_of_no_tail tail mV
    · rw [h]
      exact {}
    · rw [h]
      exact {}
    · rw [h, State.changeHealth_bcu]
      exact {}

theorem State.chargerStep_chargerOnly (s : State) (m : Mean) : ChargerOnly s.bcu (s.chargerStep m).bcu := by
  obtain ⟨test, cls, run, supply⟩ :=
    { s.bcu with duty := dutyStep s.stl.image s.bcu.mode m.mV m.mA s.bcu.duty }.count_chargerOnly s.stl.image m.mV m.mA
  obtain ⟨test', cls', run', supply'⟩ := State.chargerExit_chargerOnly { s with
    bcu := { s.bcu with
      duty := dutyStep s.stl.image s.bcu.mode m.mV m.mA s.bcu.duty }.count s.stl.image m.mV m.mA } m.mV
  exact ⟨test'.trans test, cls'.trans cls, run'.trans run, supply'.trans supply⟩

theorem State.countCharge_bcu (s : State) (m : Mean) : (s.countCharge m).bcu = s.bcu := by
  unfold State.countCharge
  split <;> rfl

theorem State.countCharge_qUncertain (s : State) (m : Mean) :
    (s.countCharge m).rtm.items.qUncertain = s.rtm.items.qUncertain := by
  unfold State.countCharge
  split <;> rfl

theorem Bcu.keepLoaded_batteryStands (s : State) (n : Nat) (m : Mean) :
    BatteryStands s { s with bcu := { s.bcu with daySeconds := n }.keepLoaded m } := by
  unfold Bcu.keepLoaded
  exact { charger := fun none => ⟨by simp [none], rfl⟩ }

/-- What the second leaves after its charger's step and its class. -/
theorem State.oneSecond_classStands (s : State) :
    let m := s.sfe.means s.stl.image.vbGain s.stl.image.ibGain s.now
    ClassStands ((State.chargedSecond { s with sfe := s.sfe.oneSecond s.now } m).evaluateClass m)
      (event State.oneSecond s) := by
  intro m
  refine ClassStands.trans ?_ (State.settle_classStands _ _ _)
  exact ⟨Bcu.keepLoaded_batteryStands _ _ _, .of_stands rfl rfl⟩

/-- The charger after a second is the charger after its step, a test ended in it aside. -/
theorem State.oneSecond_charger (s : State) :
    let m := s.sfe.means s.stl.image.vbGain s.stl.image.ibGain s.now
    let u := State.chargerStep
      { s with sfe := s.sfe.oneSecond s.now, bcu := { s.bcu with latestMean := some m } } m
    (u.bcu.duty = 0 → (event State.oneSecond s).bcu.duty = 0) ∧
      (s.bcu.test = none → (event State.oneSecond s).bcu.chargerCounts = u.bcu.chargerCounts) ∧
      (event State.oneSecond s).rtm.items.health.absorbLimit = u.rtm.items.health.absorbLimit ∧
      (event State.oneSecond s).rtm.items.qUncertain = u.rtm.items.qUncertain := by
  intro m u
  let v := u.countCharge m
  have bcu : v.bcu = u.bcu := u.countCharge_bcu m
  have test : v.bcu.test = s.bcu.test := congrArg Bcu.test bcu |>.trans (State.chargerStep_chargerOnly _ m).test
  obtain ⟨-, -, -, duty, charger⟩ :=
    (v.evaluateClass_batteryStands m).trans s.oneSecond_classStands.toBatteryStands
  refine ⟨fun zero => duty ?_, fun none => ?_, ?_⟩
  · exact (congrArg Bcu.duty bcu).trans zero
  · obtain ⟨-, counts⟩ := charger (test.trans none)
    have same : v.bcu.chargerCounts = u.bcu.chargerCounts := congrArg Bcu.chargerCounts bcu
    exact counts.trans same
  · have items : (event State.oneSecond s).rtm.items = (v.evaluateClass m).rtm.items := by
      obtain ⟨-, -, -, -, -, rtm, -⟩ := s.oneSecond.settle_stands s.rslInputs false
      exact congrArg Rtm.items rtm
    have health : v.rtm.items.health = u.rtm.items.health := (u.countCharge_kept m).2
    have uncertain : v.rtm.items.qUncertain = u.rtm.items.qUncertain := u.countCharge_qUncertain m
    rw [items, v.evaluateClass_items, ← health, ← uncertain]
    split <;> exact ⟨rfl, rfl⟩

theorem chargerSteps : ChargerSteps := by
  intro s up due day mV mA c d x tail absorbed low kept
  obtain ⟨duty, charger, limit, uncertain⟩ := s.oneSecond_charger
  let m := s.sfe.means s.stl.image.vbGain s.stl.image.ibGain s.now
  let u : State := { s with sfe := s.sfe.oneSecond s.now, bcu := { s.bcu with latestMean := some m } }
  obtain ⟨counted, exited⟩ := u.chargerStep_items m
  refine ⟨_, exec_oneSecondUpdate up due day, fun mode => ?_, fun none mode => ?_, ?_, ?_⟩
  · exact duty (congrArg (fun k => k.2.1) (State.chargerStep_test (s := u) m mode))
  · refine (charger none).trans ?_
    cases mode : s.bcu.mode with
    | off => exact State.chargerStep_off (s := u) m mode
    | test => exact State.chargerStep_test (s := u) m mode
    | bulk => exact State.chargerStep_bulk (s := u) m mode
    | absorb => exact State.chargerStep_absorb (s := u) m mode
    | float => exact State.chargerStep_float (s := u) m mode
  · rw [limit]
    exact counted
  · rw [uncertain]
    exact exited

end Sys2Proof.Machine
end

section
/-! A change of class as the link takes it, and the class at a second (R88 to R91, R112, R119, R132). -/

namespace Sys2Proof.Machine

open Sys2Proof.Safety Sys2Proof.Claims

/-! ### A radio power state applied (R112) -/

/-- What applying a radio power state makes of the link. -/
structure PowerApplied (s t : State) (p : RadioPower) : Prop where
  power : t.lnk.power = p
  pending : t.lnk.pendingPower = s.lnk.pendingPower
  rng : t.lnk.rng = s.lnk.rng
  warmUp : s.lnk.power = .off → p ≠ .off → t.lnk.warmUp = some ⟨s.now, 20⟩
  off : p = .off → t.lnk.access = .idle ∧ t.lnk.warmUp = none ∧ t.lnk.cycle = none

theorem State.applyPower_applied (s : State) (p : RadioPower) : PowerApplied s (s.applyPower p) p := by
  unfold State.applyPower
  split
  · next off => exact ⟨off.symm, rfl, rfl, fun _ on => absurd off on, fun _ => ⟨rfl, rfl, rfl⟩⟩
  · next on =>
    split
    · exact ⟨rfl, rfl, rfl, fun _ _ => rfl, fun off => absurd off on⟩
    · next stood =>
      split
      · exact ⟨rfl, rfl, rfl, fun off => absurd off stood, fun off => absurd off on⟩
      · obtain ⟨_, _, _, _, returned⟩ := State.returnUnselected_onlyQueue
          { s with lnk := { s.lnk with power := p, cycle := listenCycleOf s.now p, holdLimit := none } }
        rw [returned]
        exact ⟨rfl, rfl, rfl, fun off => absurd off stood, fun off => absurd off on⟩

/-- A send cut leaves nothing pending and the radio off (R119). -/
theorem State.cutSend_applied (s : State) :
    PowerApplied { s with lnk := { s.lnk with pendingPower := none } } s.cutSend .off := by
  have cut (q : Txq) : PowerApplied { s with lnk := { s.lnk with pendingPower := none } }
      (State.applyPower { s with
        lnk := { s.lnk with sendTimer := none, outFrame := [], pendingPower := none }, txq := q } .off) .off := by
    obtain ⟨power, pending, rng, -, off⟩ := State.applyPower_applied { s with
        lnk := { s.lnk with sendTimer := none, outFrame := [], pendingPower := none }, txq := q } .off
    exact ⟨power, pending, rng, fun _ on => absurd rfl on, off⟩
  unfold State.cutSend
  dsimp only
  split
  · split <;> exact cut _
  · exact cut _

/-! ### A change of class at the link (R112, R119) -/

/-- A power state waits for the end of a send alone, and a radio that is off makes no access. -/
structure PowerCalm (l : Lnk) : Prop where
  pending : l.pendingPower ≠ none → l.access = .sending
  idle : l.power = .off → l.access = .idle

theorem powerCalm_of_sound {s : State} (radio : RadioSound s) : PowerCalm s.lnk := by
  obtain ⟨-, off, -, pending, -⟩ := radio
  exact ⟨pending, fun dark => (off dark).1⟩

theorem LinkAsked.powerCalm {s t : State} (h : LinkAsked s t) (listed : SendListed s.lnk s.txq)
    (calm : PowerCalm s.lnk) : PowerCalm t.lnk := by
  obtain ⟨-, sending⟩ := h.sends listed
  obtain ⟨_, _, _, _, _, lnk⟩ := h.lnk
  have pending : t.lnk.pendingPower = s.lnk.pendingPower := by rw [lnk]
  have power : t.lnk.power = s.lnk.power := by rw [lnk]
  exact ⟨fun waits => sending.mpr (calm.pending (pending ▸ waits)),
    fun off => h.idle (power ▸ off) (calm.idle (power ▸ off))⟩

/-- What the LNK makes of a radio power state: it waits for the end of a send, or applies now. -/
structure PowerTaken (s t : State) (p : RadioPower) : Prop where
  power : if s.lnk.access = .sending ∧ p ≠ .off then t.lnk.power = s.lnk.power ∧ t.lnk.pendingPower = some p
    else t.lnk.power = p ∧ t.lnk.pendingPower = none
  rng : t.lnk.rng = s.lnk.rng
  warmUp : s.lnk.power = .off → p ≠ .off → t.lnk.warmUp = some ⟨s.now, 20⟩
  off : p = .off → t.lnk.access = .idle ∧ t.lnk.warmUp = none ∧ t.lnk.cycle = none

theorem State.takePower_taken {s : State} (calm : PowerCalm s.lnk) (p : RadioPower) :
    PowerTaken s (s.takePower p) p := by
  unfold State.takePower
  split
  · next sending =>
    split
    · next off =>
      subst off
      obtain ⟨power, pending, rng, -, dark⟩ := s.cutSend_applied
      refine ⟨?_, rng, fun _ on => absurd rfl on, dark⟩
      rw [if_neg fun on => on.2 rfl]
      exact ⟨power, pending⟩
    · next on =>
      refine ⟨?_, rfl, fun dark => ?_, fun off => absurd off on⟩
      · rw [if_pos ⟨sending, on⟩]
        exact ⟨rfl, rfl⟩
      · have idle := calm.idle dark
        rw [sending] at idle
        exact Access.noConfusion idle
  · next waits =>
    obtain ⟨power, pending, rng, warmUp, off⟩ := s.applyPower_applied p
    have none : s.lnk.pendingPower = none := not_not.mp fun some => waits (calm.pending some)
    refine ⟨?_, rng, warmUp, off⟩
    rw [if_neg fun on => waits on.1]
    exact ⟨power, pending.trans none⟩

/-- What a change of class makes of the radio and of the status period (R112, R119, R132). -/
structure RadioTaken (s t : State) (c : ReserveClass) : Prop where
  power : if s.lnk.access = .sending ∧ radioOf c ≠ .off then
      t.lnk.power = s.lnk.power ∧ t.lnk.pendingPower = some (radioOf c)
    else t.lnk.power = radioOf c ∧ t.lnk.pendingPower = none
  warmUp : s.lnk.power = .off → radioOf c ≠ .off → t.lnk.warmUp = some ⟨s.now, 20⟩
  off : radioOf c = .off → t.lnk.access = .idle ∧ t.lnk.warmUp = none ∧ t.lnk.cycle = none
  period : match statusPeriod (some c) s.stl.image.statusPeriod with
    | some p => t.lnk.rng = rngNext s.lnk.rng ∧
      t.txq.period = some ⟨s.now, 1000 * (p + (rngNext s.lnk.rng).toNat % (p / 10 + 1))⟩
    | none => t.lnk.rng = s.lnk.rng ∧ t.txq.period = none

/-- Askings before a change of class do not change what is taken. -/
theorem RadioTaken.before {s u t : State} {c : ReserveClass} (h : LinkAsked s u) (stl : u.stl = s.stl)
    (now : u.now = s.now) (listed : SendListed s.lnk s.txq) (k : RadioTaken u t c) : RadioTaken s t c := by
  obtain ⟨-, sending⟩ := h.sends listed
  obtain ⟨_, _, _, _, _, lnk⟩ := h.lnk
  have power : u.lnk.power = s.lnk.power := by rw [lnk]
  have rng : u.lnk.rng = s.lnk.rng := by rw [lnk]
  obtain ⟨taken, warmUp, off, period⟩ := k
  rw [power, now] at warmUp
  simp only [sending, power] at taken
  rw [stl, rng, now] at period
  exact ⟨taken, warmUp, off, period⟩

/-- Askings after it leave what the link took. -/
theorem RadioTaken.after {s t u : State} {c : ReserveClass} (h : RadioTaken s t c) (k : LinkAsked t u) :
    RadioTaken s u c := by
  obtain ⟨power, warmUp, off, period⟩ := h
  obtain ⟨_, _, _, _, _, lnk⟩ := k.lnk
  refine ⟨?_, ?_, fun dark => ?_, ?_⟩
  · rwa [lnk]
  · rwa [lnk]
  · obtain ⟨idle, still⟩ := off dark
    rw [if_neg fun on => on.2 dark] at power
    refine ⟨k.idle (power.1.trans dark) idle, ?_⟩
    rwa [lnk]
  · rw [k.period, lnk]
    exact period

/-! ### The class published (R90, R97) -/

theorem PowerTaken.startPeriod {s w : State} {c : ReserveClass} (h : PowerTaken s w (radioOf c))
    (cls : w.bcu.cls = some c) (stl : w.stl = s.stl) (now : w.now = s.now) :
    RadioTaken s { w with txq := { w.txq with period := none } }.startPeriod c := by
  obtain ⟨power, rng, warmUp, off⟩ := h
  unfold State.startPeriod
  cases c <;> simp only [cls, statusPeriod]
  case normal | economy =>
    refine ⟨power, warmUp, off, ?_⟩
    rw [← rng, ← stl, ← now]
    exact ⟨rfl, rfl⟩
  case protectOnly | cutoff => exact ⟨power, warmUp, off, rng, rfl⟩

theorem State.publishClass_radioTaken {s : State} (listed : SendListed s.lnk s.txq) (calm : PowerCalm s.lnk)
    (c : ReserveClass) : RadioTaken s (s.publishClass c) c := by
  let v : State := { s with bcu := { s.bcu with cls := some c } }
  have reviewed : LinkAsked s v.abortReview :=
    v.abortReview_classStands.toLinkAsked.after rfl rfl
  obtain ⟨_, asked⟩ := v.abortReview_frame
  have stl : v.abortReview.stl = s.stl := congrArg Outside.stl asked.outside
  have now : v.abortReview.now = s.now := congrArg (Clock.uptime ∘ Outside.clock) asked.outside
  have stood : (v.abortReview.takePower (radioOf c)).outside = v.abortReview.outside :=
    (State.takePower_onlyLink _ _).outside
  refine RadioTaken.before reviewed stl now listed
    ((State.takePower_taken (reviewed.powerCalm listed calm) (radioOf c)).startPeriod ?_ ?_ ?_)
  · exact (congrArg (·.bcu.cls) stood).trans v.abortReview_classStands.cls
  · exact congrArg Outside.stl stood
  · exact congrArg (Clock.uptime ∘ Outside.clock) stood

theorem State.classed_linkAsked {s : State} {m : Mean} (same : s.bcu.cls = some (s.nextClass m)) :
    LinkAsked s (s.classed m) := by
  rw [State.classed, if_pos same]
  exact .of_stands rfl rfl

theorem State.classed_radioTaken {s : State} {m : Mean} (listed : SendListed s.lnk s.txq) (calm : PowerCalm s.lnk)
    (changes : s.bcu.cls ≠ some (s.nextClass m)) : RadioTaken s (s.classed m) (s.nextClass m) := by
  rw [State.classed, if_neg changes]
  obtain ⟨power, warmUp, off, period⟩ := State.publishClass_radioTaken (s := s.measured m) listed calm (s.nextClass m)
  exact ⟨power, warmUp, off, period⟩

/-! ### The second -/

theorem State.chargerStep_linkAsked (s : State) (m : Mean) : LinkAsked s (s.chargerStep m) := by
  have exits (u : State) : LinkAsked u (u.chargerExit m.mV) := by
    by_cases tail : u.bcu.mode = .absorb ∧ u.bcu.tailRun = 60
    · rw [State.chargerExit_of_tail tail]
      exact .of_stands rfl rfl
    · obtain h | ⟨_, h⟩ | h := State.chargerExit_of_no_tail tail m.mV
      · rw [h]
        exact .of_stands rfl rfl
      · rw [h]
        exact .of_stands rfl rfl
      · rw [h]
        exact (State.changeHealth_classStands _ _).toLinkAsked.after rfl rfl
  exact (exits _).after rfl rfl

theorem State.countCharge_linkAsked (s : State) (m : Mean) : LinkAsked s (s.countCharge m) := by
  unfold State.countCharge
  split <;> exact .of_stands rfl rfl

theorem State.chargedSecond_linkAsked (s : State) (m : Mean) : LinkAsked s (s.chargedSecond m) := by
  unfold State.chargedSecond
  refine .trans ?_ (State.countCharge_linkAsked _ m)
  exact (State.chargerStep_linkAsked _ m).after rfl rfl

theorem State.chargedSecond_chargerOnly (s : State) (m : Mean) : ChargerOnly s.bcu (s.chargedSecond m).bcu := by
  rw [State.chargedSecond, State.countCharge_bcu]
  obtain ⟨test, cls, run, supply⟩ :=
    State.chargerStep_chargerOnly { s with bcu := { s.bcu with latestMean := some m } } m
  exact ⟨test, cls, run, supply⟩

/-- A test goes on over the end of an event in NORMAL alone (R97). -/
theorem State.settle_test (s : State) (b : RslInputs) (x : Bool) :
    (s.settle b x).bcu.test = none ∨ (s.settle b x).bcu.cls = some .normal := by
  obtain ⟨heard, -, -⟩ := State.listenReview_stands (s.rslReview b x).abortReview.chargerReview
  rw [State.settle, heard, State.chargerReview_bcu]
  refine (State.abortReview_test _).imp_right fun holds => ?_
  simp only [State.abortHolds, Bool.or_eq_false_iff, decide_eq_false_iff_not, ne_eq, not_not] at holds
  obtain ⟨⟨-, cls⟩, -⟩ := holds
  exact cls

/-- No evaluation gives NORMAL with a SoC known to be below 60 per cent (R88). -/
theorem classAfter_ne_normal {c : Settings} {i : ClassInputs} (known : i.uncertain = false) (low : i.soc < 60)
    (p : Option ReserveClass) : classAfter c i p ≠ .normal := by
  have worst : worstEntered c i ≠ .normal := by
    rw [worstEntered_eq, if_pos (Or.inl ⟨known, low⟩ : (i.uncertain = false ∧ i.soc < 60) ∨ i.mV < c.vEcon)]
    split_ifs <;> nofun
  cases p with
  | none => exact worst
  | some p =>
    rw [classAfter]
    split_ifs with worse leave
    · exact worst
    · rw [leaves_iff] at leave
      cases p with
      | economy =>
        obtain ⟨soc, -⟩ := leave
        rw [known] at soc
        have := soc.resolve_left Bool.noConfusion
        omega
      | normal => exact leave.elim
      | protectOnly | cutoff => nofun
    · rintro rfl
      have code : 1 < (worstEntered c i).code := by
        cases h : worstEntered c i with
        | normal => exact absurd h worst
        | economy | protectOnly | cutoff => decide
      exact worse code

end Sys2Proof.Machine
end

section
/-! The class at a second, with the radio and the status period that follow it (R88 to R91, R112, R119, R132). -/

namespace Sys2Proof.Machine

open Sys2Proof.Safety Sys2Proof.Claims

/-! ### The second by its evaluation -/

/-- The mean that a second delivers. -/
def State.delivered (s : State) : Mean := s.sfe.means s.stl.image.vbGain s.stl.image.ibGain s.now

/-- The state that a second evaluates its class in: the charger stepped and the charge counted. -/
def State.evaluated (s : State) : State := State.chargedSecond { s with sfe := s.sfe.oneSecond s.now } s.delivered

theorem State.evaluated_linkAsked (s : State) : LinkAsked s s.evaluated :=
  (State.chargedSecond_linkAsked _ _).after rfl rfl

theorem State.evaluated_chargerOnly (s : State) : ChargerOnly s.bcu s.evaluated.bcu :=
  State.chargedSecond_chargerOnly { s with sfe := s.sfe.oneSecond s.now } _

theorem State.evaluated_stands (s : State) : s.evaluated.stl = s.stl ∧ s.evaluated.now = s.now ∧
    s.evaluated.rtm.items.health.deepDischarge = s.rtm.items.health.deepDischarge := by
  obtain ⟨kept, health⟩ := State.chargedSecond_kept { s with sfe := s.sfe.oneSecond s.now } s.delivered
  exact ⟨kept.stl, congrArg Clock.uptime kept.clock, health⟩

/-- The class, the cutoff run and SoC after a second are those of its evaluation. -/
theorem State.oneSecond_decided (s : State) :
    (event State.oneSecond s).bcu.soc = some s.evaluated.nextSoc ∧
      (event State.oneSecond s).bcu.cls = some (s.evaluated.nextClass s.delivered) ∧
      (event State.oneSecond s).bcu.cutoffRun = s.evaluated.nextRun s.delivered := by
  obtain ⟨soc, cls, run, -⟩ :=
    (s.evaluated.evaluateClass_batteryStands s.delivered).trans s.oneSecond_classStands.toBatteryStands
  exact ⟨soc, cls, run⟩

/-- The retained items after a second are those of its evaluation. -/
theorem State.oneSecond_items (s : State) : (event State.oneSecond s).rtm.items =
    if (s.evaluated.classInputs s.delivered).cutoffReached then
      { s.evaluated.rtm.items with health := addDeepDischarge s.evaluated.rtm.items.health }
    else s.evaluated.rtm.items := by
  obtain ⟨-, -, -, -, -, rtm, -⟩ := s.oneSecond.settle_stands s.rslInputs false
  exact (congrArg Rtm.items rtm).trans (s.evaluated.evaluateClass_items s.delivered)

/-- What follows the class at a second leaves of the link what askings leave. -/
theorem State.oneSecond_linkAsked (s : State) :
    LinkAsked (s.evaluated.classed s.delivered) (event State.oneSecond s) :=
  (State.evaluateClass_classStands _ _).toLinkAsked.trans s.oneSecond_classStands.toLinkAsked

/-- A class that stays leaves the radio and the status period. -/
theorem State.oneSecond_radio_stands {s : State} (same : s.bcu.cls = some (s.evaluated.nextClass s.delivered)) :
    LinkAsked s (event State.oneSecond s) :=
  s.evaluated_linkAsked.trans ((State.classed_linkAsked (s.evaluated_chargerOnly.cls.trans same)).trans
    s.oneSecond_linkAsked)

/-- A class that changes is taken by the radio and the status period. -/
theorem State.oneSecond_radioTaken {s : State} (queue : QueueSound s) (radio : RadioSound s)
    (changes : s.bcu.cls ≠ some (s.evaluated.nextClass s.delivered)) :
    RadioTaken s (event State.oneSecond s) (s.evaluated.nextClass s.delivered) := by
  have asked := s.evaluated_linkAsked
  have listed := sendListed_of_sound queue radio
  obtain ⟨stl, now, -⟩ := s.evaluated_stands
  refine RadioTaken.after (RadioTaken.before asked stl now listed ?_) s.oneSecond_linkAsked
  refine State.classed_radioTaken (asked.sends listed).1 (asked.powerCalm listed (powerCalm_of_sound radio)) ?_
  rwa [s.evaluated_chargerOnly.cls]

/-- A test that a second finds in progress goes on in NORMAL, or is aborted (R97). -/
theorem State.oneSecond_test {s : State} (test : s.bcu.test ≠ none) :
    (event State.oneSecond s).bcu.cls = some .normal ∨ AbortedNow (event State.oneSecond s) := by
  have tested := ((s.oneSecond_tends True).trans (s.oneSecond.settle_tends True s.rslInputs false)).test trivial (.inl test)
  obtain running | aborted := tested
  · exact .inl ((State.settle_test _ _ _).resolve_left running)
  · exact .inr aborted

/-- The test that stands in for the voltage at a second: none that its SoC ends (R91, log entry 44). -/
theorem State.evaluated_shield (s : State) : s.evaluated.shield =
    if s.bcu.test ≠ none ∧ s.evaluated.rtm.items.qUncertain = false ∧ s.evaluated.nextSoc < 60 then none
    else s.bcu.test := by
  rw [State.shield, s.evaluated_chargerOnly.test]
  cases s.bcu.test <;> simp [socEndsTest]

/-- The uncertainty of the charge that a second's evaluation reads stands after it. -/
theorem State.oneSecond_qUncertain (s : State) :
    (event State.oneSecond s).rtm.items.qUncertain = s.evaluated.rtm.items.qUncertain := by
  rw [s.oneSecond_items]
  split <;> rfl

/-- What a second's evaluation is formed from, read off the state after it. -/
theorem State.evaluated_inputs (s : State) : s.evaluated.classInputs s.delivered =
    { soc := (event State.oneSecond s).bcu.soc.getD 0,
      uncertain := (event State.oneSecond s).rtm.items.qUncertain,
      mV := match s.evaluated.shield with
        | some x => x.v0
        | none => s.delivered.mV,
      supplyOk := s.bcu.supplyOk,
      cutoffReached := decide (s.evaluated.nextRun s.delivered = 10 ∧ s.bcu.cutoffRun ≠ 10 ∧
        s.bcu.cls ≠ some .cutoff) } := by
  obtain ⟨soc, -⟩ := s.oneSecond_decided
  obtain ⟨-, cls, run, supply⟩ := s.evaluated_chargerOnly
  rw [soc, s.oneSecond_qUncertain, State.classInputs, cls, run, supply]
  simp only [Bool.decide_and, Bool.and_assoc]
  rfl

/-- A test that the SoC ends at a second is aborted at it (R91, R97). -/
theorem State.oneSecond_socEnds {s : State} (test : s.bcu.test ≠ none)
    (known : s.evaluated.rtm.items.qUncertain = false) (low : s.evaluated.nextSoc < 60) :
    AbortedNow (event State.oneSecond s) := by
  refine (State.oneSecond_test test).resolve_left fun normal => ?_
  obtain ⟨-, cls, -⟩ := s.oneSecond_decided
  exact classAfter_ne_normal (i := s.evaluated.classInputs s.delivered) known low _
    (Option.some.inj (cls.symm.trans normal))

theorem classAtSecond : ClassAtSecond := by
  intro s up queue radio due day mV
  refine ⟨_, exec_oneSecondUpdate up due day, ?_⟩
  intro ends shield run reached
  obtain ⟨soc, cls, cutoffRun⟩ := s.oneSecond_decided
  obtain ⟨-, stoodCls, stoodRun, -⟩ := s.evaluated_chargerOnly
  obtain ⟨stl, -, deep⟩ := s.evaluated_stands
  have uncertain := s.oneSecond_qUncertain
  have socGet : (event State.oneSecond s).bcu.soc.getD 0 = s.evaluated.nextSoc := by rw [soc]; rfl
  have shields : s.evaluated.shield = shield := by
    rw [s.evaluated_shield]
    simp only [shield, ends, uncertain, socGet, decide_eq_true_eq]
  have runs : s.evaluated.nextRun s.delivered = run := by
    rw [State.nextRun, shields, stl, stoodRun, cutoffRunAfter]
    simp only [run, Option.isSome_iff_ne_none]
    rfl
  have inputs := s.evaluated_inputs
  rw [shields, runs] at inputs
  have next : (event State.oneSecond s).bcu.cls =
      some (classAfter s.stl.image (s.evaluated.classInputs s.delivered) s.bcu.cls) := by
    rw [cls, State.nextClass, stl, stoodCls]
  rw [inputs] at next
  refine ⟨fun ended => ?_, cutoffRun.trans runs, next, ?_, fun same => ?_, fun changes => ?_⟩
  · obtain ⟨test, known, low⟩ := of_decide_eq_true ended
    rw [uncertain] at known
    rw [socGet] at low
    have aborted := State.oneSecond_socEnds test known low
    exact ⟨aborted.noTest, aborted.attempt⟩
  · rw [s.oneSecond_items, inputs]
    dsimp only
    split
    · rw [← deep]
      rfl
    · rw [deep]
  · obtain ⟨⟨_, _, _, _, _, lnk⟩, period, -⟩ := State.oneSecond_radio_stands (same.symm.trans cls)
    rw [lnk]
    exact ⟨rfl, rfl, rfl, period⟩
  · have changed : s.bcu.cls ≠ some (s.evaluated.nextClass s.delivered) := fun same => changes (cls.trans same.symm)
    obtain ⟨power, warmUp, off, period⟩ := State.oneSecond_radioTaken queue radio changed
    rw [cls]
    generalize s.evaluated.nextClass s.delivered = c at power warmUp off period ⊢
    cases c with
    | normal | economy | protectOnly | cutoff => exact ⟨power, warmUp, off, period⟩

/-- Settles O20: the class by its worst entry and its leave condition, a second by its evaluation and what that
publishes, the charger by its modes, and the values as formulas of their raws. -/
theorem classAndHealth : Obligations.ClassAndHealth :=
  ⟨classMovesOneUp, classAtSecond, chargerSteps, healthValuesInRange⟩

end Sys2Proof.Machine
end

section
/-! The CRC (R106): its own bytes close a frame, and the receiver's comparison. -/

namespace Sys2Proof.Machine

open Sys2Proof.Claims

/-! ### The register at a byte (R106 steps 2 to 4) -/

theorem crc_append_byte (b : List Byte) (x : Byte) : crc (b ++ [x]) = crcByte (crc b) x := crc_append b [x]

/-- A bit equal to the top bit of the register shifts it alone. -/
theorem crcBit_msb (r : Word16) : crcBit r r.msb = r <<< 1 := by simp [crcBit]

/-- A byte equal to the upper half of the register shifts it out. -/
theorem crcByte_upper {r : Word16} {x : Byte} (upper : ∀ k < 8, x.getLsbD k = r.getLsbD (k + 8)) :
    crcByte r x = r <<< 8 := by
  have shifted (j : Nat) (hj : j < 8) : crcBit (r <<< j) (x.getLsbD (7 - j)) = r <<< (j + 1) := by
    have top : (r <<< j).msb = x.getLsbD (7 - j) := by
      rw [upper (7 - j) (by omega), BitVec.msb_eq_getLsbD_last, BitVec.getLsbD_shiftLeft,
        show 16 - 1 - j = 7 - j + 8 by omega]
      simp [show ¬15 < j by omega]
    rw [← top, crcBit_msb, ← BitVec.shiftLeft_add]
  calc crcByte r x = [7, 6, 5, 4, 3, 2, 1, 0].foldl (fun r k => crcBit r (x.getLsbD k)) (r <<< 0) := by
        rw [BitVec.shiftLeft_zero]; rfl
    _ = r <<< 8 := by
      simp only [List.foldl_cons, List.foldl_nil]
      rw [shifted 0 (by omega), shifted 1 (by omega), shifted 2 (by omega), shifted 3 (by omega),
        shifted 4 (by omega), shifted 5 (by omega), shifted 6 (by omega), shifted 7 (by omega)]

/-- A check word is sent as the upper and the lower half of the register. -/
theorem crcBytes_eq (w : Word16) : crcBytes w = [w.extractLsb' 8 8, w.extractLsb' 0 8] := by
  simp only [crcBytes, be2]
  congr 1
  apply BitVec.eq_of_toNat_eq
  simp [BitVec.extractLsb'_toNat, Nat.shiftRight_eq_div_pow]

/-- A register run through with its own bytes is 0 (R106, the residue). -/
theorem crc_residue (b : List Byte) : crc (b ++ crcBytes (crc b)) = 0 := by
  rw [crc_append, crcBytes_eq]
  simp only [List.foldl_cons, List.foldl_nil]
  rw [crcByte_upper (r := crc b) fun k hk => by simp [hk, Nat.add_comm],
    crcByte_upper (r := crc b <<< 8) fun k hk => by
      simp [BitVec.getLsbD_shiftLeft, hk]; omega,
    ← BitVec.shiftLeft_add]
  exact BitVec.shiftLeft_eq_zero (by decide)

/-! ### The receiver's comparison (R108) -/

/-- A reception long enough for its length byte passes the first three checks, and its CRC decides. -/
theorem classify_badCrc_iff (g : Nat) (own : Option Nat) (r : EndedReception) (least : 8 ≤ nat1 r.bytes 1)
    (most : nat1 r.bytes 1 ≤ 64) (counted : nat1 r.bytes 1 ≤ r.count) :
    classify g own r = .badCrc ↔ (r.bytes.take (nat1 r.bytes 1)).drop (nat1 r.bytes 1 - 2) ≠
      crcBytes (crc (r.bytes.take (nat1 r.bytes 1 - 2))) := by
  have front : (r.bytes.take (nat1 r.bytes 1)).take (nat1 r.bytes 1 - 2) = r.bytes.take (nat1 r.bytes 1 - 2) := by
    rw [List.take_take, Nat.min_eq_left (Nat.sub_le _ _)]
  unfold classify
  dsimp only
  rw [if_neg (by simp; omega), if_neg (by omega), if_neg (by omega), front]
  split
  · next differs => exact ⟨fun _ => differs.symm, fun _ => rfl⟩
  · next agrees =>
    refine ⟨fun bad => ?_, fun differs => absurd (not_not.mp agrees).symm differs⟩
    split at bad
    · cases bad
    · split at bad
      · cases bad
      · split at bad <;> cases bad

/-- Settles O17: the register takes a byte bit by bit, its own bytes shift it out, and the comparison is the fourth
check of the filter. -/
theorem crcClosesFrame : Obligations.CrcClosesFrame := by
  refine ⟨rfl, fun b x => ?_, by decide +kernel, crc_residue, fun b => crcBytes_eq _,
    fun g own r least most kept counted => ?_⟩
  · rw [crc_append_byte, crcByte]
    have bit (r : Word16) (k : Nat) : crcBit r (x.getLsbD k) =
        if x.getLsbD k != r.getLsbD 15 then (r <<< 1) ^^^ 0x1021#16 else r <<< 1 := by
      rw [crcBit, BitVec.msb_eq_getLsbD_last]
    simp only [bit]
  · exact classify_badCrc_iff g own r least most (kept.trans counted)

end Sys2Proof.Machine
end

section
/-! The random generator (R117): its advance is linear over the bits of its register, so that one register value decides
every power of it, and with that its period; the seed, and the two draws (R118, R132). -/

namespace Sys2Proof.Machine

open Sys2Proof.Claims

/-! ### The advance is linear -/

/-- The advance moves the register toward its low end and adds 0xB400 for a bit moved out that is 1. -/
theorem rngNext_eq (r : Word16) : rngNext r = r >>> 1 ^^^ if r.getLsbD 0 then 0xB400#16 else 0 := by
  unfold rngNext
  split
  · rfl
  · exact BitVec.xor_zero.symm

theorem rngNext_xor (a b : Word16) : rngNext (a ^^^ b) = rngNext a ^^^ rngNext b := by
  have out (x y : Bool) : (if x ^^ y then 0xB400#16 else 0) =
      (if x then 0xB400#16 else 0) ^^^ if y then 0xB400#16 else 0 := by
    cases x <;> cases y <;> rfl
  simp only [rngNext_eq, BitVec.getLsbD_xor, BitVec.ushiftRight_xor_distrib, out]
  ac_rfl

/-- A map of the register that keeps sums and commutes with the advance, as every power of the advance does. -/
structure RngLinear (f : Word16 → Word16) : Prop where
  sum : ∀ a b, f (a ^^^ b) = f a ^^^ f b
  next : ∀ a, f (rngNext a) = rngNext (f a)

theorem RngLinear.zero {f : Word16 → Word16} (h : RngLinear f) : f 0 = 0 := by
  have same := h.sum 0 0
  simpa using same

theorem RngLinear.iterate (n : Nat) : RngLinear rngNext^[n] where
  sum a b := by
    induction n generalizing a b with
    | zero => rfl
    | succ n ih => simp only [Function.iterate_succ_apply, rngNext_xor, ih]
  next a := (Function.iterate_succ_apply' rngNext n a) ▸ (Function.iterate_succ_apply rngNext n a).symm

theorem RngLinear.add {f g : Word16 → Word16} (hf : RngLinear f) (hg : RngLinear g) :
    RngLinear fun a => f a ^^^ g a where
  sum a b := by rw [hf.sum, hg.sum]; ac_rfl
  next a := by rw [hf.next, hg.next, rngNext_xor]

/-! ### The top bit alone decides a linear map -/

/-- The register with its top bit alone. -/
def rngTop : Word16 := 0x8000

/-- The register read bit by bit from its low end, each bit that is 1 putting `u` in behind an advance. -/
def rngRead (u v : Word16) : Word16 :=
  (List.range 16).foldl (fun w k => rngNext w ^^^ if v.getLsbD k then u else 0) 0

/-- An advance moves a register whose low bit is 0 down by one place. -/
theorem rngRead_step (v : Word16) {k : Nat} (hk : k < 16) :
    (rngNext (v <<< (16 - k)) ^^^ if v.getLsbD k then rngTop else 0) = v <<< (15 - k) := by
  have low : (v <<< (16 - k)).getLsbD 0 = false := by simp; omega
  rw [rngNext, low]
  apply BitVec.eq_of_getLsbD_eq
  intro i hi
  have place : 1 + i - (16 - k) = i - (15 - k) := by omega
  obtain rfl | below : i = 15 ∨ i < 15 := by omega
  · have last : 15 - (15 - k) = k := by omega
    cases bit : v[k] <;> simp [last, bit, rngTop, hk]
  · have clear : (if v.getLsbD k then rngTop else 0).getLsbD i = false := by
      split
      · exact (by decide : ∀ i < 15, rngTop.getLsbD i = false) i below
      · exact BitVec.getLsbD_zero
    rw [BitVec.getLsbD_xor, clear]
    have reaches : 1 + i < 16 - k ↔ i < 15 - k := by omega
    have inside : 1 + i < 16 := by omega
    simp only [BitVec.getLsbD_ushiftRight, BitVec.getLsbD_shiftLeft, place, hi, reaches, inside, Bool.false_eq_true,
      if_false, Bool.xor_false]

theorem rngRead_top (v : Word16) : rngRead rngTop v = v := by
  have run (n : Nat) (hn : n ≤ 16) : (List.range n).foldl
      (fun w k => rngNext w ^^^ if v.getLsbD k then rngTop else 0) 0 = v <<< (16 - n) := by
    induction n with
    | zero => simp
    | succ n ih =>
      rw [List.range_succ, List.foldl_append, ih (by omega)]
      exact (rngRead_step v hn).trans (by rw [Nat.sub_add_eq, Nat.sub_right_comm])
  exact (run 16 le_rfl).trans (BitVec.shiftLeft_zero v)

/-- A linear map is decided by what it makes of the top bit. -/
theorem RngLinear.eq_rngRead {f : Word16 → Word16} (h : RngLinear f) (v : Word16) : f v = rngRead (f rngTop) v := by
  have through (l : List Nat) (w : Word16) :
      f (l.foldl (fun w k => rngNext w ^^^ if v.getLsbD k then rngTop else 0) w) =
        l.foldl (fun w k => rngNext w ^^^ if v.getLsbD k then f rngTop else 0) (f w) := by
    induction l generalizing w with
    | nil => rfl
    | cons k l ih =>
      rw [List.foldl_cons, List.foldl_cons, ih, h.sum, h.next]
      split
      · rfl
      · rw [h.zero]
  calc f v = f (rngRead rngTop v) := by rw [rngRead_top]
    _ = rngRead (f rngTop) v := by rw [rngRead, through, h.zero, rngRead]

theorem RngLinear.eq_of_top {f g : Word16 → Word16} (hf : RngLinear f) (hg : RngLinear g)
    (top : f rngTop = g rngTop) (v : Word16) : f v = g v := by
  rw [hf.eq_rngRead, hg.eq_rngRead, top]

/-! ### Powers of the advance by squaring -/

/-- `m` advances of the top bit, for `m` below `2 ^ n`, by squaring. -/
def rngPower : Nat → Nat → Word16
  | 0, _ => rngTop
  | n + 1, m =>
    let u := rngPower n (m / 2)
    if m % 2 = 1 then rngNext (rngRead u u) else rngRead u u

theorem rngPower_eq {n m : Nat} (h : m < 2 ^ n) : rngPower n m = rngNext^[m] rngTop := by
  induction n generalizing m with
  | zero => simp_all [rngPower]
  | succ n ih =>
    have half := ih (m := m / 2) (by omega)
    have square : rngRead (rngPower n (m / 2)) (rngPower n (m / 2)) = rngNext^[m / 2 + m / 2] rngTop := by
      rw [half, ← (RngLinear.iterate (m / 2)).eq_rngRead, Function.iterate_add_apply]
    rw [rngPower, square]
    split
    · next odd =>
      rw [← Function.iterate_succ_apply' rngNext, show (m / 2 + m / 2).succ = m by omega]
    · next even => rw [show m / 2 + m / 2 = m by omega]

/-! ### The period -/

theorem rngNext_iterate_period (r : Word16) : rngNext^[65535] r = r :=
  (RngLinear.iterate 65535).eq_of_top (RngLinear.iterate 0)
    (by rw [← rngPower_eq (n := 16) (by decide)]; decide +kernel) r

/-- From 0 the advance never leaves 0, so that no other register reaches it. -/
theorem rngNext_iterate_ne_zero {r : Word16} (h : r ≠ 0) (n : Nat) : rngNext^[n] r ≠ 0 := by
  intro reached
  have stays (m : Nat) : rngNext^[m] 0 = 0 := (RngLinear.iterate m).zero
  refine h ?_
  calc r = rngNext^[n * 65535] r :=
        (Function.IsPeriodicPt.const_mul (show Function.IsPeriodicPt rngNext 65535 r from rngNext_iterate_period r) n).symm
    _ = rngNext^[n * 65534] (rngNext^[n] r) := by rw [← Function.iterate_add_apply, ← Nat.mul_succ]
    _ = 0 := by rw [reached, stays]

theorem rngNext_ne_zero {r : Word16} (h : r ≠ 0) : rngNext r ≠ 0 := rngNext_iterate_ne_zero h 1

/-- A power of the advance whose sum with the identity is another power moves every register but 0. -/
theorem rngNext_iterate_ne_self {m j : Nat} (small : m < 2 ^ 16) (small' : j < 2 ^ 16)
    (sum : rngPower 16 m ^^^ rngTop = rngPower 16 j) {r : Word16} (h : r ≠ 0) : rngNext^[m] r ≠ r := by
  rw [rngPower_eq small, rngPower_eq small'] at sum
  have moved := ((RngLinear.iterate m).add (RngLinear.iterate 0)).eq_of_top (RngLinear.iterate j) sum r
  intro same
  refine rngNext_iterate_ne_zero h j ?_
  rw [← moved, same]
  simp

theorem rngNext_iterate_ne_self_of_lt {r : Word16} (h : r ≠ 0) {n : Nat} (pos : 0 < n) (below : n < 65535) :
    rngNext^[n] r ≠ r := by
  intro same
  let d := Nat.gcd n 65535
  have periodic : Function.IsPeriodicPt rngNext d r :=
    Function.IsPeriodicPt.gcd same (rngNext_iterate_period r)
  obtain ⟨q, hq⟩ : d ∣ 65535 := Nat.gcd_dvd_right n 65535
  have proper : q ≠ 1 := by
    rintro rfl
    have := Nat.le_of_dvd pos (Nat.gcd_dvd_left n 65535)
    omega
  obtain ⟨p, prime, divides⟩ := Nat.exists_prime_and_dvd proper
  obtain ⟨c, rfl⟩ := divides
  -- the proper divisor divides one of the four maximal ones
  have quotient (m : Nat) (hm : p * m = 65535) : rngNext^[m] r = r := by
    have : m = d * c := by
      have := prime.pos
      apply Nat.eq_of_mul_eq_mul_left this
      rw [hm, hq]; ring
    rw [this]
    exact periodic.mul_const c
  have whole : p ∣ 3 * 5 * 17 * 257 := ⟨d * c, by rw [show 3 * 5 * 17 * 257 = 65535 by norm_num, hq]; ring⟩
  have among : p = 3 ∨ p = 5 ∨ p = 17 ∨ p = 257 := by
    simpa only [prime.dvd_mul, Nat.prime_dvd_prime_iff_eq prime, (by norm_num : Nat.Prime 3), (by norm_num : Nat.Prime 5),
      (by norm_num : Nat.Prime 17), (by norm_num : Nat.Prime 257), or_assoc] using whole
  obtain rfl | rfl | rfl | rfl := among
  · exact rngNext_iterate_ne_self (m := 21845) (j := 43690) (by decide) (by decide) (by decide +kernel) h (quotient _ rfl)
  · exact rngNext_iterate_ne_self (m := 13107) (j := 61166) (by decide) (by decide) (by decide +kernel) h (quotient _ rfl)
  · exact rngNext_iterate_ne_self (m := 3855) (j := 8481) (by decide) (by decide) (by decide +kernel) h (quotient _ rfl)
  · exact rngNext_iterate_ne_self (m := 255) (j := 12849) (by decide) (by decide) (by decide +kernel) h (quotient _ rfl)

/-! ### The seed and the draws (R117, R118, R132) -/

theorem rngSeed_ne_zero (c : Word16) (id : Option Nat) : rngSeed c id ≠ 0 := by
  unfold rngSeed
  dsimp only
  split
  · decide
  · assumption

/-- The 96th word brings the part up with its generator seeded from that word, the checksum (R183, R187). -/
theorem takeWord_seeds {s : State} {ws : List Word16} (reading : s.stl.phase = .read ws) (last : ws.length = 95)
    (w : Word16) : (s.takeWord w).lnk.rng = rngSeed w (s.takeWord w).stl.image.stationId := by
  have up : s.takeWord w = s.bringUp (ws ++ [w]) := by
    unfold State.takeWord
    rw [reading]
    exact if_neg (by omega)
  have checksum : (freeze (ws ++ [w])).tables.checksum = w := by
    change (ws ++ [w]).getD 95 0 = w
    simp [List.getD, ← last]
  obtain ⟨_, _, _, _, asked⟩ := State.statusDemand_onlyQueue _ _
  rw [up, State.bringUp, asked]
  exact congrArg (rngSeed · _) checksum

/-- The draw of the status period's jitter, in the classes that have a period (R132). -/
theorem startPeriod_draws {s : State} {p : Nat} (period : statusPeriod s.bcu.cls s.stl.image.statusPeriod = some p) :
    s.startPeriod.lnk.rng = rngNext s.lnk.rng ∧ s.startPeriod.txq.period =
      some ⟨s.now, 1000 * (p + (rngNext s.lnk.rng).toNat % (p / 10 + 1))⟩ := by
  unfold State.startPeriod
  rw [period]
  exact ⟨rfl, rfl⟩

/-- Settles O19: the advance is linear, so its 65,535th power is the identity and no power below it moves a register
other than 0 onto itself; the seed and the draws are read off the start and the two operations. -/
theorem randomGeneratorPeriod : Obligations.RandomGeneratorPeriod := by
  refine ⟨fun r => rfl, fun r => rngNext_ne_zero, fun r _ => rngNext_iterate_period r,
    fun r n => fun h pos below => rngNext_iterate_ne_self_of_lt h pos below, fun s w ws reading last => ?_,
    fun s p n => ⟨rfl, rfl⟩, fun s normal => ?_, fun s economy => ?_⟩
  · have seeded := takeWord_seeds reading last w
    refine ⟨s.takeWord w, rfl, ?_, seeded⟩
    rw [seeded]
    exact rngSeed_ne_zero _ _
  · exact startPeriod_draws (by rw [normal]; rfl)
  · exact startPeriod_draws (by rw [economy]; rfl)

end Sys2Proof.Machine
end

section
/-! The events of the link: receptions and listening, the link's timers, the life of a PICKUP, sensing and the end of a
deferral (R103, R105, R107, R111 to R121, R128, R130). -/

namespace Sys2Proof.Machine

open Sys2Proof.Safety Sys2Proof.Claims

/-! ### The end of an event of the link (R107) -/

/-- What an event of the link leaves listening, or with no reception in progress, stands. -/
theorem State.listenReview_of_listening {s : State} (h : s.lnk.listenEnable = true ∨ s.lnk.reception = none) :
    s.listenReview = s := by
  obtain on | none := h
  · rw [State.listenReview, if_pos on]
  · exact State.listenReview_of_none none

/-- A command of the link, by what its event makes of the state. -/
theorem next_of_link {s t : State} {f : State → State} (up : s.up = true) (run : f s = t) :
    whenUp (linkEvent f) s = .next t.listenReview := by
  rw [whenUp_of_up up, linkEvent, run]

theorem next_of_listening {s t : State} {f : State → State} (up : s.up = true) (run : f s = t)
    (h : t.lnk.listenEnable = true ∨ t.lnk.reception = none) : whenUp (linkEvent f) s = .next t := by
  rw [next_of_link up run, State.listenReview_of_listening h]

theorem OnlyQueue.reception {s t : State} (h : OnlyQueue s t) : t.lnk.reception = s.lnk.reception := by
  obtain ⟨_, _, _, _, rfl⟩ := h
  rfl

theorem listening_of_calm {s : State} (h : Calm s) : s.lnk.listenEnable = true ∨ s.lnk.reception = none := by
  obtain ⟨-, -, -, -, -, -, listens⟩ := h
  exact listens

/-- What the listen enable reads (R103, R112, R113). -/
theorem Lnk.listenEnable_iff (l : Lnk) : l.listenEnable = true ↔ l.power ≠ .off ∧ l.warmUp = none ∧
    l.access ≠ .sending ∧ (l.power = .active ∨ (∃ u, l.cycle = some ⟨true, u⟩) ∨ l.holdLimit ≠ none ∨
      l.access.listens = true) := by
  have opened : l.cycle.any (·.windowOpen) = true ↔ ∃ u, l.cycle = some ⟨true, u⟩ := by
    rcases l.cycle with _ | ⟨_ | _, u⟩ <;> simp
  simp only [Lnk.listenEnable, Lnk.powerEnable, Bool.and_eq_true, Bool.or_eq_true, decide_eq_true_eq, opened,
    Option.isNone_iff_eq_none, Option.isSome_iff_ne_none]
  tauto

theorem Access.listens_iff (a : Access) : a.listens = true ↔ a = .gap ∨ a = .sense ∨ a = .backoff := by
  cases a <;> simp [Access.listens]

/-! ### Receptions (R103, R107) -/

/-- A reception goes whole to the filter, with the present uptime as its arrival time. -/
def receptionEnded (s : State) (bytes : List Byte) (count : Nat) : State :=
  { s with
    lnk := { s.lnk with reception := none, holdLimit := none },
    transit := { s.transit with receptions := s.transit.receptions ++ [⟨bytes, count, s.now⟩] } }

theorem endReception_of_some {s : State} {r : Reception} (h : s.lnk.reception = some r) :
    s.endReception = receptionEnded s r.bytes r.count := by
  rw [State.endReception, h]
  rfl

theorem Reception.whole_iff (r : Reception) : r.whole = true ↔
    2 ≤ r.count ∧ 8 ≤ nat1 r.bytes 1 ∧ nat1 r.bytes 1 ≤ 64 ∧ nat1 r.bytes 1 ≤ r.count := by
  simp [Reception.whole, and_assoc]

theorem byteReceived : ByteReceived := by
  intro s b calm
  obtain ⟨up, -⟩ := id calm
  refine ⟨fun deaf => ?_, ?_⟩
  · refine next_of_listening (f := (·.serialByte b)) up ?_ (listening_of_calm calm)
    simp [State.serialByte, deaf]
  · intro listens kept count
    have taken : s.lnk.takeByte b s.now = { s.lnk with reception := some ⟨kept, count, ⟨s.now, 5⟩⟩ } := by
      simp only [Lnk.takeByte, Reception.take, kept, count]
      cases s.lnk.reception <;> rfl
    have run : s.serialByte b = if 2 ≤ count ∧ 8 ≤ nat1 kept 1 ∧ nat1 kept 1 ≤ 64 ∧ nat1 kept 1 ≤ count then
        receptionEnded s kept count else { s with lnk := s.lnk.takeByte b s.now } := by
      rw [State.serialByte, if_pos listens, taken]
      dsimp only
      rw [Option.any_some]
      simp only [Reception.whole_iff]
      split
      · exact endReception_of_some (s := { s with lnk := { s.lnk with reception := some ⟨kept, count, ⟨s.now, 5⟩⟩ } }) rfl
      · rfl
    refine next_of_listening (f := (·.serialByte b)) up (run.trans (by rw [taken]; rfl)) ?_
    split
    · exact .inr rfl
    · exact .inl listens

/-! ### Listening (R107, R113) -/

theorem listeningEvents : ListeningEvents := by
  intro s calm
  obtain ⟨up, -⟩ := id calm
  have listens := listening_of_calm calm
  rw [Lnk.listenEnable_iff] at listens
  refine ⟨fun r hears => ?_, fun u shut => ?_, fun u opened => ?_, fun r hears held passive idle shut => ?_⟩
  · exact next_of_listening up (endReception_of_some hears) (.inr rfl)
  · refine next_of_listening up (by rw [State.openWindow, shut]; rfl) (listens.imp_left fun on => ?_)
    rw [Lnk.listenEnable_iff]
    obtain ⟨power, warm, access, -⟩ := on
    exact ⟨power, warm, access, .inr (.inl ⟨_, rfl⟩)⟩
  · have hold : (s.lnk.reception.isSome && !s.lnk.access.listens) = decide (s.lnk.reception ≠ none ∧
        s.lnk.access ≠ .gap ∧ s.lnk.access ≠ .sense ∧ s.lnk.access ≠ .backoff) := by
      rw [Bool.eq_iff_iff]
      simp only [Bool.and_eq_true, Option.isSome_iff_ne_none, Bool.not_eq_true', decide_eq_true_eq,
        ← Bool.not_eq_true, Access.listens_iff]
      tauto
    refine next_of_listening up (t := _) ?_ (?_)
    · rw [State.closeWindow, opened]
      dsimp only
      rw [if_pos rfl, hold]
      simp only [decide_eq_true_eq]
      rfl
    · by_cases silent : s.lnk.reception = none
      · exact .inr silent
      refine .inl ((Lnk.listenEnable_iff _).mpr ?_)
      obtain ⟨power, warm, access, -⟩ := listens.resolve_right silent
      refine ⟨power, warm, access, .inr (.inr ?_)⟩
      by_cases reads : s.lnk.access.listens = true
      · exact .inr reads
      · rw [Access.listens_iff, not_or, not_or] at reads
        exact .inl (by rw [if_pos ⟨silent, reads⟩]; exact Option.some_ne_none _)
  · have off : ({ s.lnk with holdLimit := none } : Lnk).listenEnable ≠ true := by
      rw [Ne, Lnk.listenEnable_iff]
      rintro ⟨-, -, -, active | ⟨u, window⟩ | held | reads⟩
      · exact passive active
      · simp [show s.lnk.cycle = _ from window] at shut
      · exact held rfl
      · simp [show s.lnk.access = _ from idle, Access.listens] at reads
    calc exec .listenHoldLimit s = .next s.endHold.listenReview := next_of_link up (ifRuns_of_some held)
      _ = .next (receptionEnded s r.bytes r.count) := by
        rw [State.listenReview, if_neg (show ¬ s.endHold.lnk.listenEnable = true from off),
          endReception_of_some (s := s.endHold) hears]
        rfl

/-! ### The link's timers and the life of a PICKUP (R111 to R113, R121, R128) -/

theorem listenCycleOf_eq (now : Uptime) (p : RadioPower) :
    listenCycleOf now p = if p = .duty ∨ p = .sparse then some ⟨true, now⟩ else none := by
  cases p <;> simp [listenCycleOf]

theorem linkTimersOver : LinkTimersOver := by
  intro s ⟨up, _⟩ silent
  refine ⟨fun warm => ?_, fun quiet => ?_, fun link => ?_⟩
  · refine next_of_listening up ?_ (.inr ?_)
    · rw [ifRuns_of_some warm, State.warmUpOver, listenCycleOf_eq]
    · exact (State.search_onlyQueue _).reception.trans silent
  · refine next_of_listening up ?_ (.inr ?_)
    · rw [ifRuns_of_some quiet, State.quietOver]
    · exact (State.search_onlyQueue _).reception.trans silent
  · exact next_of_listening up (by rw [ifRuns_of_some link]; rfl) (.inr silent)

theorem pickupLifeOver : PickupLifeOver := by
  intro s e ⟨up, _⟩ silent ageing
  refine next_of_listening up ?_ ?_
  · rw [State.pickupLifeOver, ageing]
    dsimp only
    split
    · rfl
    · unfold State.dropEntry
      split <;> rfl
  · split
    · exact .inr silent
    · refine .inr ((State.search_onlyQueue _).reception.trans ?_)
      dsimp only
      split <;> exact silent

/-- Settles O44: a reception is the bytes taken while listening; its length, its gap or the end of listening ends it. -/
theorem receptions : Obligations.Receptions := ⟨byteReceived, listeningEvents⟩

/-- Settles O45: what each timer of the link ends, and where a PICKUP goes when its life is over. -/
theorem linkAndPickupTimers : Obligations.LinkAndPickupTimers := ⟨linkTimersOver, pickupLifeOver⟩

/-! ### Sensing the channel (R103, R105, R115, R130) -/

/-- In SENSE the receiver listens, so that BUSY is read as its level. -/
theorem Lnk.busyRead_of_sense {l : Lnk} (sense : l.access = .sense)
    (read : (l.power ≠ .off ∧ l.warmUp = none) ∨ l.busy = false) : l.busyRead = l.busy := by
  rw [Lnk.busyRead]
  obtain ⟨power, warm⟩ | inactive := read
  · have listens : l.listenEnable = true :=
      (Lnk.listenEnable_iff l).mpr ⟨power, warm, by simp [sense], by simp [sense, Access.listens]⟩
    rw [listens, Bool.and_true]
  · rw [inactive, Bool.false_and]

/-- SENSE with an entry selected, its BUSY read as the level. -/
theorem State.sense_of_selected {s : State} {e : Entry} (selected : s.selectedEntry = some e)
    (read : (s.lnk.power ≠ .off ∧ s.lnk.warmUp = none) ∨ s.lnk.busy = false) : s.sense = sensing s e := by
  have level : ({ s.lnk with access := .sense, slot := none } : Lnk).busyRead = s.lnk.busy :=
    Lnk.busyRead_of_sense rfl read
  rw [State.sense, selected]
  dsimp only
  rw [level]
  rfl

theorem sensing_reception (s : State) (e : Entry) : (sensing s e).lnk.reception = s.lnk.reception := by
  unfold sensing
  split <;> rfl

theorem channelSensed_atGapAndBackoff : ChannelSensed := by
  intro s e ⟨up, _⟩ _ silent selected power warm
  have sensed := State.sense_of_selected selected (.inl ⟨power, warm⟩)
  have listens : (sensing s e).lnk.listenEnable = true ∨ (sensing s e).lnk.reception = none :=
    .inr ((sensing_reception s e).trans silent)
  refine ⟨fun gap => ?_, fun backoff => ?_⟩
  · exact next_of_listening up (by rw [State.gapOver, if_pos gap, sensed]) listens
  · exact next_of_listening up (by rw [State.backoffOver, if_pos backoff, sensed]) listens

/-- Settles O46: an inactive BUSY sends the selected entry, an active one defers. -/
theorem channelSensed : Obligations.ChannelSensed := channelSensed_atGapAndBackoff

/-! ### The end of a deferral, and a collision (R103, R115, R117, R118, R120) -/

theorem State.urgentWaits_iff (s : State) : s.urgentWaits = true ↔ ∃ x ∈ s.txq.entries, x.priority = 0 := by
  simp [State.urgentWaits]

theorem State.passZeroBackoff_of_backoff {s : State} {t : Timer} (access : s.lnk.access = .backoff)
    (slot : s.lnk.slot = some t) : s.passZeroBackoff = if t.ms = 0 then s.sense else s := by
  simp [State.passZeroBackoff, access, slot]

/-- BUSY inactive. -/
def lineFree (s : State) : State := { s with lnk := { s.lnk with busy := false } }

/-- BUSY going inactive in SENSE ends the deferral. -/
theorem next_of_deferral {s : State} (up : s.up = true) (sense : s.lnk.access = .sense) :
    exec (.busyChange false) s =
      .next (lineFree s).endDeferral.listenReview := by
  simp only [exec, execBusyChange, if_pos up, linkEvent, State.busyLevel, sense]
  rfl

/-- Any other change of BUSY takes the level alone. -/
theorem next_of_busyLevel {s : State} {active : Bool} (up : s.up = true) (silent : s.lnk.reception = none)
    (stays : ¬(s.lnk.access = .sense ∧ active = false)) :
    exec (.busyChange active) s = .next { s with lnk := { s.lnk with busy := active } } := by
  have level : s.busyLevel active = { s with lnk := { s.lnk with busy := active } } := by
    rw [State.busyLevel, if_neg (by simpa using stays)]
  simp only [exec, execBusyChange, if_pos up, linkEvent, level]
  rw [State.listenReview_of_none (s := { s with lnk := { s.lnk with busy := active } }) silent]

theorem State.endDeferral_of_urgent {s : State} {e : Entry} (selected : s.selectedEntry = some e)
    (late : 2 ≤ e.priority) (urgent : ∃ x ∈ s.txq.entries, x.priority = 0) : s.endDeferral = s.returnSelected := by
  rw [State.endDeferral, selected]
  exact if_pos (by simp [late, s.urgentWaits_iff.mpr urgent])

theorem State.endDeferral_of_first {s : State} {e : Entry} (selected : s.selectedEntry = some e)
    (first : e.priority < 2 ∨ ∀ x ∈ s.txq.entries, x.priority ≠ 0) :
    s.endDeferral = (s.drawBackoff e.priority e.attempts).passZeroBackoff := by
  rw [State.endDeferral, selected]
  refine if_neg ?_
  rw [Bool.and_eq_true, decide_eq_true_eq, s.urgentWaits_iff]
  rintro ⟨late, x, mem, urgent⟩
  obtain early | none := first
  · omega
  · exact none x mem urgent

theorem deferralEnds : DeferralEnds := by
  intro s e ⟨up, _⟩ silent
  refine ⟨fun other => ⟨_, next_of_busyLevel up silent fun h => other h.1, rfl⟩,
    fun _ => next_of_busyLevel up silent (by simp), fun sense selected late urgent => ?_,
    fun sense selected first => ?_⟩
  · rw [next_of_deferral up sense, State.endDeferral_of_urgent (s := lineFree s) selected late urgent]
    rfl
  · intro w k waiting
    have drawn : exec (.busyChange false) s = .next (if k = 0 then sensing waiting e else waiting).listenReview := by
      have zero : 10 * k = 0 ↔ k = 0 := by omega
      rw [next_of_deferral up sense, State.endDeferral_of_first (s := lineFree s) selected first,
        State.passZeroBackoff_of_backoff (t := ⟨s.now, 10 * k⟩) rfl rfl]
      simp only [zero]
      split
      · exact congrArg _ (congrArg _ (State.sense_of_selected selected (.inr rfl)))
      · rfl
    have listens : waiting.lnk.reception = none := silent
    refine ⟨fun slots => ?_, fun none => ?_, fun urgent fresh => ?_⟩
    · rw [drawn, if_neg slots, State.listenReview_of_none listens]
    · rw [drawn, if_pos none, State.listenReview_of_none ((sensing_reception waiting e).trans listens)]
    · simp [k, w, urgent, fresh, Nat.mod_one]

theorem collisionLatched : CollisionLatched := by
  intro s calm
  obtain ⟨up, -⟩ := id calm
  have latched : s.collided = { s with lnk := { s.lnk with collide := s.lnk.collide || s.lnk.access = .sending } } := by
    rw [State.collided]
    split
    · next sending => simp [sending]
    · next other => simp [other]
  exact next_of_listening up latched (listening_of_calm (s := s) calm)

/-- Settles O47: what the end of a deferral sends, draws or returns, and where COLLIDE is latched. -/
theorem deferral : Obligations.Deferral := ⟨deferralEnds, collisionLatched⟩

end Sys2Proof.Machine
end

section
/-! A statement that fails (R119, R125): a send cut by the change to OFF whose entry is not marked in flight. -/

namespace Sys2Proof.Machine

open Sys2Proof.Safety

/-- A REQUEST_RESULT that waits, its place in the join order given; the priority map gives it priority 0. -/
def resultWaiting (order : Nat) : Entry := ⟨.result ⟨1, .trip, .accepted⟩, 0, order, 0, 0, false, false⟩

/-- A send in progress, the list full and the entry of the send the last one in it, though not marked in flight, one
second before the cutoff run reaches 10 and ABSORB its limit, which sets BATTERY_POOR. -/
def sendOfWaitingEntry : State :=
  let s := State.reset
  { s with
    sfe := { s.sfe with batCount := 2400 }
    mdu := { s.mdu with
      trip := ⟨.ready, some true, false, none, none⟩, close := ⟨.ready, some true, false, none, none⟩ }
    bcu := { s.bcu with cls := some .normal, cutoffRun := 9, mode := .absorb, absorbSeconds := 14399 }
    lnk := { s.lnk with power := .active, access := .sending, selected := some 7, sendTimer := some ⟨0, 1⟩ }
    txq := { s.txq with entries := (List.range 8).map resultWaiting, nextOrder := 8 }
    rsl := { s.rsl with inhibit := some .nonreclose }
    stl := ⟨.up, { s.stl.image with vCut := 1, thresholds := ⟨0, 0, 0, 199⟩ }, s.stl.tables, none⟩ }

theorem sendOfWaitingEntry_calm : Claims.Calm sendOfWaitingEntry := by
  unfold Claims.Calm Settled
  decide +kernel

theorem sendOfWaitingEntry_queueSound : QueueSound sendOfWaitingEntry := by
  unfold QueueSound before
  decide +kernel

/-- The second gives the class CUTOFF. -/
theorem sendOfWaitingEntry_class :
    sendOfWaitingEntry.evaluated.nextClass sendOfWaitingEntry.delivered = .cutoff := by decide +kernel

/-- The limit end of ABSORB asks for a BATTERY_REPORT, whose overflow evicts the entry of the send and ends its access, so
that the change to OFF cuts no send and the send timer runs on. -/
theorem sendOfWaitingEntry_sendTimer :
    (sendOfWaitingEntry.evaluated.classed sendOfWaitingEntry.delivered).lnk.sendTimer = some ⟨0, 1⟩ := by
  decide +kernel

/-- What follows the class at the second leaves the send timer. -/
theorem sendOfWaitingEntry_oneSecond :
    (event State.oneSecond sendOfWaitingEntry).lnk.sendTimer = some ⟨0, 1⟩ := by
  obtain ⟨_, _, _, _, _, lnk⟩ := sendOfWaitingEntry.oneSecond_linkAsked.lnk
  exact (congrArg Lnk.sendTimer lnk).trans sendOfWaitingEntry_sendTimer

/-- Refutes O48, in its last part: nothing in its hypotheses marks the entry of the send in flight, and one that is
not is evicted by the BATTERY_REPORT of a limit end at the same second, before the class is taken: the change to
OFF then meets no send, and the send timer does not stop. -/
theorem not_sendEnds : ¬Obligations.SendEnds := by
  rintro ⟨-, -, -, -, -, cut⟩
  obtain ⟨t, ran, off, -⟩ := cut sendOfWaitingEntry (resultWaiting 7) sendOfWaitingEntry_calm
    sendOfWaitingEntry_queueSound (by decide) (by decide) rfl (by decide) (by decide) rfl (by decide)
  obtain rfl : event State.oneSecond sendOfWaitingEntry = t :=
    Host.Outcome.next.inj ((exec_oneSecondUpdate rfl (by decide) (by decide)).symm.trans ran)
  obtain ⟨-, cls, -⟩ := sendOfWaitingEntry.oneSecond_decided
  have stopped := congrArg Lnk.sendTimer (off (cls.trans (congrArg some sendOfWaitingEntry_class)))
  rw [sendOfWaitingEntry_oneSecond] at stopped
  cases stopped

end Sys2Proof.Machine
end

section
/-! The receive filter (R108 to R110): what fits a kind, what is read in it, the class of a reception, and what a class
leaves at the station. -/

namespace Sys2Proof.Machine

open Sys2Proof.Safety Sys2Proof.Claims

/-! ### Codes (R192) -/

theorem code_seqStateOf {n : Nat} (h : n ≤ 8) : ((seqStateOf n).map SeqState.code).getD 0 = n := by
  interval_cases n <;> rfl

theorem code_causeOf {n : Nat} (h : n ≤ 13) : ((causeOf n).map Cause.code).getD 0 = n := by
  interval_cases n <;> rfl

theorem code_positionOf {n : Nat} (h : n ≤ 3) : ((positionOf n).map Position.code).getD 0 = n := by
  interval_cases n <;> rfl

theorem code_roleOf {n : Nat} (h : n ≤ 2) : (roleOf n).code = n := by
  interval_cases n <;> rfl

/-- An event kind is read at the codes 1..8. -/
theorem eventKindOf_isSome_iff (n : Nat) : (eventKindOf n).isSome = true ↔ 1 ≤ n ∧ n ≤ 8 := by
  constructor
  · unfold eventKindOf
    split <;> simp
  · rintro ⟨least, most⟩
    interval_cases n <;> rfl

theorem code_of_eventKindOf {n : Nat} {k : EventKind} (h : eventKindOf n = some k) : k.code = n := by
  obtain ⟨least, most⟩ := (eventKindOf_isSome_iff n).mp (Option.isSome_of_eq_some h)
  interval_cases n <;> cases h <;> rfl

/-- A request kind is read at the codes 1..7. -/
theorem requestKindOf_isSome_iff (n : Nat) : (requestKindOf n).isSome = true ↔ 1 ≤ n ∧ n ≤ 7 := by
  constructor
  · unfold requestKindOf
    split <;> simp
  · rintro ⟨least, most⟩
    interval_cases n <;> rfl

theorem code_of_requestKindOf {n : Nat} {k : RequestKind} (h : requestKindOf n = some k) : k.code = n := by
  obtain ⟨least, most⟩ := (requestKindOf_isSome_iff n).mp (Option.isSome_of_eq_some h)
  interval_cases n <;> cases h <;> rfl

/-! ### The parts of a body (R188, R190) -/

theorem nat1_eq_byteOf (b : List Byte) (i : Nat) : nat1 b i = byteOf b i := rfl

theorem nat2_eq_pairOf (b : List Byte) (i : Nat) : nat2 b i = pairOf b i := by
  rw [nat2, pairOf, Nat.mul_comm]
  rfl

theorem nat3_eq (b : List Byte) (i : Nat) : nat3 b i = 65536 * byteOf b i + pairOf b (i + 1) := by
  rw [nat3, nat2_eq_pairOf, Nat.mul_comm]
  rfl

theorem tagsAt_get (b : List Byte) (i : Nat) {k n : Nat} (h : k < n) : (tagsAt b i n)[k]? = some (tagAt b (i + 3 * k)) := by
  simp [tagsAt, h]

theorem tagsFit_iff (b : List Byte) (i n : Nat) : tagsFit b i n = true ↔ TagBytes b i n := by
  simp [tagsFit, tagsAt, TagBytes, tagAt, nat2_eq_pairOf]

theorem tripRecordFits_iff (b : List Byte) (i : Nat) : tripRecordFits b i = true ↔ RecordBytes b i := by
  have rms : (∀ k < 4, pairOf b (i + 4 + 2 * k) ≤ 32768) ↔ pairOf b (i + 4) ≤ 32768 ∧ pairOf b (i + 6) ≤ 32768 ∧
      pairOf b (i + 8) ≤ 32768 ∧ pairOf b (i + 10) ≤ 32768 := by
    simp only [Nat.forall_lt_succ_right, Nat.not_lt_zero, false_imp_iff, implies_true, true_and, and_assoc]
  rw [RecordBytes, rms]
  simp only [tripRecordFits, Bool.and_eq_true, decide_eq_true_eq, and_assoc]
  simp only [nat2_eq_pairOf, nat1_eq_byteOf]

theorem qualifierFits_iff (state q : Nat) : qualifierFits state q = true ↔
    q % 16 ≤ 4 ∧ (state = 1 → q / 16 ≤ 2) ∧ (state = 4 → 1 ≤ q / 16 ∧ q / 16 ≤ 4) := by
  unfold qualifierFits
  split
  · next timing => simp [timing]
  · split
    · next fallback => simp [fallback]
    · next other neither => simp [other, neither]

/-! ### What fits a kind (R189, R191, R193) -/

theorem statusFits_iff (b : List Byte) : statusFits b = true ↔ StatusBytes b := by
  simp only [statusFits, StatusBytes, Bool.and_eq_true, Bool.or_eq_true, decide_eq_true_eq, Bool.not_eq_true',
    Nat.testBit_eq_decide_div_mod_eq, tagsFit_iff, tripRecordFits_iff, qualifierFits_iff, and_assoc,
    ← Bool.not_eq_true, or_iff_not_imp_left, not_not]
  simp only [nat3_eq, nat1_eq_byteOf]
  rfl

theorem pickupFits_iff (b : List Byte) : pickupFits b = true ↔ StationBody 2 b := by
  simp only [pickupFits, Bool.and_eq_true, decide_eq_true_eq, and_assoc]
  rfl

theorem seqEventFits_iff (b : List Byte) : seqEventFits b = true ↔ StationBody 3 b := by
  simp only [seqEventFits, Bool.and_eq_true, Bool.or_eq_true, decide_eq_true_eq, eventKindOf_isSome_iff,
    tripRecordFits_iff, and_assoc, or_iff_not_imp_left, Ne, not_not]
  rfl

theorem tagNoticeFits_iff (b : List Byte) : tagNoticeFits b = true ↔ StationBody 4 b := by
  simp only [tagNoticeFits, Bool.and_eq_true, decide_eq_true_eq, tagsFit_iff, and_assoc]
  rfl

theorem resultFits_iff (b : List Byte) : resultFits b = true ↔ StationBody 5 b := by
  simp only [resultFits, Bool.and_eq_true, decide_eq_true_eq, requestKindOf_isSome_iff, nat2_eq_pairOf, and_assoc]
  rfl

theorem batteryFits_iff (b : List Byte) : batteryFits b = true ↔ StationBody 6 b := by
  simp only [batteryFits, Bool.and_eq_true, decide_eq_true_eq, and_assoc]
  rfl

theorem requestFits_iff (b : List Byte) : requestFits b = true ↔ HandsetBody b := by
  simp only [requestFits, Bool.and_eq_true, Bool.or_eq_true, decide_eq_true_eq, requestKindOf_isSome_iff, and_assoc]
  simp only [or_iff_not_imp_left, Ne, not_not, nat2_eq_pairOf, nat1_eq_byteOf, HandsetBody]

/-! ### What is read in a kind (R109, R138 to R141, R156) -/

/-- A peer's tags are read from its flags and its records in their order. -/
theorem announced_reads (b : List Byte) (flags i n : Nat) :
    let x := announced (flags.testBit 1) (flags.testBit 2) (tagsAt b i n)
    x.tagUnknown = decide (flags / 4 % 2 = 1) ∧
    ∃ radio : List TagRecord, x.records = (if flags / 2 % 2 = 1 then ⟨0, .hotline, .station⟩ :: radio else radio) ∧
      radio.length = n ∧ ∀ k < n, ∃ v ∈ radio[k]?, v.crew = pairOf b (i + 3 * k) ∧
        (v.kind = .hotline ↔ 128 ≤ byteOf b (i + 3 * k + 2)) ∧
        v.scope = (if byteOf b (i + 3 * k + 2) % 32 = 0 then .station
          else .segment (byteOf b (i + 3 * k + 2) % 32)) := by
  refine ⟨Nat.testBit_eq_decide_div_mod_eq, tagsAt b i n, ?_, by simp [tagsAt], fun k h => ?_⟩
  · simp [announced, Nat.testBit_eq_decide_div_mod_eq]
  · refine ⟨tagAt b (i + 3 * k), by rw [tagsAt_get b i h]; rfl, nat2_eq_pairOf _ _, ?_, rfl⟩
    simp [tagAt, nat1_eq_byteOf]

theorem statusOf_reads {b : List Byte} {sender : Nat} (station : sender < 128) (fits : StatusBytes b) :
    ReadAs 1 sender b (.status (sender % 16) (statusOf b)) := by
  obtain ⟨-, -, role, state, -, cause, position, -⟩ := fits
  exact ⟨rfl, station, rfl, rfl, code_roleOf role, code_seqStateOf state, code_causeOf cause,
    code_positionOf position, announced_reads b _ 27 _⟩

theorem seqEventOf_reads {b : List Byte} {sender : Nat} {k : EventKind} (station : sender < 128)
    (fits : StationBody 3 b) (kind : eventKindOf (nat1 b 0) = some k) :
    ReadAs 3 sender b (.seqEvent (sender % 16) (seqEventOf b k)) := by
  obtain ⟨-, -, -, state, -, cause, position, -⟩ := fits
  exact ⟨rfl, station, rfl, code_of_eventKindOf kind, code_seqStateOf state, code_causeOf cause,
    code_positionOf position⟩

theorem requestOf_reads {b : List Byte} {sender : Nat} {k : RequestKind} (handset : 128 ≤ sender)
    (kind : requestKindOf (nat1 b 2) = some k) : ReadAs 16 sender b (.request (requestOf b k)) := by
  refine ⟨rfl, handset, nat2_eq_pairOf b 0, code_of_requestKindOf kind, rfl, ?_⟩
  show (if byteOf b 4 = 1 then TagKind.hotline else .hold) = .hotline ↔ byteOf b 4 = 1
  split <;> simp [*]

/-! ### Kind, sender and body (R108 check 6) -/

/-- A kind, a sender and a body that fit one another. -/
def FrameFits (kind sender : Nat) (b : List Byte) : Prop :=
  if 128 ≤ sender then kind = 16 ∧ HandsetBody b else sender % 16 ≠ 0 ∧ StationBody kind b

/-- A handset's frame is a CREW_REQUEST whose body fits. -/
theorem frameOf_handset {kind sender : Nat} {b : List Byte} (handset : 128 ≤ sender) :
    frameOf kind sender b = if kind = 16 ∧ requestFits b = true then
      (requestKindOf (nat1 b 2)).map fun k => .request (requestOf b k) else none := by
  simp [frameOf, handset]

/-- A station's frame names an id and has a body that fits its kind. -/
theorem frameOf_station {kind sender : Nat} {b : List Byte} (station : sender < 128) (named : sender % 16 ≠ 0) :
    frameOf kind sender b = match kind with
      | 1 => if statusFits b then some (.status (sender % 16) (statusOf b)) else none
      | 2 => if pickupFits b then some (.pickup (sender % 16) ⟨nat1 b 3, nat1 b 4⟩ (nat1 b 2)) else none
      | 3 => if seqEventFits b then
          (eventKindOf (nat1 b 0)).map fun k => .seqEvent (sender % 16) (seqEventOf b k) else none
      | 4 => if tagNoticeFits b then some (.tagNotice (sender % 16)
          (announced ((nat1 b 0).testBit 1) ((nat1 b 0).testBit 2) (tagsAt b 2 (nat1 b 1)))) else none
      | 5 => if resultFits b then some (.report (sender % 16)) else none
      | 6 => if batteryFits b then some (.report (sender % 16)) else none
      | _ => none := by
  unfold frameOf
  dsimp only
  rw [if_neg (Nat.not_le.mpr station), if_neg named] <;> rfl

theorem frameOf_of_fits {kind sender : Nat} {b : List Byte} (fits : FrameFits kind sender b) :
    ∃ f, frameOf kind sender b = some f ∧ ReadAs kind sender b f := by
  unfold FrameFits at fits
  split at fits
  · next handset =>
    obtain ⟨rfl, body⟩ := fits
    obtain ⟨-, -, least, most, -⟩ := id body
    obtain ⟨k, kind⟩ := Option.isSome_iff_exists.mp ((requestKindOf_isSome_iff (nat1 b 2)).mpr ⟨least, most⟩)
    exact ⟨_, by rw [frameOf_handset handset, if_pos ⟨rfl, (requestFits_iff b).mpr body⟩, kind]; rfl,
      requestOf_reads handset kind⟩
  · next station =>
    obtain ⟨named, body⟩ := fits
    rw [not_le] at station
    rw [frameOf_station station named]
    match kind, body with
    | 1, body => exact ⟨_, if_pos ((statusFits_iff b).mpr body), statusOf_reads station body⟩
    | 2, body => exact ⟨_, if_pos ((pickupFits_iff b).mpr body), rfl, station, rfl, rfl, rfl⟩
    | 3, body =>
      obtain ⟨least, most, -⟩ := id body
      obtain ⟨k, kind⟩ := Option.isSome_iff_exists.mp ((eventKindOf_isSome_iff (nat1 b 0)).mpr ⟨least, most⟩)
      exact ⟨_, (if_pos ((seqEventFits_iff b).mpr body)).trans (by rw [kind]; rfl), seqEventOf_reads station body kind⟩
    | 4, body => exact ⟨_, if_pos ((tagNoticeFits_iff b).mpr body), rfl, station, rfl, announced_reads b _ 2 _⟩
    | 5, body => exact ⟨_, if_pos ((resultFits_iff b).mpr body), .inl rfl, station, rfl⟩
    | 6, body => exact ⟨_, if_pos ((batteryFits_iff b).mpr body), .inr rfl, station, rfl⟩

theorem frameOf_of_not_fits {kind sender : Nat} {b : List Byte} (fits : ¬FrameFits kind sender b) :
    frameOf kind sender b = none := by
  unfold FrameFits at fits
  split at fits
  · next handset =>
    rw [frameOf_handset handset, if_neg]
    rwa [requestFits_iff]
  · next station =>
    rw [not_le] at station
    by_cases named : sender % 16 = 0
    · simp [frameOf, named, Nat.not_le.mpr station]
    · have body : ¬StationBody kind b := fun body => fits ⟨named, body⟩
      rw [frameOf_station station named]
      split
      · exact if_neg ((statusFits_iff b).not.mpr body)
      · exact if_neg ((pickupFits_iff b).not.mpr body)
      · exact if_neg ((seqEventFits_iff b).not.mpr body)
      · exact if_neg ((tagNoticeFits_iff b).not.mpr body)
      · exact if_neg ((resultFits_iff b).not.mpr body)
      · exact if_neg ((batteryFits_iff b).not.mpr body)
      · rfl

/-! ### The class of a reception (R108) -/

/-- A byte of a frame is the reception's byte at its place. -/
theorem nat1_take {b : List Byte} {i n : Nat} (h : i < n) : nat1 (b.take n) i = byteOf b i := by
  simp [nat1, byteOf, List.getD_eq_getElem?_getD, h]

theorem nat2_take {b : List Byte} {i n : Nat} (h : i + 1 < n) : nat2 (b.take n) i = pairOf b i := by
  rw [nat2, nat1_take h, nat1_take (Nat.lt_of_succ_lt h), pairOf, Nat.mul_comm]

section

variable {g : Nat} {own : Option Nat} {r : EndedReception}

theorem classify_of_short (h : r.count < 8 ∨ nat1 r.bytes 1 < 8) : classify g own r = .runt := by
  rw [classify, if_pos (by simpa using h)]

theorem classify_of_long (count : 8 ≤ r.count) (long : 64 < nat1 r.bytes 1) : classify g own r = .long := by
  rw [classify, if_neg (by simp; omega), if_pos long]

theorem classify_of_cut (count : 8 ≤ r.count) (least : 8 ≤ nat1 r.bytes 1) (most : nat1 r.bytes 1 ≤ 64)
    (cut : r.count < nat1 r.bytes 1) : classify g own r = .runt := by
  rw [classify, if_neg (by simp; omega), if_neg (Nat.not_lt.mpr most), if_pos cut]

/-- A reception as long as its length byte says is judged by its CRC, its group code, and then its frame. -/
theorem classify_of_whole {n : Nat} (length : nat1 r.bytes 1 = n) (least : 8 ≤ n) (most : n ≤ 64)
    (counted : n ≤ r.count) : classify g own r =
      if crcBytes (crc (r.bytes.take (n - 2))) ≠ (r.bytes.take n).drop (n - 2) then .badCrc
      else if pairOf r.bytes 2 ≠ g then .foreign
      else match frameOf (byteOf r.bytes 0) (byteOf r.bytes 4) (((r.bytes.take n).drop 5).take (n - 7)) with
        | none => .unknown
        | some f => if byteOf r.bytes 4 < 128 ∧ own = some (byteOf r.bytes 4 % 16) then .clash else .accepted f := by
  subst length
  have front : (r.bytes.take (nat1 r.bytes 1)).take (nat1 r.bytes 1 - 2) = r.bytes.take (nat1 r.bytes 1 - 2) := by
    rw [List.take_take, Nat.min_eq_left (Nat.sub_le _ _)]
  rw [classify, if_neg (by simp; omega), if_neg (by omega), if_neg (by omega), front, nat2_take (by omega),
    nat1_take (by omega), nat1_take (by omega)]
  simp only [Bool.and_eq_true, decide_eq_true_eq] <;> rfl

end

theorem filterClasses : FilterClasses := by
  intro g own r _ at_ length body whole fits
  refine ⟨classify_of_short, classify_of_long, classify_of_cut, fun least most counted => ?_⟩
  have judged := classify_of_whole (g := g) (own := own) rfl least most counted
  refine ⟨fun differs => judged.trans (if_pos (Ne.symm differs)), fun agrees other => ?_, fun agrees same => ?_⟩
  · exact judged.trans ((if_neg (not_not.mpr agrees.symm)).trans (if_pos other))
  have framed (o : Option Frame) (read : frameOf (at_ 0) (at_ 4) body = o) : classify g own r = match (generalizing := false) o with
      | none => .unknown
      | some f => if at_ 4 < 128 ∧ own = some (at_ 4 % 16) then .clash else .accepted f := by
    subst read
    exact judged.trans ((if_neg (not_not.mpr agrees.symm)).trans (if_neg (not_not.mpr same)))
  refine ⟨fun misfit => framed none (frameOf_of_not_fits misfit), fun fit low named => ?_, fun fit other => ?_⟩
  · obtain ⟨f, read, -⟩ := frameOf_of_fits fit
    exact (framed (some f) read).trans (if_pos ⟨low, named⟩)
  · obtain ⟨f, read, reads⟩ := frameOf_of_fits fit
    refine ⟨f, (framed (some f) read).trans (if_neg ?_), reads⟩
    rintro ⟨low, named⟩
    exact other.elim (fun high => Nat.not_lt.mpr high low) (fun free => free named)

/-! ### A reception that is not ACCEPTED, at a plain station (R108, R110, R165) -/

/-- A reception taken by the filter. -/
def receptionTaken (s : State) (rest : List EndedReception) : State :=
  { s with transit := { s.transit with receptions := rest } }

theorem State.rejectFrame_of_class {s : State} {r : EndedReception} {rest : List EndedReception} {c : FrameClass}
    (front : s.transit.receptions = r :: rest) (cls : s.classOf r = c) (rejected : ∀ f, c ≠ .accepted f) :
    s.rejectFrame = (receptionTaken s rest).filterEffect r.arrival c := by
  have taken : s.dropReception = receptionTaken s rest := by
    rw [State.dropReception, front]
    rfl
  rw [State.rejectFrame, front]
  dsimp only
  rw [cls, taken]
  cases c with
  | accepted f => exact absurd rfl (rejected f)
  | runt | long | badCrc | foreign | unknown | clash => rfl

/-- A station under its own id heard from another: ID_CLASH, and the inhibit reason formed with it. -/
def idClashed (s : State) : State :=
  { s with
    lnk := { s.lnk with idClash := true }
    rsl := { s.rsl with inhibit := if s.stl.fault.isSome then some .settings else some .idClash } }

theorem idClashed_plain {s : State} (plain : Plain s) : Plain (idClashed s) := by
  obtain ⟨⟨up, -, -, class', -, charger, -⟩, role, watch, storeWait, test, reception⟩ := plain
  have exits : (idClashed s).rslExits = idClashed s := by
    simp only [State.rslExits, idClashed, watch]
  have assigned : (idClashed s).chargerReview = idClashed s :=
    chargerReview_stands charger rfl rfl rfl rfl (.inl rfl)
  exact ⟨⟨up, rfl, exits, class', .inl test, assigned, .inr reception⟩, role, watch, storeWait, test, reception⟩

/-- The inhibit reason is the first thing that settles. -/
theorem State.settle_inhibit (t : State) (before : RslInputs) (second : Bool) :
    ({ t with rsl := { t.rsl with inhibit := t.formInhibit } } : State).settle before second = t.settle before second := rfl

theorem frameRejected_atPlainStation : Claims.FrameRejected := by
  intro s r rest plain front taken
  have counted (l : Lnk) (clash : l.idClash = s.lnk.idClash) (silent : l.reception = s.lnk.reception) :
      Undisturbed s { taken with lnk := l } := { idClash := clash, reception := silent, demand := .inl rfl }
  refine ⟨fun bad => ?_, fun foreign => ?_, fun unknown => ?_, fun clash => ?_⟩
  · have run : s.rejectFrame = { taken with lnk := { s.lnk with bad := min 255 (s.lnk.bad + 1) } } := by
      obtain cls | cls | cls := bad
      · exact State.rejectFrame_of_class front cls (by simp)
      · exact State.rejectFrame_of_class front cls (by simp)
      · exact State.rejectFrame_of_class front cls (by simp)
    exact next_of_undisturbed plain run (.refl _) (counted _ rfl rfl) .rfl
  · exact next_of_undisturbed plain (State.rejectFrame_of_class front foreign (by simp)) (.refl _)
      (counted _ rfl rfl) .rfl
  · exact next_of_undisturbed plain (State.rejectFrame_of_class front unknown (by simp)) (.refl _)
      (counted { s.lnk with good := min 255 (s.lnk.good + 1) } rfl rfl) .rfl
  · let heardClash : State :=
      { taken with lnk := { s.lnk with good := min 255 (s.lnk.good + 1), idClash := true } }
    let inhibited : State :=
      { heardClash with
        rsl := { s.rsl with inhibit := if s.stl.fault.isSome then some .settings else some .idClash } }
    have calm : Undisturbed (idClashed s) inhibited := { demand := .inl rfl }
    have run : s.rejectFrame = heardClash := State.rejectFrame_of_class front clash (by simp)
    calc exec .frameRejected s = .next (heardClash.settle s.rslInputs false) := by
          change whenUp (event State.rejectFrame) s = _
          rw [whenUp_of_up (plain_up plain), event, run]
      _ = .next (inhibited.settle s.rslInputs false) := congrArg _ (heardClash.settle_inhibit _ _).symm
      _ = .next inhibited := congrArg _ (calm.settle_eq (idClashed_plain plain) _ rfl .rfl)

/-- Settles O50: the checks of the filter in their order, and what each class of a reception leaves. -/
theorem frameRejected : Obligations.FrameRejected := ⟨filterClasses, frameRejected_atPlainStation⟩

end Sys2Proof.Machine
end

section
/-! What the part drives and shows, as functions of its items (R60, R84, R101, R103, R111, R113, R155). -/

namespace Sys2Proof.Machine

open Sys2Proof.Safety Sys2Proof.Claims

theorem Mdu.tripCoil_iff (m : Mdu) : m.tripCoil = true ↔ ∃ a, m.op = .trip .drive a := by
  rw [Mdu.tripCoil]
  split
  · next a op => exact iff_of_true rfl ⟨a, op⟩
  · next other => exact iff_of_false Bool.noConfusion fun ⟨a, op⟩ => other a op

theorem State.poor_iff (s : State) : s.poor = true ↔
    s.rtm.items.health.resistance.value ≤ s.stl.image.thresholds.resistance ∨
      s.rtm.items.health.testFails.value ≤ s.stl.image.thresholds.testFails ∨
      s.rtm.items.health.deepDischarge.value ≤ s.stl.image.thresholds.deepDischarge ∨
      s.rtm.items.health.absorbLimit.value ≤ s.stl.image.thresholds.absorbLimit := by
  simp [State.poor, batteryPoor, Attribute.below, or_assoc]

theorem outputsShown : OutputsShown := by
  intro s o h th
  refine ⟨s.mdu.tripCoil_iff, decide_eq_true_iff, rfl, rfl, rfl, decide_eq_true_iff, decide_eq_true_iff, ?_, rfl, ?_,
    ?_, ?_, ?_⟩
  · rw [← Access.listens_iff]
    exact s.lnk.listenEnable_iff
  · simp [o, State.outputs, State.lockoutLamp]
  · simp only [o, State.outputs, State.taggedLamp, Bool.and_eq_true, State.tagHold_iff]
  · simp only [o, State.outputs, State.batteryLamp, Bool.and_eq_true, State.poor_iff, h, th]
  · simp [o, State.outputs, State.linkLamp, Option.isSome_iff_ne_none, and_assoc]

end Sys2Proof.Machine
end

section
/-! What every operation keeps of the laws of the radio, the charger, the stores and the position (R64, R67, R75, R80 to
R84, R95, R112 to R114, R119): the relation, and what suffices for it. -/

namespace Sys2Proof.Machine

open Sys2Proof.Safety Sys2Proof.Claims

/-! ### The mechanism -/

/-- The law of the stores, read off the mechanism (R67, R68, R75). -/
def Mdu.StoresSound (m : Mdu) : Prop :=
  StoreSound m.trip ∧ StoreSound m.close ∧ ¬(m.trip.enable = true ∧ m.close.enable = true) ∧
    ((m.op = .trip .storeWait .first ∨ m.op = .trip .storeWait .second) → m.trip.state ≠ .ready)

/-- The law of the position, read off the mechanism (R64). -/
def Mdu.PositionSound (m : Mdu) : Prop :=
  (m.faultTimer ≠ none → m.op = .idle ∧ m.position = some .unknown) ∧
    (m.faultReported = true → m.position = some .unknown)

/-- `n` keeps the laws of `m`. -/
structure Mdu.Keeps (m n : Mdu) : Prop where
  stores : m.StoresSound → n.StoresSound
  position : m.PositionSound → n.PositionSound

theorem Mdu.Keeps.refl (m : Mdu) : m.Keeps m := ⟨id, id⟩

theorem Mdu.Keeps.trans {m n k : Mdu} (h : m.Keeps n) (g : n.Keeps k) : m.Keeps k :=
  ⟨g.stores ∘ h.stores, g.position ∘ h.position⟩

/-- What leaves the stores, the operation and the position's items. -/
theorem Mdu.Keeps.of_same {m n : Mdu} (trip : n.trip = m.trip := by rfl) (close : n.close = m.close := by rfl)
    (op : n.op = m.op := by rfl) (timer : n.faultTimer = m.faultTimer := by rfl)
    (position : n.position = m.position := by rfl) (reported : n.faultReported = m.faultReported := by rfl) :
    m.Keeps n where
  stores h := by rwa [Mdu.StoresSound, trip, close, op]
  position h := by rwa [Mdu.PositionSound, timer, position, reported, op]

/-- With no operation waiting for the trip store the stores alone count. -/
theorem Mdu.StoresSound.of_op {m n : Mdu} (h : m.StoresSound) (trip : n.trip = m.trip) (close : n.close = m.close)
    (waits : (n.op = .trip .storeWait .first ∨ n.op = .trip .storeWait .second) → n.trip.state ≠ .ready) :
    n.StoresSound := by
  obtain ⟨tripSound, closeSound, one, -⟩ := h
  rw [← trip] at tripSound one
  rw [← close] at closeSound one
  exact ⟨tripSound, closeSound, one, waits⟩

/-- An operation is in flight only with the position-fault timer stopped (R64). -/
theorem Mdu.PositionSound.timer_none {m : Mdu} (h : m.PositionSound) (busy : m.op ≠ .idle) : m.faultTimer = none := by
  obtain ⟨runs, -⟩ := h
  by_contra timer
  exact busy (runs timer).1

/-- An attempt waits for a store that is not READY, and drives with one that is (R67). -/
theorem Mdu.attempt_keeps (m : Mdu) (now : Uptime) (a : Attempt) (stopped : m.PositionSound → m.faultTimer = none) :
    m.Keeps (m.attempt now a) := by
  unfold Mdu.attempt
  split
  · exact ⟨fun h => h.of_op rfl rfl (by simp [Mdu.drive]), fun h => ⟨fun timer => absurd (stopped h) timer, h.2⟩⟩
  · next unready =>
    rw [Store.isReady_iff] at unready
    exact ⟨fun h => h.of_op rfl rfl fun _ => unready, fun h => ⟨fun timer => absurd (stopped h) timer, h.2⟩⟩

theorem Mdu.askTrip_keeps (m : Mdu) (now : Uptime) (o : OpCause) (w : Option Nat) : m.Keeps (m.askTrip now o w) := by
  unfold Mdu.askTrip
  split
  · exact .refl m
  · have begun : m.Keeps { m with opCause := some o, wear := w, driveStart := none, faultTimer := none } :=
      ⟨fun h => h, fun h => ⟨fun timer => absurd rfl timer, h.2⟩⟩
    exact begun.trans (Mdu.attempt_keeps _ _ _ fun _ => rfl)

theorem Mdu.endOp_keeps (m : Mdu) (now : Uptime) : m.Keeps (m.endOp now) where
  stores h := h.of_op rfl rfl (by simp [Mdu.endOp])
  position h := by
    refine ⟨fun timer => ⟨rfl, ?_⟩, h.2⟩
    by_contra known
    exact timer (if_neg known)

/-- A position published ends the report of the stay before it (R64). -/
theorem Mdu.publish_keeps (m : Mdu) (p : Position) : m.Keeps (m.publish p) where
  stores h := h
  position h := by
    refine ⟨fun timer => ?_, nofun⟩
    by_cases unknown : p = .unknown
    · subst unknown
      exact ⟨(h.1 timer).1, rfl⟩
    · simp [Mdu.publish, unknown] at timer

/-! ### The stores -/

theorem storeSound_of_off {t : Store} (off : t.enable = false) : StoreSound t := fun on => by
  rw [off] at on
  cases on

/-- A store with its enable on wants the charger. -/
theorem wants_of_storeSound {t : Store} (h : StoreSound t) (on : t.enable = true) : t.wants = true := by
  obtain ⟨read, charging | ⟨fault, due⟩⟩ := h on
  · simp [Store.wants, read, charging]
  · simp [Store.wants, read, fault, due]

theorem Store.assign_sound {t : Store} (h : StoreSound t) (wants : t.wants = true) (now : Uptime) (limit : Nat) :
    StoreSound (t.assign now limit) := by
  unfold Store.assign
  split
  · exact h
  · unfold Store.wants at wants
    rw [Bool.and_eq_true] at wants
    obtain ⟨read, state⟩ := wants
    refine fun _ => ⟨read, ?_⟩
    cases e : t.state with
    | empty => exact .inl rfl
    | charging => exact .inl rfl
    | ready => simp [e] at state
    | fault =>
      simp only [e, Option.isNone_iff_eq_none] at state
      exact .inr ⟨rfl, state⟩

theorem Store.readInput_sound {t : Store} (h : StoreSound t) (active : Bool) : StoreSound (t.readInput active) := by
  cases active with
  | true => exact storeSound_of_off rfl
  | false =>
    by_cases ready : t.state = .ready
    · have off : t.enable = false := by
        by_contra on
        obtain ⟨-, charging | ⟨fault, -⟩⟩ := h (by simpa using on)
        · rw [ready] at charging
          cases charging
        · rw [ready] at fault
          cases fault
      exact storeSound_of_off (by simpa [Store.readInput, ready] using off)
    · simp only [Store.readInput, Bool.false_eq_true, if_false, if_neg ready]
      exact fun on => ⟨rfl, (h on).2⟩

theorem Store.readInput_enable {t : Store} {active : Bool} (on : (t.readInput active).enable = true) :
    t.enable = true := by
  cases active with
  | true => cases on
  | false =>
    by_cases ready : t.state = .ready <;> simpa [Store.readInput, ready] using on

/-- The charger goes to one store at most, and makes none READY (R75). -/
theorem Mdu.assignCharger_keeps (m : Mdu) (now : Uptime) (allowed : Bool) : m.Keeps (m.assignCharger now allowed) where
  position h := h
  stores h := by
    obtain ⟨trip, close, -, waits⟩ := h
    unfold Mdu.assignCharger
    refine ⟨?_, ?_, ?_, fun waiting => ?_⟩
    · dsimp only
      split
      · next wants => exact Store.assign_sound trip wants _ _
      · exact trip
    · dsimp only
      split
      · next given =>
        simp only [Bool.and_eq_true] at given
        exact Store.assign_sound close given.1.2 _ _
      · exact storeSound_of_off (m.close.withdraw_off now)
    · rintro ⟨tripOn, closeOn⟩
      dsimp only at tripOn closeOn
      split at closeOn
      · next given =>
        simp only [Bool.and_eq_true, Bool.not_eq_true'] at given
        obtain ⟨⟨⟨unwanted, -⟩, -⟩, -⟩ := given
        rw [unwanted, if_neg Bool.noConfusion] at tripOn
        rw [wants_of_storeSound trip tripOn] at unwanted
        cases unwanted
      · rw [Store.withdraw_off] at closeOn
        cases closeOn
    · dsimp only
      split
      · next wants => exact Store.assign_not_ready wants _ _
      · exact waits waiting

/-- A trip operation that waits drives as soon as its store is READY (R67). -/
theorem Mdu.driveWhenReady_stores {m : Mdu} (trip : StoreSound m.trip) (close : StoreSound m.close)
    (one : ¬(m.trip.enable = true ∧ m.close.enable = true)) (now : Uptime) :
    (m.driveWhenReady now).StoresSound := by
  unfold Mdu.driveWhenReady
  split
  · split
    · exact ⟨trip, close, one, by simp [Mdu.drive]⟩
    · next unready => exact ⟨trip, close, one, fun _ => by rwa [Store.isReady_iff] at unready⟩
  · next none => exact ⟨trip, close, one, fun waiting => (waiting.elim (none _) (none _)).elim⟩

theorem Mdu.driveWhenReady_position {m : Mdu} (h : m.PositionSound) (now : Uptime) :
    (m.driveWhenReady now).PositionSound := by
  unfold Mdu.driveWhenReady
  split
  · next op =>
    split
    · exact ⟨fun timer => absurd (h.timer_none (by simp [op])) timer, h.2⟩
    · exact h
  · exact h

/-- A ready input read, and the operation that waits for it driven (R67, R74). -/
theorem Mdu.readInput_keeps (m : Mdu) (id : StoreId) (active : Bool) (now : Uptime) :
    m.Keeps ((m.withStore id (·.readInput active)).driveWhenReady now) where
  stores h := by
    obtain ⟨trip, close, one, -⟩ := h
    cases id with
    | trip =>
      exact Mdu.driveWhenReady_stores (m := { m with trip := m.trip.readInput active })
        (Store.readInput_sound trip active) close (fun on => one ⟨Store.readInput_enable on.1, on.2⟩) now
    | close =>
      exact Mdu.driveWhenReady_stores (m := { m with close := m.close.readInput active })
        trip (Store.readInput_sound close active) (fun on => one ⟨on.1, Store.readInput_enable on.2⟩) now
  position h := by
    have stands : (m.withStore id (·.readInput active)).PositionSound := by cases id <;> exact h
    exact Mdu.driveWhenReady_position stands now

/-- A store whose charge limit has run draws no charge and is not READY (R77). -/
theorem Mdu.overLimit_keeps (m : Mdu) (id : StoreId) (now : Uptime) : m.Keeps (m.withStore id (·.overLimit now)) where
  stores h := by
    obtain ⟨trip, close, -, waits⟩ := h
    cases id with
    | trip => exact ⟨storeSound_of_off rfl, close, nofun, nofun⟩
    | close => exact ⟨trip, storeSound_of_off rfl, nofun, waits⟩
  position h := by cases id <;> exact h

/-- A retry charge that falls due (R77). -/
theorem Mdu.retry_keeps (m : Mdu) (id : StoreId) : m.Keeps (m.withStore id fun t => { t with retry := none }) where
  stores h := by
    have due {t : Store} (sound : StoreSound t) : StoreSound { t with retry := none } := fun on => by
      obtain ⟨read, state⟩ := sound on
      exact ⟨read, state.imp_right fun fault => ⟨fault.1, rfl⟩⟩
    obtain ⟨trip, close, one, waits⟩ := h
    cases id with
    | trip => exact ⟨due trip, close, one, waits⟩
    | close => exact ⟨trip, due close, one, waits⟩
  position h := by cases id <;> exact h

/-! ### The radio -/

/-- The law of the radio under a class, with the join orders of the list (R112, R114, R119). -/
structure RadioListed (c : Option ReserveClass) (l : Lnk) (q : Txq) : Prop extends PowerCalm l, SendListed l q where
  dark : c = none ∨ c = some .cutoff → l.power = .off
  waits : l.pendingPower ≠ some .off

theorem radioListed_of_sound {s : State} (queue : QueueSound s) (radio : RadioSound s) :
    RadioListed s.bcu.cls s.lnk s.txq := by
  obtain ⟨dark, -, waits, -⟩ := id radio
  exact ⟨powerCalm_of_sound radio, sendListed_of_sound queue radio, dark, waits⟩

/-- An entry is found by its join order. -/
theorem entry_of_mem {q : Txq} (nodup : (q.entries.map Entry.order).Nodup) {e : Entry} (mem : e ∈ q.entries) :
    q.entry e.order = some e := by
  cases found : q.entry e.order with
  | none => exact absurd (List.find?_eq_none.mp found e mem) (by simp)
  | some x =>
    obtain ⟨listed, same⟩ := Txq.entry_mem found
    rw [List.inj_on_of_nodup_map nodup listed mem same]

theorem RadioListed.sound {s : State} (h : RadioListed s.bcu.cls s.lnk s.txq) : RadioSound s := by
  refine ⟨h.dark, fun off => ⟨h.idle off, ?_⟩, h.waits, h.pending, fun sending => ?_⟩
  · by_contra some
    have idle := h.idle off
    rw [h.pending some] at idle
    cases idle
  · obtain ⟨e, mem, order, flies⟩ := h.listed sending
    have found : s.selectedEntry = some e := by
      rw [State.selectedEntry, order]
      exact entry_of_mem h.nodup mem
    rw [found]
    exact flies

/-! ### The state -/

/-- `t` keeps the laws of the radio, the charger, the stores and the position that `s` has. -/
structure Keeps (s t : State) : Prop where
  radio : RadioListed s.bcu.cls s.lnk s.txq → RadioListed t.bcu.cls t.lnk t.txq
  charger : ChargerSound s → ChargerSound t
  mdu : s.mdu.Keeps t.mdu

theorem Keeps.refl (s : State) : Keeps s s := ⟨id, id, .refl _⟩

theorem Keeps.trans {s t u : State} (h : Keeps s t) (k : Keeps t u) : Keeps s u :=
  ⟨k.radio ∘ h.radio, k.charger ∘ h.charger, h.mdu.trans k.mdu⟩

/-- The two parts of an event, the later one first: its state is read off it. -/
theorem Keeps.after {s t u : State} (k : Keeps t u) (h : Keeps s t) : Keeps s u := h.trans k

/-- What leaves the battery, the link and the queue keeps the laws as the mechanism does. -/
theorem Keeps.of_mdu {s t : State} (mdu : s.mdu.Keeps t.mdu) (bcu : t.bcu = s.bcu := by rfl)
    (lnk : t.lnk = s.lnk := by rfl) (txq : t.txq = s.txq := by rfl) : Keeps s t where
  radio h := by rwa [bcu, lnk, txq]
  charger h := by rwa [ChargerSound, bcu]
  mdu := mdu

/-- What leaves all that the laws read. -/
theorem Keeps.of_stands {s t : State} (bcu : t.bcu = s.bcu := by rfl) (lnk : t.lnk = s.lnk := by rfl)
    (txq : t.txq = s.txq := by rfl) (mdu : t.mdu = s.mdu := by rfl) : Keeps s t :=
  .of_mdu (by rw [mdu]; exact .refl _) bcu lnk txq

/-- A change of the link and the queue alone keeps the laws as the radio's is kept. -/
theorem OnlyLink.keeps {s t : State} (h : OnlyLink s t)
    (radio : RadioListed s.bcu.cls s.lnk s.txq → RadioListed s.bcu.cls t.lnk t.txq) : Keeps s t := by
  obtain ⟨_, _, rfl⟩ := h
  exact ⟨radio, id, .refl _⟩

/-- What askings leave of the link keeps the law of the radio. -/
theorem LinkAsked.radioListed {s t : State} {c : Option ReserveClass} (h : LinkAsked s t)
    (k : RadioListed c s.lnk s.txq) : RadioListed c t.lnk t.txq := by
  obtain ⟨sends, -⟩ := h.sends k.toSendListed
  have calm := h.powerCalm k.toSendListed k.toPowerCalm
  obtain ⟨_, _, _, _, _, lnk⟩ := h.lnk
  refine ⟨calm, sends, fun dark => ?_, ?_⟩
  · rw [lnk]
    exact k.dark dark
  · rw [lnk]
    exact k.waits

/-- An asking for a frame. -/
theorem OnlyQueue.keeps {s t : State} (h : OnlyQueue s t) (asked : LinkAsked s t) : Keeps s t :=
  h.onlyLink.keeps asked.radioListed

/-- A change of the battery that leaves the class. -/
theorem Keeps.of_bcu {s t : State} (charger : ChargerSound s → ChargerSound t) (cls : t.bcu.cls = s.bcu.cls := by rfl)
    (lnk : t.lnk = s.lnk := by rfl) (txq : t.txq = s.txq := by rfl) (mdu : t.mdu = s.mdu := by rfl) : Keeps s t where
  radio h := by rwa [cls, lnk, txq]
  charger := charger
  mdu := by rw [mdu]; exact .refl _

section
variable (s : State)

theorem State.askSeqEvent_keeps (k : EventKind) : Keeps s (s.askSeqEvent k) :=
  (s.askSeqEvent_onlyQueue k).keeps (s.askSeqEvent_linkAsked k)

theorem State.statusDemand_keeps (r : Reason) : Keeps s (s.statusDemand r) :=
  (s.statusDemand_onlyQueue r).keeps (s.statusDemand_linkAsked r)

theorem State.askResult_keeps (n : Nat) (k : RequestKind) (o : RequestOutcome) : Keeps s (s.askResult n k o) :=
  (s.askResult_onlyQueue n k o).keeps (s.joinFrame_linkAsked _)

theorem State.askTagNotice_keeps : Keeps s s.askTagNotice :=
  s.askTagNotice_onlyQueue.keeps ((s.joinFrame_linkAsked _).trans (State.statusDemand_linkAsked _ _))

theorem State.askBattery_keeps : Keeps s s.askBattery := s.askBattery_onlyQueue.keeps s.askBattery_linkAsked

theorem State.search_keeps : Keeps s s.search := (s.search_onlyQueue).keeps s.search_linkAsked

end

end Sys2Proof.Machine
end

section
/-! What the link's own operations keep of the law of the radio: a radio power state, the senses, and the end of a send
(R112, R114 to R119). -/

namespace Sys2Proof.Machine

open Sys2Proof.Safety Sys2Proof.Claims

/-! ### The join orders of the list -/

/-- No two entries bear one join order, and each an earlier one than the next to join. -/
structure Txq.Numbered (q : Txq) : Prop where
  nodup : (q.entries.map Entry.order).Nodup
  below : ∀ e ∈ q.entries, e.order < q.nextOrder

theorem Txq.Numbered.sendListed {l : Lnk} {q : Txq} (h : q.Numbered) (waits : l.access ≠ .sending) : SendListed l q :=
  ⟨fun sending => absurd sending waits, h.nodup, h.below⟩

theorem numbered_of_listed {l : Lnk} {q : Txq} (h : SendListed l q) : q.Numbered := ⟨h.nodup, h.below⟩

/-- An entry changed in place keeps its join order. -/
theorem Txq.Numbered.change {q : Txq} (h : q.Numbered) (n : Nat) {f : Entry → Entry}
    (kept : ∀ e, (f e).order = e.order) : (q.change n f).Numbered := by
  have same (e : Entry) : (if e.order = n then f e else e).order = e.order := by
    split
    · exact kept e
    · rfl
  have orders : (q.change n f).entries.map Entry.order = q.entries.map Entry.order := by
    simp only [Txq.change_entries, List.map_map]
    exact List.map_congr_left fun e _ => same e
  refine ⟨orders ▸ h.nodup, fun e mem => ?_⟩
  obtain ⟨x, stood, rfl⟩ := List.mem_map.mp mem
  exact lt_of_eq_of_lt (same x) (h.below x stood)

theorem Txq.Numbered.remove {q : Txq} (h : q.Numbered) (n : Nat) : (q.remove n).Numbered :=
  numbered_of_listed ((h.sendListed (l := Lnk.start) nofun).remove (by simp [Lnk.start]))

/-- A join takes the next order (R124). -/
theorem State.join_numbered {s : State} (h : s.txq.Numbered) (c : Content) : (s.join c).txq.Numbered := by
  rw [State.join, State.afterJoin_txq]
  exact numbered_of_listed ((h.sendListed (l := Lnk.start) nofun).insert rfl)

theorem Txq.Numbered.keep {q : Txq} (h : q.Numbered) (e : Entry) (n : Nat) : (q.keep e n).Numbered := by
  have raised := h.change e.order (f := fun x => { x with inFlight := false, attempts := n }) fun _ => rfl
  unfold Txq.keep
  dsimp only
  split
  · next r _ =>
    obtain ⟨nodup, below⟩ := raised.change e.order
      (f := fun x => { x with content := .status (r.union (q.owed.getD Reasons.empty)) }) fun _ => rfl
    exact ⟨nodup, below⟩
  · next b _ =>
    obtain ⟨nodup, below⟩ := raised.change e.order
      (f := fun x => { x with content := .battery (q.pendingReport.getD b) }) fun _ => rfl
    exact ⟨nodup, below⟩
  · exact raised

/-! ### The entry of a send leaves (R126, R127) -/

theorem State.leave_onlyQueue (s : State) (e : Entry) : OnlyQueue s (s.leave e) := by
  have queue (q : Txq) : OnlyQueue s { s with txq := q } := ⟨q, s.lnk.access, s.lnk.selected, s.lnk.slot, rfl⟩
  unfold State.leave
  dsimp only
  split
  · split
    · exact (queue _).trans (State.join_onlyQueue _ _)
    · exact queue _
  · split
    · exact (queue _).trans (State.join_onlyQueue _ _)
    · exact queue _
  · exact queue _

theorem State.leave_numbered {s : State} (h : s.txq.Numbered) (e : Entry) : (s.leave e).txq.Numbered := by
  have left := h.remove e.order
  unfold State.leave
  dsimp only
  split
  · split
    · exact State.join_numbered ⟨left.nodup, left.below⟩ _
    · exact left
  · split
    · exact State.join_numbered ⟨left.nodup, left.below⟩ _
    · exact left
  · exact left

/-! ### A radio power state applied (R112, R119) -/

theorem State.returnUnselected_linkAsked {s : State} (waits : s.lnk.access ≠ .sending) :
    LinkAsked s s.returnUnselected := by
  unfold State.returnUnselected
  split
  · split
    · exact s.search_linkAsked
    · exact s.returnSelected_linkAsked fun _ => waits
  · exact s.search_linkAsked

/-- OFF ends any access. -/
theorem State.applyPower_off_listed {s : State} (c : Option ReserveClass) (numbered : s.txq.Numbered)
    (none : s.lnk.pendingPower = none) : RadioListed c (s.applyPower .off).lnk (s.applyPower .off).txq := by
  rw [State.applyPower, if_pos rfl]
  refine ⟨⟨fun some => absurd none some, fun _ => rfl⟩, numbered.sendListed nofun, fun _ => rfl, ?_⟩
  change s.lnk.pendingPower ≠ _
  rw [none]
  nofun

/-- A radio power state applied outside a send, as the class has it. -/
theorem State.applyPower_listed {s : State} {c : Option ReserveClass} {p : RadioPower} (numbered : s.txq.Numbered)
    (waits : s.lnk.access ≠ .sending) (none : s.lnk.pendingPower = none)
    (dark : c = .none ∨ c = some .cutoff → p = .off) :
    RadioListed c (s.applyPower p).lnk (s.applyPower p).txq := by
  by_cases lit : p = .off
  · subst lit
    exact State.applyPower_off_listed c numbered none
  have on (l : Lnk) (access : l.access = s.lnk.access) (power : l.power = p)
      (pending : l.pendingPower = s.lnk.pendingPower) : RadioListed c l s.txq := by
    refine ⟨⟨fun some => absurd (pending.trans none) some, fun off => absurd (power ▸ off) lit⟩,
      numbered.sendListed (access ▸ waits), fun c => power.trans (dark c), ?_⟩
    rw [pending, none]
    nofun
  rw [State.applyPower, if_neg lit]
  split
  · exact on _ rfl rfl rfl
  · split
    · exact on _ rfl rfl rfl
    · refine (State.returnUnselected_linkAsked ?_).radioListed (on _ rfl rfl rfl)
      exact waits

/-- The radio of a class is OFF in CUTOFF alone. -/
theorem radioOf_eq_off {c : ReserveClass} : radioOf c = .off ↔ c = .cutoff := by cases c <;> simp [radioOf]

/-- A change of class as the LNK takes it. -/
theorem State.takePower_listed {s : State} {old : Option ReserveClass} (h : RadioListed old s.lnk s.txq)
    (c : ReserveClass) :
    RadioListed (some c) (s.takePower (radioOf c)).lnk (s.takePower (radioOf c)).txq := by
  have numbered := numbered_of_listed h.toSendListed
  unfold State.takePower
  split
  · next sending =>
    split
    · unfold State.cutSend
      dsimp only
      split
      · split
        · exact State.applyPower_off_listed _ (numbered.remove _) rfl
        · exact State.applyPower_off_listed _ (numbered.keep _ _) rfl
      · exact State.applyPower_off_listed _ numbered rfl
    · next on =>
      refine ⟨⟨fun _ => sending, h.idle⟩, ⟨h.listed, h.nodup, h.below⟩, fun dark => ?_, ?_⟩
      · obtain none | cutoff := dark
        · cases none
        · exact absurd (radioOf_eq_off.mpr (Option.some.inj cutoff)) on
      · exact fun off => on (Option.some.inj off)
  · next waits =>
    refine State.applyPower_listed numbered waits (not_not.mp fun some => waits (h.pending some)) fun dark => ?_
    obtain none | cutoff := dark
    · cases none
    · exact radioOf_eq_off.mpr (Option.some.inj cutoff)

/-! ### SENSE and the send (R115, R118) -/

/-- An access that senses defers, sends its entry, or ends. -/
theorem State.sense_listed {s : State} {c : Option ReserveClass} (h : RadioListed c s.lnk s.txq)
    (waits : s.lnk.access ≠ .sending) (lit : s.lnk.power ≠ .off) : RadioListed c s.sense.lnk s.sense.txq := by
  have none : s.lnk.pendingPower = none := not_not.mp fun some => waits (h.pending some)
  unfold State.sense
  dsimp only
  split
  · next e selected =>
    split
    · exact ⟨⟨fun some => absurd none some, fun off => absurd off lit⟩,
        (numbered_of_listed h.toSendListed).sendListed nofun, h.dark, h.waits⟩
    · obtain ⟨mem, order⟩ := State.selectedEntry_mem selected
      obtain ⟨nodup, below⟩ := (numbered_of_listed h.toSendListed).change e.order
        (f := fun x => { x with inFlight := true }) fun _ => rfl
      refine ⟨⟨fun some => absurd none some, fun off => absurd off lit⟩, ⟨fun _ => ?_, nodup, below⟩,
        h.dark, h.waits⟩
      exact ⟨{ e with inFlight := true }, List.mem_map.mpr ⟨e, mem, if_pos rfl⟩, order, rfl⟩
  · exact (s.returnSelected_linkAsked fun _ => waits).radioListed h

theorem State.passZeroBackoff_listed {s : State} {c : Option ReserveClass} (h : RadioListed c s.lnk s.txq) :
    RadioListed c s.passZeroBackoff.lnk s.passZeroBackoff.txq := by
  unfold State.passZeroBackoff
  split
  · next backoff =>
    have access : s.lnk.access = .backoff := by simpa using (Bool.and_eq_true_iff.mp backoff).1
    refine State.sense_listed h (by simp [access]) fun off => ?_
    have idle := h.idle off
    rw [access] at idle
    cases idle
  · exact h

/-! ### The end of a send (R116, R119) -/

/-- A send at its end: the radio is on, as the class has it, with no change to OFF pending. -/
structure SendEnding (c : Option ReserveClass) (l : Lnk) (q : Txq) : Prop where
  lit : l.power ≠ .off
  light : ¬(c = none ∨ c = some .cutoff)
  waits : l.pendingPower ≠ some .off
  numbered : q.Numbered

theorem RadioListed.ending {c : Option ReserveClass} {l : Lnk} {q : Txq} (h : RadioListed c l q)
    (sending : l.access = .sending) : SendEnding c l q := by
  have lit : l.power ≠ .off := fun off => by
    have idle := h.idle off
    rw [sending] at idle
    cases idle
  exact ⟨lit, fun dark => lit (h.dark dark), h.waits, numbered_of_listed h.toSendListed⟩

/-- The pending power state applied, or the one in force left. -/
theorem State.applyPending_listed {s : State} {c : Option ReserveClass} (h : SendEnding c s.lnk s.txq)
    (ended : s.lnk.access ≠ .sending) : RadioListed c s.applyPending.lnk s.applyPending.txq := by
  unfold State.applyPending
  split
  · exact State.applyPower_listed (s := { s with lnk := { s.lnk with pendingPower := none } }) h.numbered ended rfl
      fun dark => absurd dark h.light
  · next none =>
    exact ⟨⟨fun some => absurd none some, fun off => absurd off h.lit⟩, h.numbered.sendListed ended,
      fun dark => absurd dark h.light, h.waits⟩

theorem State.endAccess_listed {s : State} {c : Option ReserveClass} (h : SendEnding c s.lnk s.txq) :
    RadioListed c s.endAccess.lnk s.endAccess.txq :=
  (State.search_linkAsked _).radioListed
    (State.applyPending_listed (s := { s with lnk := s.lnk.released }) ⟨h.lit, h.light, h.waits, h.numbered⟩ nofun)

/-- The entry of the send leaves, and the access ends. -/
theorem State.leave_endAccess_listed {s : State} {c : Option ReserveClass} (h : SendEnding c s.lnk s.txq) (e : Entry) :
    RadioListed c (s.leave e).endAccess.lnk (s.leave e).endAccess.txq := by
  have numbered := State.leave_numbered h.numbered e
  have left := s.leave_onlyQueue e
  refine State.endAccess_listed ⟨?_, h.light, ?_, numbered⟩
  · obtain ⟨_, _, _, _, left⟩ := left
    rw [left]
    exact h.lit
  · obtain ⟨_, _, _, _, left⟩ := left
    rw [left]
    exact h.waits

theorem State.cleanEnd_listed {s : State} {c : Option ReserveClass} (h : SendEnding c s.lnk s.txq) (e : Entry) :
    RadioListed c (s.cleanEnd e).lnk (s.cleanEnd e).txq := by
  have started (u : State) (k : SendEnding c u.lnk u.txq) : SendEnding c u.startPeriod.lnk u.startPeriod.txq := by
    unfold State.startPeriod
    split
    · exact ⟨k.lit, k.light, k.waits, k.numbered.nodup, k.numbered.below⟩
    · exact k
  have paced : SendEnding c { s.lnk with pacing := s.lnk.pacing - 1 } s.txq := ⟨h.lit, h.light, h.waits, h.numbered⟩
  unfold State.cleanEnd
  dsimp only
  split
  · exact State.leave_endAccess_listed (started _ paced) e
  · exact State.leave_endAccess_listed (s := { s with lnk := { s.lnk with pacing := s.lnk.pacing - 1 } }) paced e

theorem State.afterCollision_listed {s : State} {c : Option ReserveClass} (h : SendEnding c s.lnk s.txq) (e : Entry)
    (n : Nat) : RadioListed c (s.afterCollision e n).lnk (s.afterCollision e n).txq := by
  have kept : SendEnding c s.lnk (s.txq.keep e n) := ⟨h.lit, h.light, h.waits, h.numbered.keep e n⟩
  have drawn (q : Txq) (numbered : q.Numbered) (p : Nat) :
      SendEnding c (State.drawBackoff { s with txq := q } p n).lnk q := ⟨h.lit, h.light, h.waits, numbered⟩
  unfold State.afterCollision
  dsimp only
  split
  · exact State.endAccess_listed (s := { s with txq := s.txq.keep e n }) kept
  · split
    · exact State.endAccess_listed (drawn _ (kept.numbered.remove e.order) e.priority)
    · split
      · exact State.endAccess_listed (drawn _ kept.numbered e.priority)
      · exact State.passZeroBackoff_listed ((State.search_linkAsked _).radioListed
          (State.applyPending_listed (drawn _ kept.numbered e.priority) nofun))

theorem State.collidedEnd_listed {s : State} {c : Option ReserveClass} (h : SendEnding c s.lnk s.txq) (e : Entry) :
    RadioListed c (s.collidedEnd e).lnk (s.collidedEnd e).txq := by
  let paced : State := { s with lnk := { s.lnk with pacing := 15 } }
  have ending : SendEnding c paced.lnk paced.txq := ⟨h.lit, h.light, h.waits, h.numbered⟩
  unfold State.collidedEnd
  dsimp only
  split
  · exact State.leave_endAccess_listed ending e
  · exact State.afterCollision_listed ending e _

theorem State.endSend_listed {s : State} {c : Option ReserveClass} (h : SendEnding c s.lnk s.txq) :
    RadioListed c s.endSend.lnk s.endSend.txq := by
  let stopped : State := { s with lnk := { s.lnk with sendTimer := none, outFrame := [] } }
  have ending : SendEnding c stopped.lnk stopped.txq := ⟨h.lit, h.light, h.waits, h.numbered⟩
  unfold State.endSend
  dsimp only
  split
  · split
    · exact State.collidedEnd_listed ending _
    · exact State.cleanEnd_listed ending _
  · exact State.endAccess_listed ending

end Sys2Proof.Machine
end

section
/-! The events of the link, which keep the laws of the radio, the charger, the stores and the position (R103 to R121, R128,
R132). -/

namespace Sys2Proof.Machine

-- The lemmas are checked one after another: side by side they need more threads than the sandbox grants.
set_option Elab.async false

open Sys2Proof.Safety Sys2Proof.Claims

/-- What leaves the radio, the access and the queue keeps the law of the radio. -/
theorem RadioListed.of_same {c : Option ReserveClass} {l k : Lnk} {q : Txq} (h : RadioListed c l q)
    (power : k.power = l.power := by rfl) (access : k.access = l.access := by rfl)
    (selected : k.selected = l.selected := by rfl) (pending : k.pendingPower = l.pendingPower := by rfl) :
    RadioListed c k q := by
  obtain ⟨⟨waits, idle⟩, ⟨listed, nodup, below⟩, dark, on⟩ := h
  rw [← access, ← pending] at waits
  rw [← power, ← access] at idle
  rw [← access, ← selected] at listed
  rw [← power] at dark
  rw [← pending] at on
  exact ⟨⟨waits, idle⟩, ⟨listed, nodup, below⟩, dark, on⟩

theorem Keeps.of_lnk {s t : State} (power : t.lnk.power = s.lnk.power := by rfl)
    (access : t.lnk.access = s.lnk.access := by rfl) (selected : t.lnk.selected = s.lnk.selected := by rfl)
    (pending : t.lnk.pendingPower = s.lnk.pendingPower := by rfl) (txq : t.txq = s.txq := by rfl)
    (bcu : t.bcu = s.bcu := by rfl) (mdu : t.mdu = s.mdu := by rfl) : Keeps s t where
  radio h := by
    rw [bcu, txq]
    exact h.of_same power access selected pending
  charger h := by rwa [ChargerSound, bcu]
  mdu := by rw [mdu]; exact .refl _

/-- An access other than a send keeps the radio on. -/
theorem RadioListed.lit {c : Option ReserveClass} {l : Lnk} {q : Txq} (h : RadioListed c l q) (busy : l.access ≠ .idle) :
    l.power ≠ .off := fun off => busy (h.idle off)

section
variable (s : State)

theorem State.startPeriod_keeps : Keeps s s.startPeriod := by
  refine s.startPeriod_onlyLink.keeps fun h => ?_
  unfold State.startPeriod
  split
  · exact ⟨⟨h.pending, h.idle⟩, ⟨h.listed, h.nodup, h.below⟩, h.dark, h.waits⟩
  · exact h

theorem State.endReception_keeps : Keeps s s.endReception := by
  obtain ⟨_, _, _, h⟩ := s.endReception_frame
  rw [h]
  exact .of_lnk

theorem State.listenReview_keeps : Keeps s s.listenReview := by
  obtain ⟨_, _, _, h⟩ := s.listenReview_frame
  rw [h]
  exact .of_lnk

theorem State.serialByte_keeps (b : Byte) : Keeps s (s.serialByte b) := by
  unfold State.serialByte
  dsimp only
  split
  · split
    · exact (State.endReception_keeps _).after .of_lnk
    · exact .of_lnk
  · exact .refl s

/-- An access in GAP or BACKOFF that senses. -/
theorem State.sense_keeps (waits : s.lnk.access ≠ .sending) (busy : s.lnk.access ≠ .idle) : Keeps s s.sense :=
  s.sense_onlyLink.keeps fun h => State.sense_listed h waits (h.lit busy)

theorem State.gapOver_keeps : Keeps s s.gapOver := by
  unfold State.gapOver
  split
  · next gap => exact s.sense_keeps (by simp [gap]) (by simp [gap])
  · exact .refl s

theorem State.backoffOver_keeps : Keeps s s.backoffOver := by
  unfold State.backoffOver
  split
  · next backoff => exact s.sense_keeps (by simp [backoff]) (by simp [backoff])
  · exact .refl s

theorem State.sendOver_keeps : Keeps s s.sendOver := by
  refine s.sendOver_onlyLink.keeps fun h => ?_
  unfold State.sendOver
  split
  · next sending => exact State.endSend_listed (h.ending sending)
  · exact h

theorem State.returnSelected_keeps (waits : s.lnk.access ≠ .sending) : Keeps s s.returnSelected :=
  s.returnSelected_onlyQueue.keeps (s.returnSelected_linkAsked fun _ => waits)

/-- The end of a deferral draws a backoff or returns the entry (R115, R118, R120). -/
theorem State.endDeferral_keeps (sense : s.lnk.access = .sense) : Keeps s s.endDeferral := by
  have drawn (p n : Nat) : Keeps s (s.drawBackoff p n).passZeroBackoff := by
    have link : OnlyLink s (s.drawBackoff p n).passZeroBackoff :=
      OnlyLink.trans ⟨_, _, rfl⟩ (State.passZeroBackoff_onlyLink _)
    refine link.keeps fun h => State.passZeroBackoff_listed ?_
    have none : s.lnk.pendingPower = none := not_not.mp fun some => by
      have sending := h.pending some
      rw [sense] at sending
      cases sending
    exact ⟨⟨fun some => absurd none some, fun off => absurd off (h.lit (by simp [sense]))⟩,
      (numbered_of_listed h.toSendListed).sendListed nofun, h.dark, h.waits⟩
  unfold State.endDeferral
  split
  · split
    · exact s.returnSelected_keeps (by simp [sense])
    · exact drawn _ _
  · exact s.returnSelected_keeps (by simp [sense])

theorem State.busyLevel_keeps (active : Bool) : Keeps s (s.busyLevel active) := by
  have level : Keeps s { s with lnk := { s.lnk with busy := active } } := .of_lnk
  unfold State.busyLevel
  dsimp only
  split
  · next ended =>
    have sense : s.lnk.access = .sense := by simpa using (Bool.and_eq_true_iff.mp ended).1
    exact level.trans (State.endDeferral_keeps _ sense)
  · exact level

theorem State.collided_keeps : Keeps s s.collided := by
  unfold State.collided
  split
  · exact .of_lnk
  · exact .refl s

theorem State.warmUpOver_keeps : Keeps s s.warmUpOver := (State.search_keeps _).after .of_lnk

theorem State.quietOver_keeps : Keeps s s.quietOver := (State.search_keeps _).after .of_lnk

theorem State.openWindow_keeps : Keeps s s.openWindow := by
  unfold State.openWindow
  split
  · split
    · exact .refl s
    · exact .of_lnk
  · exact .refl s

theorem State.closeWindow_keeps : Keeps s s.closeWindow := by
  unfold State.closeWindow
  split
  · split
    · exact .of_lnk
    · exact .refl s
  · exact .refl s

/-- A PICKUP whose life is over is marked in flight, and leaves otherwise (R128). -/
theorem State.pickupLifeOver_keeps : Keeps s s.pickupLifeOver := by
  unfold State.pickupLifeOver
  split
  · next e ageing =>
    have mem : e ∈ s.txq.entries := List.mem_of_find?_eq_some ageing
    split
    · refine OnlyLink.keeps ⟨_, _, rfl⟩ fun h => ?_
      obtain ⟨listed, nodup, below⟩ := h.toSendListed.change e.order
        (f := fun x => { x with lifeOver := true }) fun _ => ⟨rfl, rfl⟩
      exact ⟨h.toPowerCalm, ⟨listed, nodup, below⟩, h.dark, h.waits⟩
    · next waits => exact (s.dropEntry_onlyQueue _).keeps (s.dropEntry_linkAsked mem (by simpa using waits))
  · exact .refl s

theorem State.periodOver_keeps : Keeps s s.periodOver := by
  have stopped : Keeps s { s with txq := { s.txq with period := none } } :=
    OnlyLink.keeps ⟨_, _, rfl⟩ fun h => ⟨h.toPowerCalm, ⟨h.listed, h.nodup, h.below⟩, h.dark, h.waits⟩
  exact stopped.trans ((State.statusDemand_keeps _ _).trans (State.startPeriod_keeps _))

/-- A quiet timer started returns an entry that is not being sent (R121). -/
theorem State.startQuiet_keeps (a : Uptime) (ms : Nat) : Keeps s (s.startQuiet a ms) := by
  have started : Keeps s { s with lnk := { s.lnk with quiet := some ⟨a, ms⟩ } } := .of_lnk
  unfold State.startQuiet
  dsimp only
  split
  · split
    · split
      · next returned =>
        refine started.trans (State.returnSelected_keeps _ fun sending => ?_)
        simp [show s.lnk.access = .sending from sending, Access.listens] at returned
      · exact started
    · exact started
  · exact .refl s

/-- A frame taken by the filter (R108). -/
theorem State.heard_keeps (a : Uptime) (k : FrameClass) : Keeps s (s.dropReception.filterEffect a k) := by
  cases k <;> exact .of_lnk

end

end Sys2Proof.Machine
end

section
/-! The battery's operations, which keep those laws (R80 to R98). -/

namespace Sys2Proof.Machine

-- The lemmas are checked one after another: side by side they need more threads than the sandbox grants.
set_option Elab.async false

open Sys2Proof.Safety Sys2Proof.Claims

/-! ### The charger and the test -/

theorem chargerSound_iff (s : State) : ChargerSound s ↔ s.bcu.duty ≤ 255 ∧
    (s.bcu.mode = .off ∨ s.bcu.mode = .test → s.bcu.duty = 0) ∧ (s.bcu.mode = .off ↔ s.bcu.supplyOk = false) ∧
    (s.bcu.mode = .test ↔ s.bcu.test ≠ none) ∧ (s.bcu.loadTimer ≠ none ↔ s.bcu.test ≠ none) := by
  simp [ChargerSound, Bcu.testLoad, Option.isSome_iff_ne_none]

/-- What leaves the charger's mode, its duty, the supply and the test. -/
theorem Keeps.of_charger {s t : State} (mode : t.bcu.mode = s.bcu.mode := by rfl)
    (duty : t.bcu.duty = s.bcu.duty := by rfl) (supply : t.bcu.supplyOk = s.bcu.supplyOk := by rfl)
    (test : t.bcu.test = s.bcu.test := by rfl) (timer : t.bcu.loadTimer = s.bcu.loadTimer := by rfl)
    (cls : t.bcu.cls = s.bcu.cls := by rfl) (lnk : t.lnk = s.lnk := by rfl) (txq : t.txq = s.txq := by rfl)
    (mdu : t.mdu = s.mdu := by rfl) : Keeps s t := by
  refine .of_bcu (fun h => ?_) cls lnk txq mdu
  rw [chargerSound_iff] at h ⊢
  rwa [mode, duty, supply, test, timer]

/-- The charger out of TEST, with the mode of its supply and a duty of 0 (R95, R97). -/
theorem chargerSound_of_leaveTest {s : State} {b : Bcu} (mode : s.bcu.mode = b.leaveTest.mode := by rfl)
    (duty : s.bcu.duty = 0 := by rfl) (supply : s.bcu.supplyOk = b.supplyOk := by rfl)
    (test : s.bcu.test = none := by rfl) (timer : s.bcu.loadTimer = none := by rfl) : ChargerSound s := by
  rw [chargerSound_iff, mode, duty, supply, test, timer, Bcu.leaveTest, Bcu.enterMode]
  cases b.supplyOk <;> simp

section
variable (s : State)

theorem State.abortTest_keeps : Keeps s s.abortTest :=
  .trans (t := { s with bcu := s.bcu.aborted s.now }) (.of_bcu fun _ => chargerSound_of_leaveTest (b := s.bcu))
    (s.abortTest_onlyQueue.keeps (State.askBattery_linkAsked _))

theorem State.abortReview_keeps : Keeps s s.abortReview := by
  obtain h | h := s.abortReview_cases <;> rw [h]
  · exact .refl s
  · exact s.abortTest_keeps

theorem State.changeHealth_keeps (f : Health Attribute → Health Attribute) : Keeps s (s.changeHealth f) := by
  unfold State.changeHealth
  dsimp only
  split
  · exact (State.askBattery_keeps _).after .of_stands
  · exact .of_stands

/-- One of the modes BULK, ABSORB and FLOAT entered from another of them (R83). -/
theorem State.charger_keeps {m : ChargerMode} (was : s.bcu.mode ≠ .off ∧ s.bcu.mode ≠ .test)
    (enters : m ≠ .off ∧ m ≠ .test) : Keeps s (s.charger m) := by
  refine .of_bcu fun h => ?_
  rw [chargerSound_iff] at h ⊢
  simp only [State.charger, Bcu.enterMode, was, enters] at h ⊢
  simpa [was, enters] using h

theorem State.chargerExit_keeps (mV : Int) : Keeps s (s.chargerExit mV) := by
  unfold State.chargerExit
  split
  · next bulk =>
    split
    · exact s.charger_keeps (by simp [bulk]) (by simp)
    · exact .refl s
  · next absorb =>
    have floats : Keeps s (s.charger .float) := s.charger_keeps (by simp [absorb]) (by simp)
    split
    · exact floats.trans .of_stands
    · split
      · exact floats.trans (State.changeHealth_keeps _ _)
      · exact .refl s
  · next float =>
    split
    · exact s.charger_keeps (by simp [float]) (by simp)
    · exact .refl s
  · exact .refl s
  · exact .refl s

/-- The step of a mode keeps the duty a byte, and 0 in OFF and TEST (R82). -/
theorem dutyStep_bounds (c : Settings) (mode : ChargerMode) (mV mA : Int) {d : Nat} (h : d ≤ 255) :
    dutyStep c mode mV mA d ≤ 255 ∧ (mode = .off ∨ mode = .test → dutyStep c mode mV mA d = 0) := by
  cases mode with
  | off | test => exact ⟨Nat.zero_le _, fun _ => rfl⟩
  | bulk | absorb | float =>
    refine ⟨?_, by simp⟩
    unfold dutyStep
    dsimp only
    split_ifs <;> omega

theorem State.chargerStep_keeps (m : Mean) : Keeps s (s.chargerStep m) := by
  have counted (b : Bcu) : (b.count s.stl.image m.mV m.mA).mode = b.mode ∧
      (b.count s.stl.image m.mV m.mA).duty = b.duty ∧ (b.count s.stl.image m.mV m.mA).supplyOk = b.supplyOk ∧
      (b.count s.stl.image m.mV m.mA).test = b.test ∧ (b.count s.stl.image m.mV m.mA).loadTimer = b.loadTimer ∧
      (b.count s.stl.image m.mV m.mA).cls = b.cls := by
    unfold Bcu.count
    split <;> simp
  obtain ⟨mode, duty, supply, test, timer, cls⟩ :=
    counted { s.bcu with duty := dutyStep s.stl.image s.bcu.mode m.mV m.mA s.bcu.duty }
  refine .trans (.of_bcu (fun h => ?_) cls) (State.chargerExit_keeps _ _)
  rw [chargerSound_iff] at h ⊢
  obtain ⟨byte, -, rest⟩ := h
  obtain ⟨steps, off⟩ := dutyStep_bounds s.stl.image s.bcu.mode m.mV m.mA byte
  rw [mode, duty, supply, test, timer]
  exact ⟨steps, off, rest⟩

theorem State.chargedSecond_keeps (m : Mean) : Keeps s (s.chargedSecond m) := by
  have delivered : Keeps s { s with bcu := { s.bcu with latestMean := some m } } := .of_charger
  have counted (u : State) : Keeps u (u.countCharge m) := by
    unfold State.countCharge
    split
    · exact .refl u
    · exact .of_stands
  exact delivered.trans ((State.chargerStep_keeps _ m).trans (counted _))

/-- The test in progress keeps its loaded mean (R95). -/
theorem keeps_of_keepLoaded {b : Bcu} (m : Mean) (h : Keeps s { s with bcu := b }) :
    Keeps s { s with bcu := b.keepLoaded m } := by
  refine h.trans (.of_bcu fun k => ?_)
  rw [chargerSound_iff] at k ⊢
  simpa [Bcu.keepLoaded] using k

/-! ### The class published (R90, R97, R112) -/

theorem State.publishClass_keeps (c : ReserveClass) : Keeps s (s.publishClass c) := by
  let decided : State := { s with bcu := { s.bcu with cls := some c } }
  have reviewed := decided.abortReview_keeps
  have stopped (u : State) : OnlyLink u { u with txq := { u.txq with period := none } } := ⟨_, _, rfl⟩
  have link : OnlyLink decided.abortReview (s.publishClass c) :=
    (State.takePower_onlyLink _ _).trans ((stopped _).trans (State.startPeriod_onlyLink _))
  have cls : (s.publishClass c).bcu.cls = some c := (s.publishClass_batteryStands c).cls
  refine ⟨fun h => ?_, fun h => ?_, ?_⟩
  · have asked : RadioListed s.bcu.cls decided.abortReview.lnk decided.abortReview.txq :=
      (decided.abortReview_classStands.toLinkAsked.after (s := s) rfl rfl).radioListed h
    have taken := State.takePower_listed asked c
    have quiet : Keeps ((decided.abortReview).takePower (radioOf c)) (s.publishClass c) := by
      refine Keeps.trans (t := { (decided.abortReview).takePower (radioOf c) with
        txq := { ((decided.abortReview).takePower (radioOf c)).txq with period := none } }) ?_
        (State.startPeriod_keeps _)
      exact (stopped _).keeps fun h => ⟨h.toPowerCalm, ⟨h.listed, h.nodup, h.below⟩, h.dark, h.waits⟩
    refine quiet.radio ?_
    have stands : ((decided.abortReview).takePower (radioOf c)).bcu.cls = some c := by
      obtain ⟨_, _, e⟩ := State.takePower_onlyLink decided.abortReview (radioOf c)
      rw [e]
      exact decided.abortReview_classStands.cls
    rwa [stands]
  · have sound : ChargerSound decided := h
    obtain ⟨_, _, e⟩ := link
    rw [e]
    exact reviewed.charger sound
  · have kept : s.mdu.Keeps decided.abortReview.mdu := reviewed.mdu
    obtain ⟨_, _, e⟩ := link
    rw [e]
    exact kept

/-! ### Supply and the test (R80, R92 to R98) -/

/-- A change of the supply takes the charger in or out of OFF (R80). -/
theorem State.supplyChanged_keeps {active : Bool} (changes : active ≠ s.bcu.supplyOk) :
    Keeps s (s.supplyChanged active) := by
  unfold State.supplyChanged
  dsimp only
  cases active with
  | true =>
    have off : s.bcu.supplyOk = false := by simpa using changes.symm
    rw [if_pos rfl]
    split
    · next mode =>
      refine .of_bcu fun h => ?_
      rw [chargerSound_iff] at h ⊢
      obtain ⟨byte, -, -, test, timer⟩ := h
      have untested : s.bcu.test = none := by simpa [show s.bcu.mode = .off from mode] using test
      simpa [State.charger, Bcu.enterMode, off, untested] using And.intro byte timer
    · next mode =>
      refine .of_bcu fun h => ?_
      rw [chargerSound_iff] at h
      obtain ⟨-, -, supplied, -⟩ := h
      exact absurd (supplied.mpr off) mode
  | false =>
    rw [if_neg Bool.noConfusion]
    split
    · exact .trans (t := { s with bcu := Bcu.aborted { s.bcu with supplyOk := false } s.now })
        (.of_bcu fun _ => chargerSound_of_leaveTest (b := { s.bcu with supplyOk := false }))
        ((State.abortTest_onlyQueue { s with bcu := { s.bcu with supplyOk := false } }).keeps
          (State.askBattery_linkAsked _))
    · next running =>
      have none : s.bcu.test = .none := by simpa using running
      refine .of_bcu fun h => ?_
      rw [chargerSound_iff] at h ⊢
      obtain ⟨-, -, -, -, timer⟩ := h
      simpa [State.charger, Bcu.enterMode, none] using timer

theorem State.supplyReading_keeps (active : Bool) : Keeps s (s.supplyReading active) := by
  have read : Keeps s { s with bcu := { s.bcu with supplyRead := true } } := .of_charger
  unfold State.supplyReading
  dsimp only
  split
  · exact read
  · next changes => exact read.trans (State.supplyChanged_keeps _ changes)

/-- A test begins with supply alone (R93). -/
theorem State.beginTest_keeps (supply : s.bcu.supplyOk = true) (src : TestSource) : Keeps s (s.beginTest src) := by
  have drawn : Keeps s (s.meanOr s.bcu.latestMean).2 ∧ (s.meanOr s.bcu.latestMean).2.bcu = s.bcu := by
    cases s.bcu.latestMean <;> exact ⟨.of_stands, rfl⟩
  obtain ⟨drawn, bcu⟩ := drawn
  refine drawn.trans (.of_bcu fun _ => ?_)
  rw [chargerSound_iff]
  simp [State.beginTest, Bcu.enterMode, bcu, supply]

theorem supply_of_testBar {s : State} (h : s.testBar = none) : s.bcu.supplyOk = true := by
  obtain ⟨-, supply, -⟩ := (testBar_eq_none_iff s).mp h
  exact supply

theorem State.scheduledAttempt_keeps : Keeps s s.scheduledAttempt := by
  unfold State.scheduledAttempt
  split
  · next bar => exact s.beginTest_keeps (supply_of_testBar (Option.isNone_iff_eq_none.mp bar)) _
  · exact .of_charger

theorem State.testAsked_keeps : Keeps s s.testAsked.1 := by
  unfold State.testAsked
  split
  · exact .refl s
  · next bar => exact s.beginTest_keeps (supply_of_testBar bar) _

theorem State.testRetryOver_keeps : Keeps s s.testRetryOver := by
  have stopped : Keeps s { s with bcu := { s.bcu with retryTimer := none } } := .of_charger
  unfold State.testRetryOver
  dsimp only
  split
  · exact stopped.trans (State.scheduledAttempt_keeps _)
  · exact stopped

theorem State.rollDay_keeps : Keeps s s.rollDay := by
  have attempted (n : Nat) : Keeps s (State.scheduledAttempt (State.retain
      { s with bcu := { s.bcu with daySeconds := 0, testDue := true } } fun r => { r with daysSinceTest := n })) :=
    (State.scheduledAttempt_keeps _).after .of_charger
  unfold State.rollDay
  dsimp only
  split
  · split
    · exact (attempted _).trans (keeps_of_keepLoaded _ _ (.refl _))
    · exact attempted _
  · exact .of_charger

theorem State.applyResult_keeps (t : TestResult) : Keeps s (s.applyResult t) := by
  have recorded (f : Retained → Retained) (u : State) : Keeps u (u.retain f) := .of_stands
  have left (u : State) : Keeps u { u with bcu := { u.bcu.leaveTest with latestAttempt := some t.outcome.attempt } } :=
    .of_bcu fun _ => chargerSound_of_leaveTest (b := u.bcu)
  have counted (u : State) : Keeps u { u with bcu := { u.bcu with daySeconds := 0, testDue := false } } := .of_charger
  unfold State.applyResult
  exact (recorded _ s).trans ((left _).trans ((State.changeHealth_keeps _ _).trans ((recorded _ _).trans
    ((counted _).trans (State.askBattery_keeps _)))))

theorem State.loadOver_keeps : Keeps s s.loadOver := by
  have drawn (m : Option Mean) : Keeps s (s.meanOr m).2 := by
    cases m <;> exact .of_stands
  unfold State.loadOver
  split
  · next t _ => exact (drawn t.loaded).trans (State.applyResult_keeps _ _)
  · exact .refl s

end

end Sys2Proof.Machine
end

section
/-! The operations of the sequence and of the restoration logic, which keep those laws (R20, R38 to R58, R164 to R174): of
all they change the laws read the operation asked of the mechanism and the frames asked for. -/

namespace Sys2Proof.Machine

-- The lemmas are checked one after another: side by side they need more threads than the sandbox grants.
set_option Elab.async false

open Sys2Proof.Safety Sys2Proof.Claims

section
variable (s : State)

/-! ### Trips, dead states and lockout (R41 to R51, R56 to R58) -/

theorem State.enter_keeps (x : SeqState) (c : Option Cause) : Keeps s (s.enter x c) := by
  obtain ⟨_, h, -⟩ := s.enter_frame x c
  rw [h]
  exact .of_stands

theorem State.toLockout_keeps (c : Cause) : Keeps s (s.toLockout c) :=
  .trans (t := State.enter { s with sqc := { s.sqc.stopTimers with closeSource := none } } .lockout (some c))
    ((State.enter_keeps _ _ _).after .of_stands) (State.askSeqEvent_keeps _ _)

theorem State.enterStuck_keeps (c : Cause) : Keeps s (s.enterStuck c) :=
  .trans (t := { s with sqc := { s.sqc.stopTimers with closeSource := none, opCause := none } }) .of_stands
    (State.enter_keeps _ _ _)

theorem State.reclaim_keeps (shot : Nat) : Keeps s (s.reclaim shot) := by
  unfold State.reclaim
  exact (State.enter_keeps _ _ _).after .of_stands

theorem State.askTrip_keeps (o : OpCause) (e : ElementSet) (r : Ch4 Nat) : Keeps s (s.askTrip o e r) :=
  .of_mdu (Mdu.askTrip_keeps _ _ _ _)

theorem State.trip_keeps (o : OpCause) (e : ElementSet) (r : Ch4 Nat) : Keeps s (s.trip o e r) := by
  unfold State.trip
  exact ((State.enter_keeps _ _ _).after .of_stands).trans (State.askTrip_keeps _ _ _ _)

theorem State.latestRms_keeps : Keeps s s.latestRms.2 := by
  obtain ⟨_, h⟩ := s.latestRms_frame
  rw [h]
  exact .of_stands

theorem State.tripUnasked_keeps (o : OpCause) : Keeps s (s.tripUnasked o) :=
  s.latestRms_keeps.trans (State.trip_keeps _ _ _ _)

theorem State.stuckTrip_keeps (o : OpCause) : Keeps s (s.stuckTrip o) :=
  s.latestRms_keeps.trans ((State.askTrip_keeps _ _ _ _).after .of_stands)

theorem State.takeTripRequest_keeps (r : TripRequest) : Keeps s (s.takeTripRequest r) := by
  have taken : Keeps s (State.trip
      { s with sqc := { s.sqc with shot := shotAfterTrip s.sqc.shot s.stl.image.l } } .protection
      r.elements r.rms) := (State.trip_keeps _ _ _ _).after .of_stands
  have hand : Keeps s s.handState := by
    unfold State.handState
    split
    · exact .refl s
    · exact .of_stands
  unfold State.takeTripRequest
  split
  case h_1 | h_2 | h_3 => exact taken
  case h_4 | h_9 => exact .refl s
  case h_5 | h_6 | h_7 | h_8 => exact hand

theorem State.manualTrip_keeps (o : OpCause) : Keeps s (s.manualTrip o).1 := by
  unfold State.manualTrip
  split
  case h_1 | h_2 | h_3 => exact s.tripUnasked_keeps o
  case h_4 | h_5 => exact s.toLockout_keeps _
  case h_6 | h_7 | h_8 => exact .refl s
  case h_9 =>
    split
    · exact .refl s
    · exact s.stuckTrip_keeps o

theorem State.restoreOpen_keeps : Keeps s s.restoreOpen.1 := by
  unfold State.restoreOpen
  split
  · exact s.tripUnasked_keeps _
  · exact .refl s

theorem State.takeOpen_keeps (ms : Nat) : Keeps s (s.takeOpen ms) := by
  have confirmed : Keeps s { s with sqc := s.sqc.confirmed ms } := .of_stands
  have events (u : State) (k : EventKind) : Keeps u (u.askTripEvents k) :=
    (u.askSeqEvent_keeps _).trans (State.askSeqEvent_keeps _ _)
  have dead (u : State) : Keeps u u.enterDead :=
    .trans (t := { u with sqc := { u.sqc with deadTimer := some (u.timer (deadTime u.stl.image u.sqc.shot)) } })
      .of_stands (State.enter_keeps _ _ _)
  unfold State.takeOpen
  dsimp only
  split
  · split
    · split
      · exact confirmed.trans ((dead _).trans (events _ _))
      · exact confirmed.trans ((State.enter_keeps _ _ _).trans (events _ _))
    · exact confirmed.trans ((State.enter_keeps _ _ _).trans (events _ _))
    · exact .refl s
  · exact (State.askSeqEvent_keeps _ _).after .of_stands
  · exact .refl s

theorem State.takeTripFail_keeps : Keeps s s.takeTripFail := by
  unfold State.takeTripFail
  split
  · exact (s.enterStuck_keeps _).trans (State.askSeqEvent_keeps _ _)
  · exact (State.askSeqEvent_keeps _ _).after .of_stands
  · exact .refl s

theorem State.takePositionFault_keeps : Keeps s s.takePositionFault := by
  unfold State.takePositionFault
  split
  · exact .of_stands
  · exact (s.enterStuck_keeps _).trans (State.askSeqEvent_keeps _ _)
  · exact s.enterStuck_keeps _

theorem State.takeClosed_keeps : Keeps s s.takeClosed := by
  unfold State.takeClosed
  split
  · exact (s.reclaim_keeps _).trans (State.askSeqEvent_keeps _ _)
  · exact .refl s

theorem State.takeCloseFail_keeps : Keeps s s.takeCloseFail := by
  unfold State.takeCloseFail
  split
  · exact s.toLockout_keeps _
  · exact .refl s

theorem State.reclaimOver_keeps : Keeps s s.reclaimOver := (State.enter_keeps _ _ _).after .of_stands

theorem State.takeStep_keeps : Keeps s s.takeStep := by
  unfold State.takeStep
  split
  · exact s.reclaim_keeps _
  · exact .refl s

theorem State.takeUnsolicitedOpen_keeps (h : Bool) : Keeps s (s.takeUnsolicitedOpen h) := by
  unfold State.takeUnsolicitedOpen
  split
  · exact s.toLockout_keeps _
  · exact .refl s

theorem State.reopenWatch_keeps : Keeps s s.reopenWatch := by
  unfold State.reopenWatch
  split
  · exact .of_stands
  · exact .refl s

theorem State.externalClose_keeps : Keeps s s.externalClose := by
  have taken : Keeps s s.takeUnsolicitedClose := by
    unfold State.takeUnsolicitedClose
    split
    · exact (s.reclaim_keeps _).trans (State.askSeqEvent_keeps _ _)
    · exact .refl s
  unfold State.externalClose
  split
  · exact taken.trans (State.reopenWatch_keeps _)
  · exact taken

theorem State.lockDead_keeps (c : Cause) : Keeps s (s.lockDead c) := by
  unfold State.lockDead
  split
  · exact s.toLockout_keeps c
  · exact .refl s

theorem State.classCutoff_keeps : Keeps s s.classCutoff := by
  unfold State.classCutoff
  dsimp only
  split
  · exact (State.toLockout_keeps _ _).after .of_stands
  · exact .of_stands

theorem State.nonrecloseReading_keeps (on : Bool) : Keeps s (s.nonrecloseReading on) := by
  have read : Keeps s { s with sqc := { s.sqc with nonreclose := on, nonrecloseRead := true } } := .of_stands
  unfold State.nonrecloseReading
  dsimp only
  split
  · exact read.trans (State.lockDead_keeps _ _)
  · exact read

theorem State.handleReading_keeps (down : Bool) : Keeps s (s.handleReading down) := by
  have read : Keeps s { s with mdu := { s.mdu with handleDown := down, handleRead := true } } := .of_mdu .of_same
  unfold State.handleReading
  dsimp only
  split
  · exact read.trans (State.lockDead_keeps _ _)
  · exact read

/-! ### Closes (R44, R45, R52, R54, R70) -/

/-- A close asked of the MDU waits for no store, with the position-fault timer stopped (R64, R70). -/
theorem State.askClose_keeps : Keeps s s.askClose := by
  unfold State.askClose
  split
  · exact .of_mdu ⟨fun h => h.of_op rfl rfl (by simp), fun h => ⟨fun timer => absurd rfl timer, h.2⟩⟩
  · exact .of_stands

theorem State.beginClose_keeps (src : CloseSource) : Keeps s (s.beginClose src) := by
  unfold State.beginClose
  exact ((State.enter_keeps _ _ _).after .of_stands).trans (State.askClose_keeps _)

theorem State.manualClose_keeps (src : CloseSource) : Keeps s (s.manualClose src).1 := by
  unfold State.manualClose
  split
  · exact .refl s
  · split
    · exact s.beginClose_keeps src
    · exact .of_stands

theorem State.restoreClose_keeps : Keeps s s.restoreClose.1 := by
  unfold State.restoreClose
  split
  · exact .refl s
  · split
    · exact s.beginClose_keeps _
    · exact .refl s

theorem State.deadOver_keeps : Keeps s s.deadOver := by
  have stopped : Keeps s { s with sqc := { s.sqc with deadTimer := none } } := .of_stands
  unfold State.deadOver
  dsimp only
  split
  · exact stopped.trans (State.toLockout_keeps _ _)
  · split
    · exact stopped.trans (State.beginClose_keeps _ _)
    · split
      · exact stopped.trans (State.toLockout_keeps _ _)
      · exact stopped.trans ((State.enter_keeps _ _ _).after .of_stands)

theorem State.rearm_keeps : Keeps s s.rearm := by
  obtain ⟨_, h⟩ := s.rearm_frame
  rw [h]
  exact .of_stands

theorem State.closeAsked_keeps (src : CloseSource) : Keeps s (s.closeAsked src).1 := by
  have asked : Keeps s (s.rearm.manualClose src).1 := s.rearm_keeps.trans (State.manualClose_keeps _ src)
  unfold State.closeAsked
  dsimp only
  split
  · exact asked.trans (State.reopenWatch_keeps _)
  · exact asked

/-! ### The restoration logic (R166 to R173) -/

theorem State.midpointCheck_keeps : Keeps s s.midpointCheck := by
  have asked := s.restoreOpen_keeps
  unfold State.midpointCheck
  split
  · split
    · next t e =>
      rw [e] at asked
      exact asked.trans .of_stands
    · next t _ _ e => rwa [e] at asked
  · exact .refl s

theorem State.tieClose_keeps : Keeps s s.tieClose := by
  have asked := s.restoreClose_keeps
  unfold State.tieClose
  split
  · split
    · next t e =>
      rw [e] at asked
      exact asked.trans .of_stands
    · next t _ _ e => rwa [e] at asked
  · split
    · exact .refl s
    · split <;> exact .of_stands

theorem State.rslCheck_keeps : Keeps s s.rslCheck := by
  have tie (side : Side) : Keeps s (s.tieCheck side) := by
    unfold State.tieCheck
    dsimp only
    split
    · exact .of_stands
    · exact .of_stands
    · split
      · exact s.tieClose_keeps
      · exact .of_stands
  unfold State.rslCheck
  split
  · split
    · exact s.midpointCheck_keeps
    · exact .refl s
  · split
    · exact tie _
    · exact .refl s
  all_goals exact .refl s

theorem State.midpointOver_keeps : Keeps s s.midpointOver := by
  unfold State.midpointOver
  split
  · exact (State.rslCheck_keeps _).after .of_stands
  · exact .refl s

theorem State.tieOver_keeps : Keeps s s.tieOver := by
  unfold State.tieOver
  split
  · split <;> exact (State.rslCheck_keeps _).after .of_stands
  · exact .refl s

theorem State.storeReady_keeps : Keeps s s.closeStoreReady.rslStoreReady := by
  have told (u : State) : Keeps u u.rslStoreReady := by
    unfold State.rslStoreReady
    split
    · exact u.rslCheck_keeps
    · exact .refl u
  unfold State.closeStoreReady
  split
  · exact (s.beginClose_keeps _).trans (told _)
  · exact told s

theorem State.rslEntry_keeps : Keeps s s.rslEntry := by
  have entered : Keeps s s.midpointEnter := by
    unfold State.midpointEnter
    dsimp only
    split
    · exact (State.midpointCheck_keeps _).after .of_stands
    · exact .of_stands
  unfold State.rslEntry
  split
  · split
    · exact entered
    · exact .refl s
  · split
    · split
      · exact .of_stands
      · exact .refl s
    · exact .refl s
  · exact .refl s

theorem State.rslReview_keeps (b : RslInputs) (x : Bool) : Keeps s (s.rslReview b x) := by
  obtain ⟨l, exits⟩ := State.rslExits_frame { s with rsl := { s.rsl with inhibit := s.formInhibit } }
  unfold State.rslReview
  simp only [exits]
  split
  · split
    · exact (State.rslEntry_keeps _).after .of_stands
    · exact .of_stands
  · split
    · exact (State.rslEntry_keeps _).after .of_stands
    · exact .of_stands

end

end Sys2Proof.Machine
end

section
/-! Events, and the operations of the mechanism, the elements, the tags and the receive filter, which keep those laws. -/

namespace Sys2Proof.Machine

-- The lemmas are checked one after another: side by side they need more threads than the sandbox grants.
set_option Elab.async false

open Sys2Proof.Safety Sys2Proof.Claims

/-! ### Events -/

section
variable {s : State}

theorem State.settle_keeps (s : State) (b : RslInputs) (x : Bool) : Keeps s (s.settle b x) := by
  have assigned (u : State) : Keeps u u.chargerReview := .of_mdu (Mdu.assignCharger_keeps _ _ _)
  exact (s.rslReview_keeps b x).trans ((State.abortReview_keeps _).trans
    ((assigned _).trans (State.listenReview_keeps _)))

theorem event_keeps {f : State → State} (h : Keeps s (f s)) : Keeps s (event f s) :=
  h.trans (State.settle_keeps _ _ _)

theorem linkEvent_keeps {f : State → State} (h : Keeps s (f s)) : Keeps s (linkEvent f s) :=
  h.trans (State.listenReview_keeps _)

theorem ifRuns_keeps {t : State → Option Timer} {f : State → State} (h : Keeps s (f s)) :
    Keeps s (ifRuns t f s) := by
  unfold ifRuns
  split
  · exact h
  · exact .refl s

theorem whenDue_keeps {d : State → Bool} {f : State → State} (h : Keeps s (f s)) : Keeps s (whenDue d f s) := by
  unfold whenDue
  split
  · exact h
  · exact .refl s

theorem withAbort_keeps {f : State → State} (h : ∀ u, Keeps u (f u)) : Keeps s (withAbort f s) := by
  have drawn : Keeps s { s with free := s.free + 1 } := .of_stands
  obtain e | e | e := withAbort_cases f s <;> rw [e]
  · exact h s
  · exact drawn.trans ((State.abortTest_keeps _).trans (h _))
  · exact drawn.trans ((h _).trans (State.abortTest_keeps _))

theorem onArrival_keeps {α : Type} {pick : Report → Option α} {f : α → State → State}
    (h : ∀ a u, Keeps u (f a u)) : Keeps s (onArrival pick f s) := by
  unfold onArrival
  split
  · exact (h _ _).after .of_stands
  · exact .refl s

theorem onFrame_keeps {α : Type} {pick : Frame → Option α} {f : α → Uptime → State → State}
    (h : ∀ a u t, Keeps t (f a u t)) : Keeps s (onFrame pick f s) := by
  unfold onFrame
  split
  · split
    · split
      · exact (s.heard_keeps _ _).trans (h _ _ _)
      · exact .refl s
    · exact .refl s
  · exact .refl s

theorem eitherOrder_kept {f g : State → State} (hf : ∀ u, Keeps u (f u)) (hg : ∀ u, Keeps u (g u)) :
    Keeps s (eitherOrder f g s) :=
  eitherOrder_keeps (Keeps s) f g s .of_stands (fun u k => k.trans (hf u)) (fun u k => k.trans (hg u))

end

section
variable (s : State)

/-! ### The mechanism (R63 to R70, R74, R77) -/

theorem State.confirmOpen_keeps : Keeps s s.confirmOpen :=
  .of_mdu ((Mdu.Keeps.of_same
    (n := { s.mdu with mechSlow := s.mdu.slow (s.mdu.operating s.now) s.stl.image.tSlow })).trans
    ((Mdu.publish_keeps _ .opened).trans (Mdu.endOp_keeps _ _)))

theorem State.confirmClosed_keeps : Keeps s s.confirmClosed :=
  .of_mdu ((Mdu.Keeps.of_same
      (n := { s.mdu with mechSlow := s.mdu.slow (s.mdu.operating s.now) s.stl.image.tSlowClose })).trans
    ((Mdu.publish_keeps _ .closed).trans (Mdu.endOp_keeps _ _)))

theorem State.failTrip_keeps : Keeps s s.failTrip :=
  .of_mdu ((Mdu.Keeps.of_same (n := { s.mdu with mechSlow := s.mdu.slow 0 0 })).trans (Mdu.endOp_keeps _ _))

theorem State.pulseEnd_keeps : Keeps s s.pulseEnd := by
  unfold State.pulseEnd
  split
  · next op => exact .of_mdu (Mdu.attempt_keeps _ _ _ fun h => h.timer_none (by simp [op]))
  · exact s.failTrip_keeps
  · exact .refl s

theorem State.storeWaitEnd_keeps : Keeps s s.storeWaitEnd := by
  unfold State.storeWaitEnd
  split
  · exact s.failTrip_keeps
  · exact .refl s

theorem State.openSeen_keeps : Keeps s s.openSeen := by
  unfold State.openSeen
  split
  · exact s.confirmOpen_keeps
  · exact .refl s

theorem State.closedSeen_keeps : Keeps s s.closedSeen := by
  unfold State.closedSeen
  split
  · exact s.confirmClosed_keeps
  · exact .refl s

theorem State.closePulseEnd_keeps : Keeps s s.closePulseEnd := by
  unfold State.closePulseEnd
  split
  · exact .of_mdu (Mdu.endOp_keeps _ _)
  · exact .refl s

/-- A change of position outside an operation starts the fault timer in UNKNOWN alone (R64). -/
theorem State.moved_keeps (idle : s.mdu.op = .idle) (p : Position) : Keeps s (s.moved p) := by
  have published : Keeps s { s with mdu := s.mdu.publish p } := .of_mdu (Mdu.publish_keeps _ p)
  unfold State.moved
  dsimp only
  split
  · exact .of_mdu ⟨fun h => h, fun _ => ⟨fun _ => ⟨idle, rfl⟩, nofun⟩⟩
  · exact published.trans .of_stands
  · exact published.trans .of_stands
  · exact published

theorem State.contacts_keeps (o c : Bool) : Keeps s (s.contacts o c) := by
  have read : Keeps s { s with mdu := { s.mdu with openC := some o, closedC := some c } } := .of_mdu .of_same
  have published (u : State) (p : Position) : Keeps u { u with mdu := u.mdu.publish p } :=
    .of_mdu (Mdu.publish_keeps _ p)
  unfold State.contacts
  dsimp only
  split
  · exact .refl s
  · split
    · exact read
    · split
      · next idle =>
        exact read.trans (State.moved_keeps { s with mdu := { s.mdu with openC := some o, closedC := some c } } idle _)
      · split
        · exact read.trans (State.confirmOpen_keeps _)
        · exact read.trans (published _ _)
      · split
        · exact read.trans (State.confirmClosed_keeps _)
        · exact read.trans (published _ _)

/-- The fault timer runs in UNKNOWN alone, where its expiry reports the stay (R64). -/
theorem State.faultTimerOver_keeps : Keeps s (ifRuns (·.mdu.faultTimer) State.faultTimerOver s) := by
  by_cases runs : s.mdu.faultTimer = none
  · rw [ifRuns_of_none runs]
    exact .refl s
  · rw [ifRuns_of_some runs, State.faultTimerOver_eq]
    exact .of_mdu ⟨fun h => h, fun h => ⟨fun timer => absurd rfl timer, fun _ => (h.1 runs).2⟩⟩

/-- The first position is the report of its own stay in UNKNOWN (R63, R64). -/
theorem State.firstPosition_keeps (p : Position) : Keeps s (s.firstPosition p) := by
  have started (u : State) : Keeps u (u.startState p) := by
    cases p with
    | closed => exact u.enter_keeps _ _
    | opened => exact u.enter_keeps _ _
    | unknown => exact u.enterStuck_keeps _
  unfold State.firstPosition
  split
  · refine (started _).after (.of_mdu ⟨fun h => h, fun h => ⟨?_, fun reported => ?_⟩⟩)
    · exact ((Mdu.publish_keeps s.mdu p).position h).1
    · exact congrArg some (of_decide_eq_true reported)
  · exact .refl s

theorem State.firstContacts_keeps (o c : Bool) : Keeps s (s.firstContacts o c) := by
  unfold State.firstContacts
  split
  · exact (State.firstPosition_keeps _ _).after (.of_mdu .of_same)
  · exact .refl s

theorem State.readyReading_keeps (id : StoreId) (active : Bool) : Keeps s (s.readyReading id active) := by
  have read : Keeps s { s with mdu := (s.mdu.withStore id (·.readInput active)).driveWhenReady s.now } :=
    .of_mdu (Mdu.readInput_keeps _ _ _ _)
  unfold State.readyReading
  split
  · exact .refl s
  · dsimp only
    split
    · exact read.trans (State.storeReady_keeps _)
    · exact read

/-! ### The measurement chain and the second (R3, R9, R15, R19, R81 to R92) -/

theorem State.halfCycle_keeps : Keeps s s.halfCycle := by
  have episode (u : State) (r : UpdateRecord) (b : Bool) : Keeps u (u.evaluateEpisode r b) := by
    unfold State.evaluateEpisode
    dsimp only
    split
    · exact ((State.askPickup_onlyQueue _ _).keeps (State.joinFrame_linkAsked _ _)).after .of_stands
    · split
      · exact .of_stands
      · exact .of_stands
  have evaluated (u : State) (r : UpdateRecord) : Keeps u (u.evaluate r) := by
    unfold State.evaluate
    split
    · rw [State.evaluateElements_eq]
      exact (episode _ _ _).after .of_stands
    · exact .refl u
  rw [State.halfCycle_eq]
  exact (evaluated _ _).after .of_stands

theorem State.evaluateClass_keeps (m : Mean) : Keeps s (s.evaluateClass m) := by
  have measured : Keeps s (s.measured m) := .of_charger
  have classed : Keeps s (s.classed m) := by
    unfold State.classed
    split
    · exact measured
    · exact measured.trans (State.publishClass_keeps _ _)
  rw [State.evaluateClass_eq]
  split
  · exact classed.trans (eitherOrder_kept (fun u => u.changeHealth_keeps _) fun u => u.classCutoff_keeps)
  · exact classed

theorem State.oneSecond_keeps : Keeps s s.oneSecond := by
  have counted (u : State) (m : Mean) :
      Keeps u { u with bcu := Bcu.keepLoaded { u.bcu with daySeconds := u.bcu.daySeconds + 1 } m } :=
    keeps_of_keepLoaded u m .of_charger
  have second (u : State) (m : Mean) : Keeps u (u.batterySecond m) :=
    (u.chargedSecond_keeps m).trans ((State.evaluateClass_keeps _ m).trans (counted _ m))
  exact (second _ _).after .of_stands

theorem State.secondEvent_keeps : Keeps s s.secondEvent :=
  (event_keeps (State.oneSecond_keeps _)).after (whenDue_keeps (event_keeps s.rollDay_keeps))

theorem State.sampleEvent_keeps : Keeps s s.sampleEvent := by
  have half (u : State) : Keeps u (whenDue State.halfDue State.halfCycleEvent u) :=
    whenDue_keeps (event_keeps (withAbort_keeps State.halfCycle_keeps))
  have second (u : State) : Keeps u (whenDue State.secondDue State.secondEvent u) := whenDue_keeps u.secondEvent_keeps
  exact ((half s).trans (second _)).trans .of_stands

theorem State.bitsEvent_keeps (b : Byte) : Keeps s (s.bitsEvent b) :=
  (whenDue_keeps s.sampleEvent_keeps).trans .of_stands

/-! ### The tags (R154, R158 to R162) -/

theorem State.changeTags_keeps (on : Bool) {answer : State → State} (h : ∀ u, Keeps u (answer u))
    (f : Retained → Retained) : Keeps s (s.changeTags on answer f) := by
  have written : Keeps s (State.retain { s with tgt := { s.tgt with hotlineOn := on } } f) := .of_stands
  have asked (u : State) : Keeps u (answer u).askTagNotice := (h u).trans (State.askTagNotice_keeps _)
  unfold State.changeTags
  dsimp only
  split
  · exact written.trans (eitherOrder_kept asked fun u => u.lockDead_keeps _)
  · exact written.trans (asked _)

theorem State.hotlineReading_keeps (on : Bool) : Keeps s (s.hotlineReading on) := by
  have changed : Keeps s (s.hotlineChanged on) := by
    unfold State.hotlineChanged
    split <;> exact (State.changeTags_keeps _ _ Keeps.refl _).after .of_stands
  unfold State.hotlineReading
  split
  · exact .of_stands
  · split
    · exact .refl s
    · exact changed

theorem State.answerTags_keeps (r : CrewRequest) (o : RequestOutcome) (f : Option (Retained → Retained)) :
    Keeps s (s.answerTags r o f) := by
  cases f with
  | some f => exact s.changeTags_keeps _ (fun u => u.askResult_keeps _ _ _) f
  | none => exact s.askResult_keeps _ _ _

theorem State.placeRequest_keeps (r : CrewRequest) : Keeps s (s.placeRequest r) := by
  unfold State.placeRequest
  split <;> exact s.answerTags_keeps _ _ _

theorem State.removeRequest_keeps (r : CrewRequest) : Keeps s (s.removeRequest r) := by
  unfold State.removeRequest
  split <;> exact s.answerTags_keeps _ _ _

theorem State.clearRequest_keeps (r : CrewRequest) : Keeps s (s.clearRequest r) := by
  unfold State.clearRequest
  split <;> exact s.answerTags_keeps _ _ _

/-! ### Frames heard, and the time base (R108, R109, R137, R142, R156) -/

theorem State.rejectFrame_keeps : Keeps s s.rejectFrame := by
  unfold State.rejectFrame
  split
  · split
    · exact .refl s
    · exact s.heard_keeps _ _
  · exact .refl s

theorem State.peerFrame_keeps (id : Nat) (a : Uptime) (g : Option Segments) (f : PeerEntry → PeerEntry) :
    Keeps s (s.peerFrame id a g f) := by
  unfold State.peerFrame
  split
  · exact (State.rslCheck_keeps _).after .of_stands
  · exact .refl s

theorem State.statusNow_keeps (r : CrewRequest) : Keeps s (s.statusNow r) := by
  have rearmed (u : State) : Keeps u u.rearmLive := by
    unfold State.rearmLive
    split
    · exact u.rearm_keeps
    · exact .refl u
  exact (s.askResult_keeps _ _ _).trans ((State.statusDemand_keeps _ _).trans (rearmed _))

theorem State.second_keeps : Keeps s s.second :=
  (State.settle_keeps _ _ _).after ((State.rslCheck_keeps (State.agePeers
    { s with clock := { s.clock with seconds := s.clock.seconds + 1, lastSecond := s.now } })).after .of_stands)

end

end Sys2Proof.Machine
end

section
/-! Every step keeps the laws of the radio, the charger, the stores and the position (R60 to R84, R95, R111 to R119). -/

namespace Sys2Proof.Machine

-- The lemmas are checked one after another: side by side they need more threads than the sandbox grants.
set_option Elab.async false

open Sys2Proof.Safety Sys2Proof.Claims

/-! ### The starts (R62, R79, R104, R122, R178) -/

/-- The four blocks in their start states have the laws, whatever the levels, the seed and the test due. -/
theorem Keeps.of_started {s t : State}
    (bcu : t.bcu = { Bcu.start with testDue := t.bcu.testDue, retryTimer := t.bcu.retryTimer } := by rfl)
    (lnk : t.lnk = { Lnk.start with busy := t.lnk.busy, rng := t.lnk.rng } := by rfl)
    (txq : t.txq = Txq.start := by rfl) (mdu : t.mdu = Mdu.start := by rfl) : Keeps s t where
  radio _ := by
    rw [bcu, lnk, txq]
    exact {
      pending := fun some => absurd rfl some
      idle := fun _ => rfl
      listed := nofun
      nodup := List.nodup_nil
      below := fun _ mem => absurd mem List.not_mem_nil
      dark := fun _ => rfl
      waits := nofun }
  charger _ := by
    rw [chargerSound_iff, bcu]
    simp [Bcu.start]
  mdu := by
    rw [mdu]
    exact {
      stores := fun _ => ⟨storeSound_of_off rfl, storeSound_of_off rfl, nofun, nofun⟩
      position := fun _ => ⟨fun some => absurd rfl some, nofun⟩ }

theorem State.startOver_keeps (s : State) (kept : Bool) : Keeps s (s.startOver kept) := .of_started

theorem State.bringUp_keeps (s : State) (b : List Word16) : Keeps s (s.bringUp b) := by
  unfold State.bringUp
  refine .after (State.statusDemand_keeps _ _) ?_
  exact .of_started

theorem State.takeWord_keeps (s : State) (w : Word16) : Keeps s (s.takeWord w) := by
  unfold State.takeWord
  split
  · split
    · exact .of_stands
    · exact s.bringUp_keeps _
  · exact .refl s

/-! ### The commands -/

theorem whenUp_keeps {f : State → State} {s t : State} (h : whenUp f s = .next t) (k : Keeps s (f s)) :
    Keeps s t := by
  rw [whenUp_next.mp h]
  split
  · exact k
  · exact .refl s

theorem whenUp_event_keeps {f : State → State} {s t : State} (h : whenUp (event f) s = .next t) (k : Keeps s (f s)) :
    Keeps s t := whenUp_keeps h (event_keeps k)

theorem whenUp_link_keeps {f : State → State} {s t : State} (h : whenUp (linkEvent f) s = .next t)
    (k : Keeps s (f s)) : Keeps s t := whenUp_keeps h (linkEvent_keeps k)

theorem State.answer_keeps {s : State} {p : State × RequestOutcome} (h : Keeps s p.1) (r : CrewRequest) :
    Keeps s (State.answer p r) := h.trans (State.askResult_keeps _ _ _ _)

theorem State.panelTrip_keeps (s : State) (o : OpCause) : Keeps s (s.rearm.manualTrip o).1 :=
  s.rearm_keeps.trans (State.manualTrip_keeps _ _)

theorem exec_keeps {i : Instr} {s t : State} (h : exec i s = .next t) : Keeps s t := by
  cases i with
  | restartInput kept | supplyReturn kept => cases h; exact s.startOver_keeps kept
  | settingsWordRead w => cases h; exact s.takeWord_keeps w
  | settingsWordTimeout => cases h; exact s.takeWord_keeps _
  | modulatorBit b => exact whenUp_keeps (f := (·.bitsEvent b)) h (s.bitsEvent_keeps b)
  | decimatedSample => exact whenUp_keeps h (whenDue_keeps s.sampleEvent_keeps)
  | halfCycleUpdate =>
    exact whenUp_keeps h (whenDue_keeps (event_keeps (withAbort_keeps State.halfCycle_keeps)))
  | oneSecondUpdate => exact whenUp_keeps h (whenDue_keeps s.secondEvent_keeps)
  | dayRollover => exact whenUp_keeps h (whenDue_keeps (event_keeps s.rollDay_keeps))
  | tripRequest => exact whenUp_event_keeps h (onArrival_keeps fun r u => u.takeTripRequest_keeps r)
  | sequenceStep => exact whenUp_event_keeps h (onArrival_keeps fun _ u => u.takeStep_keeps)
  | openConfirmation => exact whenUp_event_keeps h (onArrival_keeps fun ms u => u.takeOpen_keeps ms)
  | tripFail => exact whenUp_event_keeps h (onArrival_keeps fun _ u => u.takeTripFail_keeps)
  | closeConfirmation => exact whenUp_event_keeps h (onArrival_keeps fun _ u => u.takeClosed_keeps)
  | closeFail => exact whenUp_event_keeps h (onArrival_keeps fun _ u => u.takeCloseFail_keeps)
  | unsolicitedClose => exact whenUp_event_keeps h (onArrival_keeps fun _ u => u.externalClose_keeps)
  | unsolicitedOpen =>
    exact whenUp_event_keeps h (withAbort_keeps fun _ => onArrival_keeps fun d u => u.takeUnsolicitedOpen_keeps d)
  | positionFault =>
    exact whenUp_event_keeps h (withAbort_keeps fun _ => onArrival_keeps fun _ u => u.takePositionFault_keeps)
  | openSeen => exact whenUp_event_keeps h s.openSeen_keeps
  | pulseLimitExpiry => exact whenUp_event_keeps h (ifRuns_keeps s.pulseEnd_keeps)
  | storeWaitExpiry => exact whenUp_event_keeps h (ifRuns_keeps s.storeWaitEnd_keeps)
  | closedSeen => exact whenUp_event_keeps h s.closedSeen_keeps
  | closePulseLimitExpiry => exact whenUp_event_keeps h (ifRuns_keeps s.closePulseEnd_keeps)
  | positionChange o c => exact whenUp_event_keeps h (s.contacts_keeps o c)
  | positionFaultTimerExpiry => exact whenUp_event_keeps h s.faultTimerOver_keeps
  | firstPosition o c => exact whenUp_event_keeps h (s.firstContacts_keeps o c)
  | firstPositionTimeout => exact whenUp_event_keeps h (s.firstPosition_keeps _)
  | handleChange d => exact whenUp_event_keeps h (s.handleReading_keeps d)
  | readyInputChange id a => exact whenUp_event_keeps h (s.readyReading_keeps id a)
  | chargeLimitExpiry id => exact whenUp_event_keeps h (ifRuns_keeps (.of_mdu (Mdu.overLimit_keeps _ id _)))
  | retryTimerExpiry id => exact whenUp_event_keeps h (ifRuns_keeps (.of_mdu (Mdu.retry_keeps _ id)))
  | deadTimerExpiry => exact whenUp_event_keeps h (ifRuns_keeps s.deadOver_keeps)
  | energyWaitExpiry => exact whenUp_event_keeps h (ifRuns_keeps (s.toLockout_keeps _))
  | reclaimExpiry => exact whenUp_event_keeps h (ifRuns_keeps s.reclaimOver_keeps)
  | closeDemandExpiry | rslStoreWaitExpiry | ackTimerExpiry => exact whenUp_event_keeps h (ifRuns_keeps .of_stands)
  | panelTrip => exact whenUp_event_keeps h (s.panelTrip_keeps _)
  | panelClose => exact whenUp_event_keeps h (s.closeAsked_keeps _)
  | nonrecloseChange on => exact whenUp_event_keeps h (s.nonrecloseReading_keeps on)
  | supplyOkChange a => exact whenUp_event_keeps h (s.supplyReading_keeps a)
  | testRetryExpiry => exact whenUp_event_keeps h (ifRuns_keeps s.testRetryOver_keeps)
  | loadTimerExpiry => exact whenUp_event_keeps h (ifRuns_keeps s.loadOver_keeps)
  | frameRejected => exact whenUp_event_keeps h s.rejectFrame_keeps
  | receiveStatus | receiveSeqEvent | receiveTagNotice | receivePeerReport =>
    exact whenUp_event_keeps h (onFrame_keeps fun _ _ u => u.peerFrame_keeps _ _ _ _)
  | receivePickup =>
    exact whenUp_event_keeps h (onFrame_keeps fun _ _ u =>
      (u.peerFrame_keeps _ _ _ _).trans (State.startQuiet_keeps _ _ _))
  | crewTagPlace => exact whenUp_event_keeps h (onFrame_keeps fun r _ u => u.placeRequest_keeps r)
  | crewTagRemove => exact whenUp_event_keeps h (onFrame_keeps fun r _ u => u.removeRequest_keeps r)
  | crewClearUnknown => exact whenUp_event_keeps h (onFrame_keeps fun r _ u => u.clearRequest_keeps r)
  | crewTrip =>
    exact whenUp_event_keeps h (withAbort_keeps fun _ => onFrame_keeps fun r _ u =>
      State.answer_keeps (u.panelTrip_keeps _) r)
  | crewClose =>
    exact whenUp_event_keeps h (onFrame_keeps fun r _ u => State.answer_keeps (u.closeAsked_keeps _) r)
  | crewStatusNow => exact whenUp_event_keeps h (onFrame_keeps fun r _ u => u.statusNow_keeps r)
  | crewBatteryTest =>
    exact whenUp_event_keeps h (onFrame_keeps fun r _ u => State.answer_keeps u.testAsked_keeps r)
  | crewRequestNotActedOn => exact whenUp_event_keeps h (onFrame_keeps fun _ _ u => .refl u)
  | hotlineSwitchChange on => exact whenUp_event_keeps h (s.hotlineReading_keeps on)
  | timeBaseSecond => exact whenUp_keeps h s.second_keeps
  | midpointTimerExpiry => exact whenUp_event_keeps h (ifRuns_keeps s.midpointOver_keeps)
  | tieTimerExpiry => exact whenUp_event_keeps h (ifRuns_keeps s.tieOver_keeps)
  | serialByteArrival b => exact whenUp_link_keeps (f := (·.serialByte b)) h (s.serialByte_keeps b)
  | receptionGapExpiry => exact whenUp_link_keeps h s.endReception_keeps
  | busyChange a =>
    cases h
    split
    · exact linkEvent_keeps (s.busyLevel_keeps a)
    · exact .of_lnk
  | collideActive => exact whenUp_link_keeps h s.collided_keeps
  | gapExpiry => exact whenUp_link_keeps h s.gapOver_keeps
  | backoffExpiry => exact whenUp_link_keeps h s.backoffOver_keeps
  | sendEnd => exact whenUp_link_keeps h s.sendOver_keeps
  | warmUpExpiry => exact whenUp_link_keeps h (ifRuns_keeps s.warmUpOver_keeps)
  | listenWindowOpen => exact whenUp_link_keeps h s.openWindow_keeps
  | listenWindowClose => exact whenUp_link_keeps h s.closeWindow_keeps
  | listenHoldLimit | linkTimerExpiry => exact whenUp_link_keeps h (ifRuns_keeps .of_lnk)
  | quietTimerExpiry => exact whenUp_link_keeps h (ifRuns_keeps s.quietOver_keeps)
  | pickupLifeExpiry => exact whenUp_link_keeps h s.pickupLifeOver_keeps
  | statusPeriodExpiry => exact whenUp_link_keeps h (ifRuns_keeps s.periodOver_keeps)

/-! ### The step -/

theorem State.idle_keeps (s : State) : Keeps s s.idle := by
  unfold State.idle
  split
  · split <;> exact .of_stands
  · exact .refl s

theorem step_keeps {s t : State} (h : step s = .next t) : Keeps s t := by
  obtain ⟨i, rest, -, ran⟩ | rfl := step_cases h
  · have taken : Keeps s { s with pending := rest } := .of_stands
    exact taken.trans (exec_keeps ran)
  · exact s.idle_keeps

theorem radioHolds : RadioHolds := fun _ _ queue radio h =>
  ((step_keeps h).radio (radioListed_of_sound queue radio)).sound

theorem chargerHolds : ChargerHolds := fun _ _ sound h => (step_keeps h).charger sound

theorem storesHold : StoresHold := fun _ _ sound h => (step_keeps h).mdu.stores sound

theorem positionHolds : PositionHolds := fun _ _ sound h => (step_keeps h).mdu.position sound

/-- Settles O10: every command and the idle step keep the four laws, that of the radio together with the join orders
of the list, and the outputs are read off the items. -/
theorem radioChargerStoresHold : Obligations.RadioChargerStoresHold :=
  ⟨radioHolds, chargerHolds, storesHold, positionHolds, outputsShown⟩

end Sys2Proof.Machine
end

section
/-! The law of the transmit queue (R122, R124) over the operations that change the list: what the law reads of an entry,
the place of a join, an entry changed in place and one taken out. -/

namespace Sys2Proof.Machine

open Sys2Proof.Safety Sys2Proof.Claims

/-! ### The law of a list -/

/-- The law of the transmit queue, over the queue alone. -/
structure Txq.Sound (q : Txq) : Prop extends Txq.Numbered q where
  room : q.entries.length ≤ 8
  statuses : (q.entries.filter Entry.isStatus).length ≤ 1
  batteries : (q.entries.filter Entry.isBattery).length ≤ 1
  sorted : q.entries.Pairwise before

theorem queueSound_iff (s : State) : QueueSound s ↔ s.txq.Sound :=
  ⟨fun ⟨room, statuses, batteries, sorted, nodup, below⟩ => ⟨⟨nodup, below⟩, room, statuses, batteries, sorted⟩,
    fun ⟨⟨nodup, below⟩, room, statuses, batteries, sorted⟩ => ⟨room, statuses, batteries, sorted, nodup, below⟩⟩

/-- All that the law reads of an entry. -/
def Entry.shape (e : Entry) : Nat × Nat × Bool × Bool := (e.priority, e.order, e.isStatus, e.isBattery)

/-- The order of the list, read off the shapes (R124). -/
def shapeBefore (a b : Nat × Nat × Bool × Bool) : Prop := a.1 < b.1 ∨ (a.1 = b.1 ∧ a.2.1 < b.2.1)

theorem map_order_eq_of_shapes {l k : List Entry} (h : k.map Entry.shape = l.map Entry.shape) :
    k.map Entry.order = l.map Entry.order := by
  simpa [Function.comp_def, Entry.shape] using congrArg (List.map fun x => x.2.1) h

theorem length_filter_eq_of_shapes {l k : List Entry} (h : k.map Entry.shape = l.map Entry.shape)
    (p : Nat × Nat × Bool × Bool → Bool) :
    (k.filter fun e => p e.shape).length = (l.filter fun e => p e.shape).length := by
  simpa [List.filter_map, Function.comp_def] using congrArg (fun x => (x.filter p).length) h

/-- Entries of the same shapes have the law alike. -/
theorem Txq.Sound.of_shapes {q r : Txq} (h : q.Sound) (shapes : r.entries.map Entry.shape = q.entries.map Entry.shape)
    (next : r.nextOrder = q.nextOrder) : r.Sound where
  nodup := map_order_eq_of_shapes shapes ▸ h.nodup
  below e mem := by
    have listed : e.order ∈ q.entries.map Entry.order :=
      map_order_eq_of_shapes shapes ▸ List.mem_map_of_mem mem
    obtain ⟨x, mem, same⟩ := List.mem_map.mp listed
    rw [next, ← same]
    exact h.below x mem
  room := by
    have length : r.entries.length = q.entries.length := by simpa using congrArg List.length shapes
    exact length ▸ h.room
  statuses := (length_filter_eq_of_shapes shapes fun x => x.2.2.1).trans_le h.statuses
  batteries := (length_filter_eq_of_shapes shapes fun x => x.2.2.2).trans_le h.batteries
  sorted := by
    have ordered : (r.entries.map Entry.shape).Pairwise shapeBefore := shapes ▸ List.pairwise_map.mpr h.sorted
    exact (List.pairwise_map (R := shapeBefore)).mp ordered

/-- A list that stands, in a queue of which the law reads nothing else. -/
theorem Txq.Sound.of_entries {q r : Txq} (h : q.Sound) (entries : r.entries = q.entries := by rfl)
    (next : r.nextOrder = q.nextOrder := by rfl) : r.Sound := h.of_shapes (congrArg _ entries) next

/-! ### Entries of one kind and of one order -/

/-- Two entries of one join order are one entry. -/
theorem Txq.Numbered.eq_of_order {q : Txq} (h : q.Numbered) {x e : Entry} (mx : x ∈ q.entries) (me : e ∈ q.entries)
    (same : x.order = e.order) : x = e := List.inj_on_of_nodup_map h.nodup mx me same

theorem eq_of_filter_le_one {l : List Entry} {p : Entry → Bool} (one : (l.filter p).length ≤ 1) {x e : Entry}
    (mx : x ∈ l) (px : p x = true) (me : e ∈ l) (pe : p e = true) : x = e := by
  have fx : x ∈ l.filter p := List.mem_filter.mpr ⟨mx, px⟩
  have fe : e ∈ l.filter p := List.mem_filter.mpr ⟨me, pe⟩
  obtain ⟨y, only⟩ := List.length_eq_one_iff.mp (le_antisymm one (List.length_pos_of_mem fx))
  rw [only, List.mem_singleton] at fx fe
  rw [fx, fe]

/-- A content may join where it would be the only one of its kind: a list has one STATUS and one BATTERY_REPORT (R124). -/
def Txq.Admits (q : Txq) : Content → Prop
  | .status _ => ∀ x ∈ q.entries, x.isStatus = false
  | .battery _ => ∀ x ∈ q.entries, x.isBattery = false
  | _ => True

theorem Txq.Admits.mono {q r : Txq} {c : Content} (h : q.Admits c) (sub : ∀ x ∈ r.entries, x ∈ q.entries) :
    r.Admits c := by
  cases c with
  | status _ => exact fun x mem => h x (sub x mem)
  | battery _ => exact fun x mem => h x (sub x mem)
  | pickup _ | seqEvent _ | tagNotice _ | result _ => trivial

/-! ### The place of a join (R124) -/

/-- A join parts the list: before the new entry all that come before it, behind it the less urgent. -/
theorem insertEntry_split {e : Entry} {l : List Entry} (sorted : l.Pairwise before)
    (younger : ∀ x ∈ l, x.order < e.order) :
    ∃ front back, l = front ++ back ∧ insertEntry e l = front ++ e :: back ∧ (∀ x ∈ front, before x e) ∧
      ∀ x ∈ back, before e x := by
  induction l with
  | nil => exact ⟨[], [], rfl, rfl, by simp, by simp⟩
  | cons y ys ih =>
    obtain ⟨first, sorted⟩ := List.pairwise_cons.mp sorted
    have older := younger y (.head ys)
    unfold insertEntry
    split
    · next urgent =>
      obtain ⟨front, back, parts, joined, fronts, backs⟩ := ih sorted fun x mem => younger x (.tail y mem)
      refine ⟨y :: front, back, congrArg _ parts, congrArg _ joined, fun x mem => ?_, backs⟩
      obtain rfl | mem := List.mem_cons.mp mem
      · unfold before; omega
      · exact fronts x mem
    · next less =>
      refine ⟨[], y :: ys, rfl, rfl, by simp, fun x mem => ?_⟩
      obtain rfl | mem := List.mem_cons.mp mem
      · unfold before; omega
      · have := first x mem
        unfold before at this ⊢; omega

theorem insertEntry_sorted {e : Entry} {l : List Entry} (sorted : l.Pairwise before)
    (younger : ∀ x ∈ l, x.order < e.order) : (insertEntry e l).Pairwise before := by
  obtain ⟨front, back, parts, joined, fronts, backs⟩ := insertEntry_split sorted younger
  rw [parts, List.pairwise_append] at sorted
  obtain ⟨sortedFront, sortedBack, across⟩ := sorted
  rw [joined, List.pairwise_append, List.pairwise_cons]
  refine ⟨sortedFront, ⟨backs, sortedBack⟩, fun x mx y my => ?_⟩
  obtain rfl | my := List.mem_cons.mp my
  · exact fronts x mx
  · exact across x mx y my

/-- A join of what may be the only one of its kind. -/
theorem length_filter_insertEntry {e : Entry} {l : List Entry} {p : Entry → Bool} (one : (l.filter p).length ≤ 1)
    (fresh : p e = true → ∀ x ∈ l, p x = false) : ((insertEntry e l).filter p).length ≤ 1 := by
  rw [((insertEntry_perm e l).filter p).length_eq, List.filter_cons]
  split
  · next kind =>
    have empty : l.filter p = [] := List.filter_eq_nil_iff.mpr fun x mem => by simp [fresh kind x mem]
    simp [empty]
  · exact one

theorem State.join_txq (s : State) (c : Content) : (s.join c).txq =
    { s.txq with entries := insertEntry (s.newEntry c) s.txq.entries, nextOrder := s.txq.nextOrder + 1 } := by
  rw [State.join, State.afterJoin_txq]

/-- A join with room in the list keeps the law where the list has no other of its kind. -/
theorem State.join_sound {s : State} (h : s.txq.Sound) {c : Content} (room : s.txq.entries.length < 8)
    (admits : s.txq.Admits c) : (s.join c).txq.Sound := by
  have numbered := State.join_numbered h.toNumbered c
  rw [State.join_txq] at numbered ⊢
  refine ⟨numbered, ?_, ?_, ?_, insertEntry_sorted h.sorted h.below⟩
  · exact (length_insertEntry ..).trans_le room
  · refine length_filter_insertEntry h.statuses fun kind => ?_
    cases c with
    | status _ => exact admits
    | pickup _ | seqEvent _ | tagNotice _ | result _ | battery _ => cases kind
  · refine length_filter_insertEntry h.batteries fun kind => ?_
    cases c with
    | battery _ => exact admits
    | pickup _ | seqEvent _ | tagNotice _ | result _ | status _ => cases kind

/-! ### An entry changed in place, and one taken out (R125 to R128) -/

/-- An entry changed in place keeps what the law reads of it. -/
theorem Txq.Sound.change {q : Txq} (h : q.Sound) {n : Nat} {f : Entry → Entry}
    (kept : ∀ x ∈ q.entries, x.order = n → (f x).shape = x.shape) : (q.change n f).Sound := by
  refine h.of_shapes ?_ rfl
  rw [Txq.change_entries, List.map_map]
  refine List.map_congr_left fun x mem => ?_
  rw [Function.comp_apply]
  split
  · next same => exact kept x mem same
  · rfl

theorem Txq.Sound.remove {q : Txq} (h : q.Sound) (n : Nat) : (q.remove n).Sound where
  toNumbered := h.toNumbered.remove n
  room := (List.length_filter_le ..).trans h.room
  statuses := ((List.filter_sublist.filter _).length_le).trans h.statuses
  batteries := ((List.filter_sublist.filter _).length_le).trans h.batteries
  sorted := h.sorted.filter _

theorem Txq.remove_subset (q : Txq) (n : Nat) : ∀ x ∈ (q.remove n).entries, x ∈ q.entries :=
  fun _ mem => (List.mem_filter.mp mem).1

theorem Txq.length_remove_lt {q : Txq} {e : Entry} (mem : e ∈ q.entries) :
    (q.remove e.order).entries.length < q.entries.length :=
  List.length_filter_lt_length_iff_exists.mpr ⟨e, mem, by simp⟩

/-- The place of an entry taken out is free. -/
theorem Txq.Sound.room_remove {q : Txq} (h : q.Sound) {e : Entry} (mem : e ∈ q.entries) :
    (q.remove e.order).entries.length < 8 := (Txq.length_remove_lt mem).trans_le h.room

/-- Beside the STATUS or the BATTERY_REPORT that leaves there is none, so another may join (R126, R127). -/
theorem Txq.Sound.admits_remove {q : Txq} (h : q.Sound) {e : Entry} (mem : e ∈ q.entries) {c : Content}
    (status : c matches .status _ → e.isStatus = true) (battery : c matches .battery _ → e.isBattery = true) :
    (q.remove e.order).Admits c := by
  have alone {p : Entry → Bool} (one : (q.entries.filter p).length ≤ 1) (pe : p e = true) :
      ∀ x ∈ (q.remove e.order).entries, p x = false := by
    intro x kept
    obtain ⟨mx, other⟩ := List.mem_filter.mp kept
    by_contra px
    rw [eq_of_filter_le_one one mx (Bool.not_eq_false _ ▸ px) mem pe] at other
    simp at other
  cases c with
  | status _ => exact alone h.statuses (status rfl)
  | battery _ => exact alone h.batteries (battery rfl)
  | pickup _ | seqEvent _ | tagNotice _ | result _ => trivial

end Sys2Proof.Machine
end

section
/-! What asking for a frame keeps of the law of the transmit queue: joins, overflow, status demands and reports (R124 to
R129, R131). -/

namespace Sys2Proof.Machine

open Sys2Proof.Safety Sys2Proof.Claims

/-! ### What is kept -/

/-- `t` keeps the law of the transmit queue that `s` has. -/
def Queued (s t : State) : Prop := s.txq.Sound → t.txq.Sound

theorem Queued.refl (s : State) : Queued s s := id

theorem Queued.trans {s t u : State} (h : Queued s t) (k : Queued t u) : Queued s u := k ∘ h

/-- The two parts of an event, the later one first: its state is read off it. -/
theorem Queued.after {s t u : State} (k : Queued t u) (h : Queued s t) : Queued s u := h.trans k

/-- What leaves the queue. -/
theorem Queued.of_txq {s t : State} (txq : t.txq = s.txq := by rfl) : Queued s t := fun h => txq ▸ h

/-! ### Overflow (R125) -/

theorem State.returnSelected_txq (s : State) : s.returnSelected.txq = s.txq := State.search_txq _

theorem State.dropEntry_txq (s : State) (n : Nat) : (s.dropEntry n).txq = s.txq.remove n := by
  unfold State.dropEntry
  split
  · exact State.returnSelected_txq _
  · exact State.search_txq _

theorem State.dropEntry_queued (s : State) (n : Nat) : Queued s (s.dropEntry n) := fun h => by
  rw [State.dropEntry_txq]
  exact h.remove n

/-- The entry evicted leaves its place to a frame that joins. -/
theorem State.evictJoin_sound {s : State} (h : s.txq.Sound) {c : Content} {v : Entry} {p : Nat}
    (evicts : s.txq.evicts p = some v) (admits : s.txq.Admits c) : ((s.dropEntry v.order).join c).txq.Sound := by
  obtain ⟨mem, -⟩ := Txq.evicts_mem evicts
  refine State.join_sound (s.dropEntry_queued _ h) ?_ ?_ <;> rw [State.dropEntry_txq]
  · exact h.room_remove mem
  · exact admits.mono (s.txq.remove_subset _)

/-! ### Status demands (R126) -/

theorem find_status_eq_none {q : Txq} : q.entries.find? Entry.isStatus = none ↔ ∀ x ∈ q.entries, x.isStatus = false := by
  simp

theorem State.joinStatus_sound {s : State} (h : s.txq.Sound) (none : ∀ x ∈ s.txq.entries, x.isStatus = false)
    (r : Reasons) : (s.joinStatus r).txq.Sound := by
  unfold State.joinStatus
  split
  · next room => exact State.join_sound h room none
  · split
    · next evicts => exact State.evictJoin_sound h evicts none
    · exact h

/-- A reason added to the one STATUS of the list. -/
def withReason (r : Reason) (x : Entry) : Entry :=
  match x.content with
  | .status q => { x with content := .status (q.add r) }
  | _ => x

theorem withReason_shape (r : Reason) (x : Entry) : (withReason r x).shape = x.shape := by
  unfold withReason
  split
  · next content => simp [Entry.shape, Entry.isStatus, Entry.isBattery, content]
  · rfl

theorem State.statusDemand_queued (s : State) (r : Reason) : Queued s (s.statusDemand r) := fun h => by
  unfold State.statusDemand
  split
  · next found => exact State.joinStatus_sound h (find_status_eq_none.mp found) _
  · split
    · exact h.of_entries
    · exact h.change fun x _ _ => withReason_shape r x

/-! ### Frames (R125, R127, R129, R131) -/

theorem State.joinFrame_sound {s : State} (h : s.txq.Sound) {c : Content} (admits : s.txq.Admits c) :
    (s.joinFrame c).txq.Sound := by
  unfold State.joinFrame
  split
  · next room => exact State.join_sound h room admits
  · split
    · next evicts => exact State.statusDemand_queued _ _ (State.evictJoin_sound h evicts admits)
    · exact s.statusDemand_queued _ h

section
variable (s : State)

theorem State.askSeqEvent_queued (k : EventKind) : Queued s (s.askSeqEvent k) := fun h =>
  State.statusDemand_queued _ _ (State.joinFrame_sound h trivial)

theorem State.askTagNotice_queued : Queued s s.askTagNotice := fun h =>
  State.statusDemand_queued _ _ (State.joinFrame_sound h trivial)

theorem State.askResult_queued (n : Nat) (k : RequestKind) (o : RequestOutcome) : Queued s (s.askResult n k o) :=
  fun h => State.joinFrame_sound h trivial

theorem State.askPickup_queued (e : ElementSet) : Queued s (s.askPickup e) := fun h => State.joinFrame_sound h trivial

/-- A BATTERY_REPORT joins where there is none, and otherwise takes the place of the one there is (R127). -/
theorem State.askBattery_queued : Queued s s.askBattery := fun h => by
  unfold State.askBattery
  split
  · next found => exact State.joinFrame_sound h (by simpa [Txq.Admits] using found)
  · next e found =>
    obtain ⟨mem, battery⟩ := And.intro (List.mem_of_find?_eq_some found) (List.find?_some found)
    split
    · exact h.of_entries
    · refine h.change fun x mx same => ?_
      obtain rfl := h.eq_of_order mx mem same
      revert battery
      cases content : x.content <;> simp [Entry.shape, Entry.isStatus, Entry.isBattery, content]

end

end Sys2Proof.Machine
end

section
/-! What the link's operations keep of the law of the transmit queue: radio power states, the senses, the end of a send and
the timers (R112 to R121, R126 to R128, R132). -/

namespace Sys2Proof.Machine

-- The lemmas are checked one after another: side by side they need more threads than the sandbox grants.
set_option Elab.async false

open Sys2Proof.Safety Sys2Proof.Claims

/-! ### The entry of a send (R115, R116, R126, R127) -/

theorem State.startSend_queued (s : State) (e : Entry) : Queued s (s.startSend e) := fun h =>
  h.change (f := fun x => { x with inFlight := true }) fun _ _ _ => rfl

/-- The entry of a send that stays takes in what it is owed: it stays of its kind (R126, R127). -/
theorem Txq.Sound.keep {q : Txq} (h : q.Sound) {e : Entry} (mem : e ∈ q.entries) (n : Nat) : (q.keep e n).Sound := by
  have raised := h.change (n := e.order) (f := fun x => { x with inFlight := false, attempts := n }) fun _ _ _ => rfl
  have only {x : Entry} (mx : x ∈ (q.change e.order fun x => { x with inFlight := false, attempts := n }).entries)
      (same : x.order = e.order) : x.content = e.content := by
    obtain ⟨y, my, rfl⟩ := List.mem_map.mp mx
    split at same
    · next ordered =>
      rw [if_pos ordered, h.eq_of_order my mem ordered]
    · next other => exact absurd same other
  unfold Txq.keep
  dsimp only
  split
  · next r status =>
    refine (raised.change (n := e.order)
      (f := fun x => { x with content := .status (r.union (q.owed.getD Reasons.empty)) }) fun x mx same => ?_).of_entries
    simp [Entry.shape, Entry.isStatus, Entry.isBattery, (only mx same).trans status]
  · next c battery =>
    refine (raised.change (n := e.order)
      (f := fun x => { x with content := .battery (q.pendingReport.getD c) }) fun x mx same => ?_).of_entries
    simp [Entry.shape, Entry.isStatus, Entry.isBattery, (only mx same).trans battery]
  · exact raised

/-- The entry of a send that leaves makes room for the status owed or the pending report, of its own kind. -/
theorem State.leave_sound {s : State} (h : s.txq.Sound) {e : Entry} (mem : e ∈ s.txq.entries) :
    (s.leave e).txq.Sound := by
  have left := h.remove e.order
  have room := h.room_remove mem
  unfold State.leave
  dsimp only
  split
  · next status =>
    split
    · next r _ =>
      refine State.join_sound left.of_entries room (h.admits_remove (c := .status r) mem (fun _ => ?_) nofun)
      rw [Entry.isStatus, status]
    · exact left
  · next battery =>
    split
    · next b _ =>
      refine State.join_sound left.of_entries room (h.admits_remove (c := .battery b) mem nofun fun _ => ?_)
      rw [Entry.isBattery, battery]
    · exact left
  · exact left

/-! ### The list stands (R112, R114, R116, R119) -/

section
variable (s : State)

theorem State.returnUnselected_txq : s.returnUnselected.txq = s.txq := by
  unfold State.returnUnselected
  split
  · split
    · exact s.search_txq
    · exact s.returnSelected_txq
  · exact s.search_txq

theorem State.applyPower_txq (p : RadioPower) : (s.applyPower p).txq = s.txq := by
  unfold State.applyPower
  split
  · rfl
  · split
    · rfl
    · split
      · rfl
      · exact State.returnUnselected_txq _

theorem State.applyPending_txq : s.applyPending.txq = s.txq := by
  unfold State.applyPending
  split
  · exact State.applyPower_txq _ _
  · rfl

theorem State.endAccess_txq : s.endAccess.txq = s.txq := (State.search_txq _).trans (State.applyPending_txq _)

theorem State.listenReview_txq : s.listenReview.txq = s.txq := by
  obtain ⟨_, _, _, h⟩ := s.listenReview_frame
  rw [h]

theorem State.endReception_txq : s.endReception.txq = s.txq := by
  obtain ⟨_, _, _, h⟩ := s.endReception_frame
  rw [h]

/-! ### SENSE and the end of a send (R115, R116, R118, R119) -/

theorem State.sense_queued : Queued s s.sense := by
  unfold State.sense
  dsimp only
  split
  · split
    · exact .of_txq
    · exact State.startSend_queued _ _
  · exact .of_txq s.returnSelected_txq

theorem State.passZeroBackoff_queued : Queued s s.passZeroBackoff := by
  unfold State.passZeroBackoff
  split
  · exact s.sense_queued
  · exact .refl s

theorem State.startPeriod_queued : Queued s s.startPeriod := fun h => by
  unfold State.startPeriod
  split
  · exact h.of_entries
  · exact h

theorem State.startPeriod_entries : s.startPeriod.txq.entries = s.txq.entries := by
  unfold State.startPeriod
  split <;> rfl

end

theorem State.cleanEnd_sound {s : State} (h : s.txq.Sound) {e : Entry} (mem : e ∈ s.txq.entries) :
    (s.cleanEnd e).txq.Sound := by
  let paced : State := { s with lnk := { s.lnk with pacing := s.lnk.pacing - 1 } }
  have sound : paced.txq.Sound := h
  unfold State.cleanEnd
  dsimp only
  rw [State.endAccess_txq]
  split
  · exact State.leave_sound (paced.startPeriod_queued sound) (paced.startPeriod_entries ▸ mem)
  · exact State.leave_sound sound mem

theorem State.afterCollision_sound {s : State} (h : s.txq.Sound) {e : Entry} (mem : e ∈ s.txq.entries) (n : Nat) :
    (s.afterCollision e n).txq.Sound := by
  have kept := h.keep mem n
  have drawn (u : State) (p : Nat) : (u.drawBackoff p n).txq = u.txq := rfl
  unfold State.afterCollision
  dsimp only
  split
  · rwa [State.endAccess_txq]
  · split
    · rw [State.endAccess_txq]
      exact kept.remove _
    · split
      · rwa [State.endAccess_txq, drawn]
      · refine State.passZeroBackoff_queued _ ?_
        rwa [State.search_txq, State.applyPending_txq, drawn]

theorem State.collidedEnd_sound {s : State} (h : s.txq.Sound) {e : Entry} (mem : e ∈ s.txq.entries) :
    (s.collidedEnd e).txq.Sound := by
  let paced : State := { s with lnk := { s.lnk with pacing := 15 } }
  have sound : paced.txq.Sound := h
  unfold State.collidedEnd
  dsimp only
  split
  · rw [State.endAccess_txq]
    exact State.leave_sound sound mem
  · exact State.afterCollision_sound sound mem _

section
variable (s : State)

theorem State.endSend_queued : Queued s s.endSend := fun h => by
  let stopped : State := { s with lnk := { s.lnk with sendTimer := none, outFrame := [] } }
  have sound : stopped.txq.Sound := h
  unfold State.endSend
  dsimp only
  split
  · next selected =>
    obtain ⟨mem, -⟩ := State.selectedEntry_mem selected
    split
    · exact State.collidedEnd_sound sound mem
    · exact State.cleanEnd_sound sound mem
  · rwa [State.endAccess_txq]

/-- A send cut by the change to OFF returns its entry, or lets a PICKUP whose life is over leave (R119, R128). -/
theorem State.cutSend_queued : Queued s s.cutSend := fun h => by
  unfold State.cutSend
  dsimp only
  split
  · next selected =>
    obtain ⟨mem, -⟩ := State.selectedEntry_mem selected
    split
    · rw [State.applyPower_txq]
      exact h.remove _
    · rw [State.applyPower_txq]
      exact h.keep mem _
  · rwa [State.applyPower_txq]

theorem State.takePower_queued (p : RadioPower) : Queued s (s.takePower p) := by
  unfold State.takePower
  split
  · split
    · exact s.cutSend_queued
    · exact .of_txq
  · exact .of_txq (s.applyPower_txq p)

/-! ### The events of the link (R103, R107, R111 to R121, R128, R132) -/

theorem State.serialByte_queued (b : Byte) : Queued s (s.serialByte b) := by
  unfold State.serialByte
  dsimp only
  split
  · split
    · exact .of_txq (State.endReception_txq _)
    · exact .of_txq
  · exact .refl s

theorem State.gapOver_queued : Queued s s.gapOver := by
  unfold State.gapOver
  split
  · exact s.sense_queued
  · exact .refl s

theorem State.backoffOver_queued : Queued s s.backoffOver := by
  unfold State.backoffOver
  split
  · exact s.sense_queued
  · exact .refl s

theorem State.sendOver_queued : Queued s s.sendOver := by
  unfold State.sendOver
  split
  · exact s.endSend_queued
  · exact .refl s

theorem State.endDeferral_queued : Queued s s.endDeferral := by
  unfold State.endDeferral
  split
  · split
    · exact .of_txq s.returnSelected_txq
    · exact (State.passZeroBackoff_queued _).after .of_txq
  · exact .of_txq s.returnSelected_txq

theorem State.busyLevel_queued (active : Bool) : Queued s (s.busyLevel active) := by
  unfold State.busyLevel
  dsimp only
  split
  · exact (State.endDeferral_queued _).after .of_txq
  · exact .of_txq

theorem State.collided_txq : s.collided.txq = s.txq := by
  unfold State.collided
  split <;> rfl

theorem State.openWindow_txq : s.openWindow.txq = s.txq := by
  unfold State.openWindow
  split
  · split <;> rfl
  · rfl

theorem State.closeWindow_txq : s.closeWindow.txq = s.txq := by
  unfold State.closeWindow
  split
  · split <;> rfl
  · rfl

/-- A PICKUP whose life is over is marked in flight, and leaves otherwise (R128). -/
theorem State.pickupLifeOver_queued : Queued s s.pickupLifeOver := by
  unfold State.pickupLifeOver
  split
  · split
    · exact fun h => h.change (f := fun x => { x with lifeOver := true }) fun _ _ _ => rfl
    · exact s.dropEntry_queued _
  · exact .refl s

theorem State.periodOver_queued : Queued s s.periodOver := fun h =>
  State.startPeriod_queued _ (State.statusDemand_queued _ _ h.of_entries)

theorem State.startQuiet_txq (a : Uptime) (ms : Nat) : (s.startQuiet a ms).txq = s.txq := by
  unfold State.startQuiet
  dsimp only
  split
  · split
    · split
      · exact State.returnSelected_txq _
      · rfl
    · rfl
  · rfl

end

end Sys2Proof.Machine
end

section
/-! What the operations of the sequence, the restoration logic and the battery keep of the law of the transmit queue: of all
they change the law reads the frames they ask for (R20, R38 to R58, R80 to R101, R164 to R174). -/

namespace Sys2Proof.Machine

-- The lemmas are checked one after another: side by side they need more threads than the sandbox grants.
set_option Elab.async false

open Sys2Proof.Safety Sys2Proof.Claims

section
variable (s : State)

/-! ### Operations that ask for no frame (R41, R42, R46, R52, R54, R67, R70, R165 to R174) -/

theorem State.enter_txq (x : SeqState) (c : Option Cause) : (s.enter x c).txq = s.txq := by
  obtain ⟨_, h, -⟩ := s.enter_frame x c
  rw [h]

theorem State.enterStuck_txq (c : Cause) : (s.enterStuck c).txq = s.txq := State.enter_txq _ _ _

theorem State.reclaim_txq (shot : Nat) : (s.reclaim shot).txq = s.txq := State.enter_txq _ _ _

theorem State.tripUnasked_txq (o : OpCause) : (s.tripUnasked o).txq = s.txq := by
  obtain ⟨_, _, _, h, -⟩ := s.tripUnasked_frame o
  rw [h]

theorem State.stuckTrip_txq (o : OpCause) : (s.stuckTrip o).txq = s.txq := by
  obtain ⟨_, h⟩ := s.latestRms_frame
  change s.latestRms.2.txq = s.txq
  rw [h]

theorem State.takeTripRequest_txq (r : TripRequest) : (s.takeTripRequest r).txq = s.txq := by
  have tripped (u : State) (o : OpCause) (e : ElementSet) (x : Ch4 Nat) : (u.trip o e x).txq = u.txq := by
    obtain ⟨_, _, h, -⟩ := u.trip_frame o e x
    rw [h]
  have hand : s.handState.txq = s.txq := by
    unfold State.handState
    split <;> rfl
  unfold State.takeTripRequest
  split
  case h_1 | h_2 | h_3 => exact tripped _ _ _ _
  case h_4 | h_9 => rfl
  case h_5 | h_6 | h_7 | h_8 => exact hand

theorem State.takeStep_txq : s.takeStep.txq = s.txq := by
  unfold State.takeStep
  split
  · exact s.reclaim_txq _
  · rfl

theorem State.reopenWatch_txq : s.reopenWatch.txq = s.txq := by
  unfold State.reopenWatch
  split <;> rfl

theorem State.rearm_txq : s.rearm.txq = s.txq := by
  obtain ⟨_, h⟩ := s.rearm_frame
  rw [h]

theorem State.beginClose_txq (src : CloseSource) : (s.beginClose src).txq = s.txq := by
  obtain ⟨_, _, _, h, -⟩ := s.beginClose_frame src
  rw [h]

theorem State.closeAsked_txq (src : CloseSource) : (s.closeAsked src).1.txq = s.txq := by
  have closed (u : State) : (u.manualClose src).1.txq = u.txq := by
    unfold State.manualClose
    split
    · rfl
    · split
      · exact u.beginClose_txq src
      · rfl
  unfold State.closeAsked
  dsimp only
  split
  · rw [State.reopenWatch_txq, closed, State.rearm_txq]
  · rw [closed, State.rearm_txq]

theorem State.tieClose_txq : s.tieClose.txq = s.txq := by
  obtain ⟨_, _, _, asked⟩ := s.restoreClose_frame
  have closed : s.restoreClose.1.txq = s.txq := by rw [asked]
  unfold State.tieClose
  split
  · split
    · next e =>
      rw [e] at closed
      exact closed
    · next e =>
      rw [e] at closed
      exact closed
  · split
    · rfl
    · split <;> rfl

theorem State.rslCheck_txq : s.rslCheck.txq = s.txq := by
  have tie (side : Side) : (s.tieCheck side).txq = s.txq := by
    unfold State.tieCheck
    dsimp only
    split
    · rfl
    · rfl
    · split
      · exact s.tieClose_txq
      · rfl
  have midpoint : s.midpointCheck.txq = s.txq := by
    obtain ⟨_, _, _, _, h⟩ := s.midpointCheck_frame
    rw [h]
  unfold State.rslCheck
  split
  · split
    · exact midpoint
    · rfl
  · split
    · exact tie _
    · rfl
  all_goals rfl

theorem State.midpointOver_txq : s.midpointOver.txq = s.txq := by
  unfold State.midpointOver
  split
  · exact State.rslCheck_txq _
  · rfl

theorem State.tieOver_txq : s.tieOver.txq = s.txq := by
  unfold State.tieOver
  split
  · split <;> exact State.rslCheck_txq _
  · rfl

theorem State.storeReady_txq : s.closeStoreReady.rslStoreReady.txq = s.txq := by
  have told (u : State) : u.rslStoreReady.txq = u.txq := by
    unfold State.rslStoreReady
    split
    · exact u.rslCheck_txq
    · rfl
  unfold State.closeStoreReady
  split
  · exact (told _).trans (s.beginClose_txq _)
  · exact told s

/-! ### The sequence (R40, R43 to R58) -/

theorem State.toLockout_queued (c : Cause) : Queued s (s.toLockout c) :=
  (State.askSeqEvent_queued _ _).after (.of_txq (State.enter_txq _ _ _))

theorem State.manualTrip_queued (o : OpCause) : Queued s (s.manualTrip o).1 := by
  unfold State.manualTrip
  split
  case h_1 | h_2 | h_3 => exact .of_txq (s.tripUnasked_txq o)
  case h_4 | h_5 => exact s.toLockout_queued _
  case h_6 | h_7 | h_8 => exact .refl s
  case h_9 =>
    split
    · exact .refl s
    · exact .of_txq (s.stuckTrip_txq o)

/-- A confirmed open asks for its events once the state is entered, whatever that state is (R43). -/
theorem State.takeOpen_queued (ms : Nat) : Queued s (s.takeOpen ms) := by
  have events (u : State) (k : EventKind) (txq : u.txq = s.txq) : Queued s (u.askTripEvents k) :=
    Queued.trans (.of_txq txq) ((u.askSeqEvent_queued _).trans (State.askSeqEvent_queued _ _))
  unfold State.takeOpen
  dsimp only
  split
  · split
    · split
      · exact events _ _ (State.enter_txq _ _ _)
      · exact events _ _ (State.enter_txq _ _ _)
    · exact events _ _ (State.enter_txq _ _ _)
    · exact .refl s
  · exact (State.askSeqEvent_queued _ _).after .of_txq
  · exact .refl s

theorem State.takeTripFail_queued : Queued s s.takeTripFail := by
  unfold State.takeTripFail
  split
  · exact (State.askSeqEvent_queued _ _).after (.of_txq (s.enterStuck_txq _))
  · exact (State.askSeqEvent_queued _ _).after .of_txq
  · exact .refl s

theorem State.takePositionFault_queued : Queued s s.takePositionFault := by
  unfold State.takePositionFault
  split
  · exact .of_txq
  · exact (State.askSeqEvent_queued _ _).after (.of_txq (s.enterStuck_txq _))
  · exact .of_txq (s.enterStuck_txq _)

theorem State.takeClosed_queued : Queued s s.takeClosed := by
  unfold State.takeClosed
  split
  · exact (State.askSeqEvent_queued _ _).after (.of_txq (s.reclaim_txq _))
  · exact .refl s

theorem State.takeCloseFail_queued : Queued s s.takeCloseFail := by
  unfold State.takeCloseFail
  split
  · exact s.toLockout_queued _
  · exact .refl s

theorem State.takeUnsolicitedOpen_queued (h : Bool) : Queued s (s.takeUnsolicitedOpen h) := by
  unfold State.takeUnsolicitedOpen
  split
  · exact s.toLockout_queued _
  · exact .refl s

theorem State.externalClose_queued : Queued s s.externalClose := by
  have taken : Queued s s.takeUnsolicitedClose := by
    unfold State.takeUnsolicitedClose
    split
    · exact (State.askSeqEvent_queued _ _).after (.of_txq (s.reclaim_txq _))
    · exact .refl s
  unfold State.externalClose
  split
  · exact taken.trans (.of_txq (State.reopenWatch_txq _))
  · exact taken

theorem State.lockDead_queued (c : Cause) : Queued s (s.lockDead c) := by
  unfold State.lockDead
  split
  · exact s.toLockout_queued c
  · exact .refl s

theorem State.classCutoff_queued : Queued s s.classCutoff := by
  unfold State.classCutoff
  dsimp only
  split
  · exact (State.toLockout_queued _ _).after .of_txq
  · exact .of_txq

theorem State.nonrecloseReading_queued (on : Bool) : Queued s (s.nonrecloseReading on) := by
  unfold State.nonrecloseReading
  dsimp only
  split
  · exact (State.lockDead_queued _ _).after .of_txq
  · exact .of_txq

theorem State.handleReading_queued (down : Bool) : Queued s (s.handleReading down) := by
  unfold State.handleReading
  dsimp only
  split
  · exact (State.lockDead_queued _ _).after .of_txq
  · exact .of_txq

theorem State.deadOver_queued : Queued s s.deadOver := by
  unfold State.deadOver
  dsimp only
  split
  · exact (State.toLockout_queued _ _).after .of_txq
  · split
    · exact .of_txq (State.beginClose_txq _ _)
    · split
      · exact (State.toLockout_queued _ _).after .of_txq
      · exact .of_txq (State.enter_txq _ _ _)

/-! ### The battery (R80 to R101) -/

theorem State.abortTest_queued : Queued s s.abortTest := (State.askBattery_queued _).after .of_txq

theorem State.abortReview_queued : Queued s s.abortReview := by
  obtain h | h := s.abortReview_cases <;> rw [h]
  · exact .refl s
  · exact s.abortTest_queued

theorem State.changeHealth_queued (f : Health Attribute → Health Attribute) : Queued s (s.changeHealth f) := by
  unfold State.changeHealth
  dsimp only
  split
  · exact (State.askBattery_queued _).after .of_txq
  · exact .of_txq

theorem State.chargerExit_queued (mV : Int) : Queued s (s.chargerExit mV) := by
  by_cases tail : s.bcu.mode = .absorb ∧ s.bcu.tailRun = 60
  · rw [State.chargerExit_of_tail tail]
    exact .of_txq
  · obtain h | ⟨_, h⟩ | h := State.chargerExit_of_no_tail tail mV <;> rw [h]
    · exact .refl s
    · exact .of_txq
    · exact (State.changeHealth_queued _ _).after .of_txq

theorem State.chargedSecond_queued (m : Mean) : Queued s (s.chargedSecond m) := by
  have counted (u : State) : (u.countCharge m).txq = u.txq := by
    unfold State.countCharge
    split <;> rfl
  exact Queued.trans ((State.chargerExit_queued _ _).after .of_txq) (.of_txq (counted _))

theorem State.publishClass_queued (c : ReserveClass) : Queued s (s.publishClass c) := by
  have decided : Queued s (State.abortReview { s with bcu := { s.bcu with cls := some c } }) :=
    (State.abortReview_queued _).after .of_txq
  exact fun h => State.startPeriod_queued _ (State.takePower_queued _ _ (decided h)).of_entries

theorem State.supplyReading_queued (active : Bool) : Queued s (s.supplyReading active) := by
  have changed (u : State) : Queued u (u.supplyChanged active) := by
    unfold State.supplyChanged
    dsimp only
    split
    · split <;> exact .of_txq
    · split
      · exact (State.abortTest_queued _).after .of_txq
      · exact .of_txq
  unfold State.supplyReading
  dsimp only
  split
  · exact .of_txq
  · exact (changed _).after .of_txq

theorem State.meanOr_txq (m : Option Mean) : (s.meanOr m).2.txq = s.txq := by cases m <;> rfl

theorem State.beginTest_txq (src : TestSource) : (s.beginTest src).txq = s.txq := s.meanOr_txq s.bcu.latestMean

theorem State.scheduledAttempt_txq : s.scheduledAttempt.txq = s.txq := by
  unfold State.scheduledAttempt
  split
  · exact s.beginTest_txq _
  · rfl

theorem State.testAsked_txq : s.testAsked.1.txq = s.txq := by
  unfold State.testAsked
  split
  · rfl
  · exact s.beginTest_txq _

theorem State.testRetryOver_txq : s.testRetryOver.txq = s.txq := by
  unfold State.testRetryOver
  dsimp only
  split
  · exact State.scheduledAttempt_txq _
  · rfl

theorem State.rollDay_txq : s.rollDay.txq = s.txq := by
  unfold State.rollDay
  dsimp only
  split
  · split <;> exact State.scheduledAttempt_txq _
  · rfl

theorem State.applyResult_queued (t : TestResult) : Queued s (s.applyResult t) := by
  have left : Queued s (State.changeHealth { s.retain fun r => { r with lastResult := some t } with
      bcu := { s.bcu.leaveTest with latestAttempt := some t.outcome.attempt } } (afterResult s.stl.image.rRef t)) :=
    (State.changeHealth_queued _ _).after .of_txq
  exact left.trans ((State.askBattery_queued _).after .of_txq)

theorem State.loadOver_queued : Queued s s.loadOver := by
  unfold State.loadOver
  split
  · exact (State.applyResult_queued _ _).after (.of_txq (s.meanOr_txq _))
  · exact .refl s

end

end Sys2Proof.Machine
end

section
/-! Every step keeps the law of the transmit queue (R122, R124 to R127). -/

namespace Sys2Proof.Machine

-- The lemmas are checked one after another: side by side they need more threads than the sandbox grants.
set_option Elab.async false

open Sys2Proof.Safety Sys2Proof.Claims

/-! ### Events -/

section
variable {s : State}

theorem State.settle_queued (s : State) (b : RslInputs) (x : Bool) : Queued s (s.settle b x) := by
  obtain ⟨-, -, reviewed, -⟩ := s.rslReview_stands b x
  exact Queued.trans ((State.abortReview_queued _).after (.of_txq reviewed)) (.of_txq (State.listenReview_txq _))

theorem event_queued {f : State → State} (h : Queued s (f s)) : Queued s (event f s) :=
  h.trans (State.settle_queued _ _ _)

theorem ifRuns_queued {t : State → Option Timer} {f : State → State} (h : Queued s (f s)) :
    Queued s (ifRuns t f s) := by
  unfold ifRuns
  split
  · exact h
  · exact .refl s

theorem whenDue_queued {d : State → Bool} {f : State → State} (h : Queued s (f s)) : Queued s (whenDue d f s) := by
  unfold whenDue
  split
  · exact h
  · exact .refl s

theorem eitherOrder_queued {f g : State → State} (hf : ∀ u, Queued u (f u)) (hg : ∀ u, Queued u (g u)) :
    Queued s (eitherOrder f g s) :=
  eitherOrder_keeps (Queued s) f g s .of_txq (fun u k => k.trans (hf u)) (fun u k => k.trans (hg u))

theorem withAbort_queued {f : State → State} (h : ∀ u, Queued u (f u)) : Queued s (withAbort f s) := by
  unfold withAbort
  split
  · exact eitherOrder_queued State.abortTest_queued h
  · exact h s

theorem onArrival_queued {α : Type} {pick : Report → Option α} {f : α → State → State}
    (h : ∀ a u, Queued u (f a u)) : Queued s (onArrival pick f s) := by
  unfold onArrival
  split
  · exact (h _ _).after .of_txq
  · exact .refl s

/-- A frame taken by the filter (R108). -/
theorem State.heard_txq (s : State) (a : Uptime) (k : FrameClass) : (s.dropReception.filterEffect a k).txq = s.txq := by
  cases k <;> rfl

theorem onFrame_queued {α : Type} {pick : Frame → Option α} {f : α → Uptime → State → State}
    (h : ∀ a u t, Queued t (f a u t)) : Queued s (onFrame pick f s) := by
  unfold onFrame
  split
  · split
    · split
      · exact (h _ _ _).after (.of_txq (s.heard_txq _ _))
      · exact .refl s
    · exact .refl s
  · exact .refl s

end

section
variable (s : State)

/-! ### The mechanism asks for no frame (R63 to R70, R74) -/

theorem State.pulseEnd_txq : s.pulseEnd.txq = s.txq := by
  unfold State.pulseEnd
  split <;> rfl

theorem State.storeWaitEnd_txq : s.storeWaitEnd.txq = s.txq := by
  unfold State.storeWaitEnd
  split <;> rfl

theorem State.openSeen_txq : s.openSeen.txq = s.txq := by
  unfold State.openSeen
  split <;> rfl

theorem State.closedSeen_txq : s.closedSeen.txq = s.txq := by
  unfold State.closedSeen
  split <;> rfl

theorem State.closePulseEnd_txq : s.closePulseEnd.txq = s.txq := by
  unfold State.closePulseEnd
  split <;> rfl

theorem State.contacts_txq (o c : Bool) : (s.contacts o c).txq = s.txq := by
  have moved (u : State) (p : Position) : (u.moved p).txq = u.txq := by
    unfold State.moved
    dsimp only
    split <;> rfl
  unfold State.contacts
  dsimp only
  split
  · rfl
  · split
    · rfl
    · split
      · exact moved _ _
      · split <;> rfl
      · split <;> rfl

theorem State.firstPosition_txq (p : Position) : (s.firstPosition p).txq = s.txq := by
  have started (u : State) : (u.startState p).txq = u.txq := by
    cases p with
    | closed => exact u.enter_txq _ _
    | opened => exact u.enter_txq _ _
    | unknown => exact u.enterStuck_txq _
  unfold State.firstPosition
  split
  · exact started _
  · rfl

theorem State.firstContacts_txq (o c : Bool) : (s.firstContacts o c).txq = s.txq := by
  unfold State.firstContacts
  split
  · exact State.firstPosition_txq _ _
  · rfl

theorem State.readyReading_txq (id : StoreId) (active : Bool) : (s.readyReading id active).txq = s.txq := by
  unfold State.readyReading
  split
  · rfl
  · dsimp only
    split
    · exact State.storeReady_txq _
    · rfl

/-! ### The measurement chain and the second (R3, R9, R15, R19, R30, R81 to R92) -/

theorem State.halfCycle_queued : Queued s s.halfCycle := by
  have episode (u : State) (r : UpdateRecord) (b : Bool) : Queued u (u.evaluateEpisode r b) := by
    unfold State.evaluateEpisode
    dsimp only
    split
    · exact (State.askPickup_queued _ _).after .of_txq
    · split <;> exact .of_txq
  have evaluated (u : State) (r : UpdateRecord) : Queued u (u.evaluate r) := by
    unfold State.evaluate
    split
    · rw [State.evaluateElements_eq]
      exact (episode _ _ _).after .of_txq
    · exact .refl u
  rw [State.halfCycle_eq]
  exact (evaluated _ _).after .of_txq

theorem State.evaluateClass_queued (m : Mean) : Queued s (s.evaluateClass m) := by
  have classed : Queued s (s.classed m) := by
    unfold State.classed
    split
    · exact .of_txq
    · exact (State.publishClass_queued _ _).after .of_txq
  rw [State.evaluateClass_eq]
  split
  · exact classed.trans (eitherOrder_queued (fun u => u.changeHealth_queued _) fun u => u.classCutoff_queued)
  · exact classed

theorem State.oneSecond_queued : Queued s s.oneSecond := by
  have second (u : State) (m : Mean) : Queued u (u.batterySecond m) :=
    (u.chargedSecond_queued m).trans (State.evaluateClass_queued _ m)
  exact (second _ _).after .of_txq

theorem State.dayEvent_queued : Queued s s.dayEvent := event_queued (.of_txq s.rollDay_txq)

theorem State.secondEvent_queued : Queued s s.secondEvent :=
  (event_queued (State.oneSecond_queued _)).after (whenDue_queued s.dayEvent_queued)

theorem State.halfCycleEvent_queued : Queued s s.halfCycleEvent :=
  event_queued (withAbort_queued State.halfCycle_queued)

theorem State.sampleEvent_queued : Queued s s.sampleEvent :=
  ((whenDue_queued s.halfCycleEvent_queued).trans (whenDue_queued (State.secondEvent_queued _))).trans .of_txq

theorem State.bitsEvent_queued (b : Byte) : Queued s (s.bitsEvent b) :=
  (whenDue_queued s.sampleEvent_queued).trans .of_txq

/-! ### The tags (R154, R158 to R162) -/

theorem State.changeTags_queued (on : Bool) {answer : State → State} (h : ∀ u, Queued u (answer u))
    (f : Retained → Retained) : Queued s (s.changeTags on answer f) := by
  have asked (u : State) : Queued u (answer u).askTagNotice := (h u).trans (State.askTagNotice_queued _)
  unfold State.changeTags
  dsimp only
  split
  · exact (eitherOrder_queued asked fun u => u.lockDead_queued _).after .of_txq
  · exact (asked _).after .of_txq

theorem State.hotlineReading_queued (on : Bool) : Queued s (s.hotlineReading on) := by
  have changed : Queued s (s.hotlineChanged on) := by
    unfold State.hotlineChanged
    split <;> exact (State.changeTags_queued _ _ Queued.refl _).after .of_txq
  unfold State.hotlineReading
  split
  · exact .of_txq
  · split
    · exact .refl s
    · exact changed

theorem State.answerTags_queued (r : CrewRequest) (o : RequestOutcome) (f : Option (Retained → Retained)) :
    Queued s (s.answerTags r o f) := by
  cases f with
  | some f => exact s.changeTags_queued _ (fun u => u.askResult_queued _ _ _) f
  | none => exact s.askResult_queued _ _ _

theorem State.placeRequest_queued (r : CrewRequest) : Queued s (s.placeRequest r) := by
  unfold State.placeRequest
  split <;> exact s.answerTags_queued _ _ _

theorem State.removeRequest_queued (r : CrewRequest) : Queued s (s.removeRequest r) := by
  unfold State.removeRequest
  split <;> exact s.answerTags_queued _ _ _

theorem State.clearRequest_queued (r : CrewRequest) : Queued s (s.clearRequest r) := by
  unfold State.clearRequest
  split <;> exact s.answerTags_queued _ _ _

/-! ### Frames and requests heard, and the time base (R108, R109, R137, R142, R156) -/

theorem State.rejectFrame_txq : s.rejectFrame.txq = s.txq := by
  unfold State.rejectFrame
  split
  · split
    · rfl
    · exact s.heard_txq _ _
  · rfl

theorem State.peerFrame_txq (id : Nat) (a : Uptime) (g : Option Segments) (f : PeerEntry → PeerEntry) :
    (s.peerFrame id a g f).txq = s.txq := by
  unfold State.peerFrame
  split
  · exact State.rslCheck_txq _
  · rfl

theorem State.statusNow_queued (r : CrewRequest) : Queued s (s.statusNow r) := by
  have rearmed (u : State) : u.rearmLive.txq = u.txq := by
    unfold State.rearmLive
    split
    · exact u.rearm_txq
    · rfl
  exact (s.askResult_queued _ _ _).trans ((State.statusDemand_queued _ _).trans (.of_txq (rearmed _)))

theorem State.panelTrip_queued (o : OpCause) : Queued s (s.rearm.manualTrip o).1 :=
  (State.manualTrip_queued _ _).after (.of_txq s.rearm_txq)

theorem State.answer_queued {s : State} {p : State × RequestOutcome} (h : Queued s p.1) (r : CrewRequest) :
    Queued s (State.answer p r) := h.trans (State.askResult_queued _ _ _ _)

theorem State.second_queued : Queued s s.second :=
  (State.settle_queued _ _ _).after (.of_txq (State.rslCheck_txq _))

/-! ### The starts (R122, R178) -/

/-- The queue of a start is empty. -/
theorem queued_of_started {s t : State} (txq : t.txq = Txq.start := by rfl) : Queued s t := fun _ => by
  rw [txq]
  exact ⟨⟨List.nodup_nil, by simp [Txq.start]⟩, by decide, by decide, by decide, .nil⟩

theorem State.takeWord_queued (w : Word16) : Queued s (s.takeWord w) := by
  have up (b : List Word16) : Queued s (s.bringUp b) := by
    unfold State.bringUp
    exact (State.statusDemand_queued _ _).after queued_of_started
  unfold State.takeWord
  split
  · split
    · exact .of_txq
    · exact up _
  · exact .refl s

end

/-! ### The commands -/

theorem whenUp_queued {f : State → State} {s t : State} (h : whenUp f s = .next t) (k : Queued s (f s)) :
    Queued s t := by
  rw [whenUp_next.mp h]
  split
  · exact k
  · exact .refl s

theorem whenUp_event_queued {f : State → State} {s t : State} (h : whenUp (event f) s = .next t)
    (k : Queued s (f s)) : Queued s t := whenUp_queued h (event_queued k)

/-- An event whose own block leaves the queue. -/
theorem whenUp_event_txq {f : State → State} {s t : State} (h : whenUp (event f) s = .next t)
    (txq : (f s).txq = s.txq) : Queued s t := whenUp_event_queued h (.of_txq txq)

theorem linkEvent_queued {f : State → State} {s : State} (h : Queued s (f s)) : Queued s (linkEvent f s) :=
  h.trans (.of_txq (State.listenReview_txq _))

theorem whenUp_link_queued {f : State → State} {s t : State} (h : whenUp (linkEvent f) s = .next t)
    (k : Queued s (f s)) : Queued s t := whenUp_queued h (linkEvent_queued k)

theorem exec_queued {i : Instr} {s t : State} (h : exec i s = .next t) : Queued s t := by
  cases i with
  | restartInput kept | supplyReturn kept => cases h; exact queued_of_started
  | settingsWordRead w => cases h; exact s.takeWord_queued w
  | settingsWordTimeout => cases h; exact s.takeWord_queued _
  | modulatorBit b => exact whenUp_queued (f := (·.bitsEvent b)) h (s.bitsEvent_queued b)
  | decimatedSample => exact whenUp_queued h (whenDue_queued s.sampleEvent_queued)
  | halfCycleUpdate => exact whenUp_queued h (whenDue_queued s.halfCycleEvent_queued)
  | oneSecondUpdate => exact whenUp_queued h (whenDue_queued s.secondEvent_queued)
  | dayRollover => exact whenUp_queued h (whenDue_queued s.dayEvent_queued)
  | tripRequest => exact whenUp_event_queued h (onArrival_queued fun r u => .of_txq (u.takeTripRequest_txq r))
  | sequenceStep => exact whenUp_event_queued h (onArrival_queued fun _ u => .of_txq u.takeStep_txq)
  | openConfirmation => exact whenUp_event_queued h (onArrival_queued fun ms u => u.takeOpen_queued ms)
  | tripFail => exact whenUp_event_queued h (onArrival_queued fun _ u => u.takeTripFail_queued)
  | closeConfirmation => exact whenUp_event_queued h (onArrival_queued fun _ u => u.takeClosed_queued)
  | closeFail => exact whenUp_event_queued h (onArrival_queued fun _ u => u.takeCloseFail_queued)
  | unsolicitedClose => exact whenUp_event_queued h (onArrival_queued fun _ u => u.externalClose_queued)
  | unsolicitedOpen =>
    exact whenUp_event_queued h
      (withAbort_queued fun _ => onArrival_queued fun d u => u.takeUnsolicitedOpen_queued d)
  | positionFault =>
    exact whenUp_event_queued h
      (withAbort_queued fun _ => onArrival_queued fun _ u => u.takePositionFault_queued)
  | openSeen => exact whenUp_event_txq h s.openSeen_txq
  | pulseLimitExpiry => exact whenUp_event_queued h (ifRuns_queued (.of_txq s.pulseEnd_txq))
  | storeWaitExpiry => exact whenUp_event_queued h (ifRuns_queued (.of_txq s.storeWaitEnd_txq))
  | closedSeen => exact whenUp_event_txq h s.closedSeen_txq
  | closePulseLimitExpiry => exact whenUp_event_queued h (ifRuns_queued (.of_txq s.closePulseEnd_txq))
  | positionChange o c => exact whenUp_event_txq h (s.contacts_txq o c)
  | positionFaultTimerExpiry =>
    exact whenUp_event_queued h (ifRuns_queued (.of_txq (by rw [State.faultTimerOver_eq])))
  | firstPosition o c => exact whenUp_event_txq h (s.firstContacts_txq o c)
  | firstPositionTimeout => exact whenUp_event_txq h (s.firstPosition_txq _)
  | handleChange d => exact whenUp_event_queued h (s.handleReading_queued d)
  | readyInputChange id a => exact whenUp_event_txq h (s.readyReading_txq id a)
  | deadTimerExpiry => exact whenUp_event_queued h (ifRuns_queued s.deadOver_queued)
  | energyWaitExpiry => exact whenUp_event_queued h (ifRuns_queued (s.toLockout_queued _))
  | reclaimExpiry => exact whenUp_event_queued h (ifRuns_queued (.of_txq (State.enter_txq _ _ _)))
  | chargeLimitExpiry id | retryTimerExpiry id => exact whenUp_event_queued h (ifRuns_queued .of_txq)
  | closeDemandExpiry | rslStoreWaitExpiry | ackTimerExpiry =>
    exact whenUp_event_queued h (ifRuns_queued .of_txq)
  | panelTrip => exact whenUp_event_queued h (s.panelTrip_queued _)
  | panelClose => exact whenUp_event_txq h (s.closeAsked_txq _)
  | nonrecloseChange on => exact whenUp_event_queued h (s.nonrecloseReading_queued on)
  | supplyOkChange a => exact whenUp_event_queued h (s.supplyReading_queued a)
  | testRetryExpiry => exact whenUp_event_queued h (ifRuns_queued (.of_txq s.testRetryOver_txq))
  | loadTimerExpiry => exact whenUp_event_queued h (ifRuns_queued s.loadOver_queued)
  | frameRejected => exact whenUp_event_txq h s.rejectFrame_txq
  | receiveStatus | receiveSeqEvent | receiveTagNotice | receivePeerReport =>
    exact whenUp_event_queued h (onFrame_queued fun _ _ u => .of_txq (u.peerFrame_txq _ _ _ _))
  | receivePickup =>
    exact whenUp_event_queued h (onFrame_queued fun _ _ u =>
      .of_txq ((State.startQuiet_txq _ _ _).trans (u.peerFrame_txq _ _ _ _)))
  | crewTagPlace => exact whenUp_event_queued h (onFrame_queued fun r _ u => u.placeRequest_queued r)
  | crewTagRemove => exact whenUp_event_queued h (onFrame_queued fun r _ u => u.removeRequest_queued r)
  | crewClearUnknown => exact whenUp_event_queued h (onFrame_queued fun r _ u => u.clearRequest_queued r)
  | crewTrip =>
    exact whenUp_event_queued h (withAbort_queued fun _ => onFrame_queued fun r _ u =>
      State.answer_queued (u.panelTrip_queued _) r)
  | crewClose =>
    exact whenUp_event_queued h (onFrame_queued fun r _ u =>
      State.answer_queued (.of_txq (u.closeAsked_txq _)) r)
  | crewStatusNow => exact whenUp_event_queued h (onFrame_queued fun r _ u => u.statusNow_queued r)
  | crewBatteryTest =>
    exact whenUp_event_queued h (onFrame_queued fun r _ u => State.answer_queued (.of_txq u.testAsked_txq) r)
  | crewRequestNotActedOn => exact whenUp_event_queued h (onFrame_queued fun _ _ u => .refl u)
  | hotlineSwitchChange on => exact whenUp_event_queued h (s.hotlineReading_queued on)
  | timeBaseSecond => exact whenUp_queued h s.second_queued
  | midpointTimerExpiry => exact whenUp_event_queued h (ifRuns_queued (.of_txq s.midpointOver_txq))
  | tieTimerExpiry => exact whenUp_event_queued h (ifRuns_queued (.of_txq s.tieOver_txq))
  | serialByteArrival b => exact whenUp_link_queued (f := (·.serialByte b)) h (s.serialByte_queued b)
  | receptionGapExpiry => exact whenUp_link_queued h (.of_txq s.endReception_txq)
  | busyChange a =>
    cases h
    split
    · exact linkEvent_queued (s.busyLevel_queued a)
    · exact .of_txq
  | collideActive => exact whenUp_link_queued h (.of_txq s.collided_txq)
  | gapExpiry => exact whenUp_link_queued h s.gapOver_queued
  | backoffExpiry => exact whenUp_link_queued h s.backoffOver_queued
  | sendEnd => exact whenUp_link_queued h s.sendOver_queued
  | warmUpExpiry | quietTimerExpiry =>
    exact whenUp_link_queued h (ifRuns_queued (.of_txq (State.search_txq _)))
  | listenWindowOpen => exact whenUp_link_queued h (.of_txq s.openWindow_txq)
  | listenWindowClose => exact whenUp_link_queued h (.of_txq s.closeWindow_txq)
  | listenHoldLimit | linkTimerExpiry => exact whenUp_link_queued h (ifRuns_queued .of_txq)
  | pickupLifeExpiry => exact whenUp_link_queued h s.pickupLifeOver_queued
  | statusPeriodExpiry => exact whenUp_link_queued h (ifRuns_queued s.periodOver_queued)

/-! ### The step -/

theorem step_queued {s t : State} (h : step s = .next t) : Queued s t := by
  obtain ⟨i, rest, -, ran⟩ | rfl := step_cases h
  · exact (exec_queued ran).after .of_txq
  · unfold State.idle
    split
    · split <;> exact .of_txq
    · exact .refl s

theorem queueHolds_atEveryStep : Claims.QueueHolds := fun s t sound h =>
  (queueSound_iff t).mpr (step_queued h ((queueSound_iff s).mp sound))

/-- Settles O6: the list changes by joins that overflow and the kinds' own rules make room for, by entries taken out,
and by changes that leave all that the law reads of an entry; every command is made of these. -/
theorem queueHolds : Obligations.QueueHolds := queueHolds_atEveryStep

end Sys2Proof.Machine
end

section
/-! Overflow, joins, eligibility and the search (R114, R115, R120, R124 to R126). -/

namespace Sys2Proof.Machine

-- The lemmas are checked one after another: side by side they need more threads than the sandbox grants.
set_option Elab.async false

open Sys2Proof.Safety Sys2Proof.Claims

/-! ### The entry that overflow looks at (R125) -/

theorem lessUrgent_not_before (a b : Entry) : ¬before (lessUrgent a b) a ∧ ¬before (lessUrgent a b) b := by
  unfold lessUrgent before
  split <;> omega

/-- Not to come before is transitive: the order compares a pair of numbers. -/
theorem not_before_trans {a b c : Entry} (h : ¬before a b) (k : ¬before b c) : ¬before a c := by
  unfold before at h k ⊢
  omega

/-- The pick of the less urgent one after another comes before no entry of the list. -/
theorem foldl_lessUrgent_last (l : List Entry) (e : Entry) : ∀ x ∈ e :: l, ¬before (l.foldl lessUrgent e) x := by
  induction l generalizing e with
  | nil => simp [before]
  | cons y ys ih =>
    obtain ⟨first, rest⟩ := List.forall_mem_cons.mp (ih (lessUrgent e y))
    obtain ⟨notE, notY⟩ := lessUrgent_not_before e y
    refine List.forall_mem_cons.mpr ⟨?_, List.forall_mem_cons.mpr ⟨?_, rest⟩⟩
    · exact not_before_trans first notE
    · exact not_before_trans first notY

/-- Of the entries not in flight none comes after the one that overflow looks at. -/
theorem Txq.victim_last {q : Txq} {v : Entry} (h : q.victim = some v) :
    ∀ e ∈ q.entries, e.inFlight = false → ¬before v e := by
  intro e mem waits
  have listed : e ∈ q.entries.filter fun e => !e.inFlight := by simp [mem, waits]
  unfold Txq.victim at h
  split at h
  · cases h
  · next x xs parts =>
    cases h
    exact foldl_lessUrgent_last xs x e (parts ▸ listed)

theorem Txq.victim_eq_none {q : Txq} (h : q.victim = none) : ∀ e ∈ q.entries, e.inFlight = true := by
  unfold Txq.victim at h
  split at h
  · next empty => simpa using empty
  · cases h

theorem overflowRule : OverflowRule := by
  intro s p sound
  have numbered := ((queueSound_iff s).mp sound).toNumbered
  unfold Txq.evicts
  cases victim : s.txq.victim with
  | none =>
    refine ⟨by simp, fun _ e mem waits => ?_⟩
    rw [Txq.victim_eq_none victim e mem] at waits
    cases waits
  | some v =>
    obtain ⟨mv, flies⟩ := Txq.victim_mem victim
    have last := Txq.victim_last victim
    by_cases urgent : p ≤ v.priority
    · dsimp only
      rw [if_pos urgent]
      refine ⟨fun _ same => ?_, by simp⟩
      cases same
      refine ⟨mv, flies, urgent, fun e mem waits other => ?_⟩
      have parted : e.order ≠ v.order := fun same => other (numbered.eq_of_order mem mv same)
      have := last e mem waits
      unfold before at this
      omega
    · dsimp only
      rw [if_neg urgent]
      refine ⟨by simp, fun _ e mem waits => ?_⟩
      have := last e mem waits
      unfold before at this
      omega

/-! ### Joins (R114, R120, R124) -/

/-- What stands across an asking is read off its queue and its access. -/
theorem OnlyQueue.eq {s t : State} (h : OnlyQueue s t) : t = { s with
    txq := t.txq,
    lnk := { s.lnk with access := t.lnk.access, selected := t.lnk.selected, slot := t.lnk.slot } } := by
  obtain ⟨_, _, _, _, rfl⟩ := h
  rfl

/-- What stands across an asking, put back. -/
theorem OnlyQueue.restore {s t : State} (h : OnlyQueue s t) : { t with
    txq := s.txq,
    lnk := { t.lnk with access := s.lnk.access, selected := s.lnk.selected, slot := s.lnk.slot } } = s := by
  obtain ⟨_, _, _, _, rfl⟩ := h
  rfl

theorem joinPlaces : JoinPlaces := by
  intro s c sound new
  have same : new = s.newEntry c := by cases c <;> rfl
  have law := (queueSound_iff s).mp sound
  have txq : (s.join c).txq =
      { s.txq with entries := (s.join c).txq.entries, nextOrder := s.txq.nextOrder + 1 } := by rw [State.join_txq]
  have stands := (s.join_onlyQueue c).eq
  rw [txq] at stands
  refine ⟨?_, stands⟩
  rw [same, State.join_entries]
  exact insertEntry_split law.sorted law.below

/-- The state with an entry put into the list, its access still to be looked at. -/
def State.listed (s : State) (c : Content) : State :=
  { s with
    txq := { s.txq with
      entries := insertEntry (s.newEntry c) s.txq.entries, nextOrder := s.txq.nextOrder + 1 } }

/-- Outside IDLE the search changes nothing (R114). -/
theorem State.search_of_busy {s : State} (busy : s.lnk.access ≠ .idle) : s.search = s := if_neg busy

/-- A join of priority 0 displaces a selected entry of priority 2 or 3 in GAP or BACKOFF (R120). -/
def Displaces (s : State) (c : Content) : Prop :=
  c.priority s.stl.image.priorityMap = 0 ∧ (s.lnk.access = .gap ∨ s.lnk.access = .backoff) ∧
    ∃ e ∈ s.txq.entries, s.lnk.selected = some e.order ∧ 2 ≤ e.priority

theorem State.join_of_displaces {s : State} (h : s.txq.Numbered) {c : Content} (displaces : Displaces s c) :
    s.join c = (s.listed c).returnSelected := by
  obtain ⟨urgent, waits, e, mem, selected, low⟩ := displaces
  have listed : e ∈ (s.listed c).txq.entries := (mem_insertEntry ..).mpr (.inr mem)
  have numbered := State.join_numbered h c
  rw [State.join_txq] at numbered
  have found : (s.listed c).selectedEntry = some e := by
    rw [State.selectedEntry, show (s.listed c).lnk.selected = some e.order from selected]
    exact entry_of_mem (q := (s.listed c).txq) numbered.nodup listed
  change (s.listed c).afterJoin _ = _
  rw [State.afterJoin, found]
  have looks : (s.listed c).lnk.access = .gap ∨ (s.listed c).lnk.access = .backoff := waits
  exact if_pos (by simpa [urgent, low] using looks)

theorem State.join_of_not_displaces {s : State} {c : Content} (displaces : ¬Displaces s c) :
    s.join c = (s.listed c).search := by
  change (s.listed c).afterJoin _ = _
  unfold State.afterJoin
  split
  · next e found =>
    split
    · next looks =>
      simp only [Bool.and_eq_true, Bool.or_eq_true, decide_eq_true_eq] at looks
      obtain ⟨⟨urgent, low⟩, waits⟩ := looks
      obtain ⟨mem, selected⟩ := State.selectedEntry_mem found
      obtain rfl | mem := (mem_insertEntry ..).mp mem
      · exact absurd (show 2 ≤ c.priority s.stl.image.priorityMap from low) (by omega)
      · exact absurd ⟨urgent, waits, e, mem, selected, low⟩ displaces
    · rfl
  · rfl

theorem joinDisplaces : JoinDisplaces := by
  intro s c sound urgent u displaced
  have same : u = s.listed c := by
    change { s with txq := (s.join c).txq } = _
    rw [State.join_txq]
    rfl
  have prio : urgent = decide (c.priority s.stl.image.priorityMap = 0) := by cases c <;> rfl
  have displaces : displaced ↔ Displaces s c := by
    change urgent = true ∧ _ ↔ _
    rw [prio, decide_eq_true_eq]
    rfl
  rw [displaces, same]
  refine ⟨State.join_of_displaces ((queueSound_iff s).mp sound).toNumbered, State.join_of_not_displaces,
    fun stays busy => ?_⟩
  rw [State.join_of_not_displaces stays]
  exact State.search_of_busy busy

/-! ### Overflow (R125, R126) -/

/-- An entry leaves the list, its access with it if it was selected, and the search is made (R114, R125). -/
theorem State.dropEntry_eq (s : State) (n : Nat) : s.dropEntry n = State.search
    (if s.lnk.selected = some n then { s with txq := s.txq.remove n, lnk := s.lnk.released }
    else { s with txq := s.txq.remove n }) := by
  unfold State.dropEntry
  split <;> rfl

theorem State.joinFrame_of_room {s : State} (room : s.txq.entries.length < 8) (c : Content) :
    s.joinFrame c = s.join c := if_pos room

theorem State.joinFrame_of_dropped {s : State} {c : Content} (full : s.txq.entries.length = 8)
    (dropped : s.txq.evicts (c.priority s.stl.image.priorityMap) = none) :
    s.joinFrame c = s.statusDemand .overflow := by
  rw [State.joinFrame, if_neg (by omega), dropped]

theorem State.joinFrame_of_evicts {s : State} {c : Content} {v : Entry} (full : s.txq.entries.length = 8)
    (evicts : s.txq.evicts (c.priority s.stl.image.priorityMap) = some v) :
    s.joinFrame c = ((s.dropEntry v.order).join c).statusDemand .overflow := by
  rw [State.joinFrame, if_neg (by omega), evicts]

/-- An eviction takes the one entry out and puts the new one in. -/
theorem State.mem_evictJoin {s : State} (h : s.txq.Numbered) {v : Entry} (mv : v ∈ s.txq.entries) (c : Content) :
    v ∉ ((s.dropEntry v.order).join c).txq.entries ∧
      ∀ x ∈ s.txq.entries, x = v ∨ x ∈ ((s.dropEntry v.order).join c).txq.entries := by
  have next : ((s.dropEntry v.order).newEntry c).order = s.txq.nextOrder := by
    change (s.dropEntry v.order).txq.nextOrder = _
    rw [State.dropEntry_txq, Txq.remove_nextOrder]
  simp only [State.join_entries, mem_insertEntry, State.dropEntry_txq, Txq.remove_entries, List.mem_filter]
  refine ⟨fun mem => ?_, fun x mx => ?_⟩
  · obtain same | ⟨-, other⟩ := mem
    · have below := h.below v mv
      rw [same, next] at below
      exact lt_irrefl _ below
    · simp at other
  · by_cases same : x.order = v.order
    · exact .inl (h.eq_of_order mx mv same)
    · exact .inr (.inr ⟨mx, by simpa using same⟩)

/-! ### Status demands (R126) -/

theorem Reasons.add_eq (q : Reasons) (r : Reason) : q.add r =
    ⟨q.period || r = .period, q.start || r = .start, q.seqEvent || r = .seqEvent, q.tagChange || r = .tagChange,
      q.crew || r = .crew, q.overflow || r = .overflow⟩ := by
  cases r <;> simp [Reasons.add]

theorem State.statusDemand_of_none {s : State} (none : ∀ e ∈ s.txq.entries, e.isStatus = false) (r : Reason) :
    s.statusDemand r = s.joinStatus (Reasons.empty.add r) := by
  rw [State.statusDemand, find_status_eq_none.mpr none]

theorem State.joinStatus_of_full {s : State} (full : s.txq.entries.length = 8) (q : Reasons) :
    s.joinStatus q = match s.txq.evicts (s.stl.image.priorityMap / 256 % 4) with
      | some v => (s.dropEntry v.order).join (.status (q.add .overflow))
      | none => s := by
  rw [State.joinStatus, if_neg (by omega)]
  rfl

/-- The STATUS of a sound list is the only one (R124). -/
theorem Txq.Sound.find_status {q : Txq} (h : q.Sound) {e : Entry} (mem : e ∈ q.entries) (status : e.isStatus = true) :
    q.entries.find? Entry.isStatus = some e := by
  cases found : q.entries.find? Entry.isStatus with
  | none => exact absurd status (List.find?_eq_none.mp found e mem)
  | some x =>
    rw [eq_of_filter_le_one h.statuses (List.mem_of_find?_eq_some found) (List.find?_some found) mem status]

/-- With a STATUS in the list the reason goes to it, or, while it is in flight, to the status owed. -/
theorem State.statusDemand_of_status {s : State} (h : s.txq.Sound) {e : Entry} (mem : e ∈ s.txq.entries) {q : Reasons}
    (content : e.content = .status q) (r : Reason) : s.statusDemand r =
      if e.inFlight then
        { s with txq := { s.txq with owed := some ((s.txq.owed.getD Reasons.empty).add r) } }
      else
        { s with
          txq := s.txq.change e.order fun x => { x with content := .status (q.add r) } } := by
  rw [State.statusDemand, h.find_status mem (by rw [Entry.isStatus, content])]
  dsimp only
  split
  · rfl
  · have changed : (s.txq.change e.order (withReason r)) =
        s.txq.change e.order fun x => { x with content := .status (q.add r) } := by
      unfold Txq.change
      congr 1
      refine List.map_congr_left fun x mx => ?_
      split
      · next same =>
        rw [h.eq_of_order mx mem same, withReason, content]
      · rfl
    exact congrArg (fun t => { s with txq := t }) changed

theorem overflowEffect : OverflowEffect := by
  intro s c r sound one added prio gone freed left
  have law := (queueSound_iff s).mp sound
  have adds (q : Reasons) : added q = q.add r := (Reasons.add_eq q r).symm
  have only : one = Reasons.empty.add r := by cases r <;> rfl
  have drops (v : Entry) : left v = s.dropEntry v.order := (s.dropEntry_eq v.order).symm
  simp only [drops, adds, only]
  refine ⟨fun room => s.joinFrame_of_room room c, State.joinFrame_of_dropped, fun v full evicts => ?_,
    fun none => ⟨fun room => ?_, fun full => ?_⟩, fun e mem q content => ?_⟩
  · exact ⟨State.joinFrame_of_evicts full evicts, State.mem_evictJoin law.toNumbered (Txq.evicts_mem evicts).1 c⟩
  · rw [State.statusDemand_of_none none]
    exact if_pos room
  · rw [State.statusDemand_of_none none, State.joinStatus_of_full full]
    rfl
  · rw [State.statusDemand_of_status law mem content]
    have owes : (s.txq.owed.getD Reasons.empty).add r = match s.txq.owed with
        | some w => w.add r
        | none => Reasons.empty.add r := by cases s.txq.owed <;> rfl
    rw [owes]
    rfl

/-! ### Eligibility and the search (R114, R115) -/

theorem RadioPower.selects_iff (w : RadioPower) (p : Nat) : w.selects p = true ↔ w ≠ .off ∧ (w = .sparse → p ≤ 1) := by
  cases w <;> simp [RadioPower.selects]

theorem eligibleEntries : EligibleEntries := by
  intro l own p
  simp only [Lnk.eligible, Bool.and_eq_true, Bool.or_eq_true, RadioPower.selects_iff, Option.isNone_iff_eq_none,
    decide_eq_true_eq]
  tauto

theorem State.search_of_none {s : State}
    (none : ∀ e ∈ s.txq.entries, s.lnk.eligible s.stl.image.stationId.isSome e.priority = false) : s.search = s := by
  unfold State.search
  split
  · rw [List.find?_eq_none.mpr fun e mem => by simp [none e mem]]
  · rfl

/-- The first eligible entry of an ordered list is found (R114). -/
theorem find_first {l : List Entry} (sorted : l.Pairwise before) {p : Entry → Bool} {e : Entry} (mem : e ∈ l)
    (holds : p e = true) (first : ∀ x ∈ l, before x e → p x = false) : l.find? p = some e := by
  obtain ⟨front, back, rfl⟩ := List.append_of_mem mem
  obtain ⟨-, -, across⟩ := List.pairwise_append.mp sorted
  refine List.find?_eq_some_iff_append.mpr ⟨holds, front, back, rfl, fun x mx => ?_⟩
  simp [first x (List.mem_append_left _ mx) (across x mx e (.head _))]

theorem searchSelectsFirst : SearchSelectsFirst := by
  intro s sound
  have law := (queueSound_iff s).mp sound
  refine ⟨State.search_of_busy, fun _ => State.search_of_none, fun e mem idle eligible first => ?_⟩
  rw [State.search, if_pos idle, find_first law.sorted mem eligible first]
  rfl

/-- Settles O21: overflow's pick is the last of the list's order among what is not in flight, a join goes before all that
the order puts behind it, and each way of a demand is read off the one STATUS of the list. -/
theorem overflowAndSearch : Obligations.OverflowAndSearch :=
  ⟨overflowRule, overflowEffect, joinPlaces, joinDisplaces, eligibleEntries, searchSelectsFirst⟩

end Sys2Proof.Machine
end

section
/-! What a snapshot takes at its join, with room in the list (R30, R40, R123, R124, R126, R129, R131, R134). -/

namespace Sys2Proof.Machine

-- The lemmas are checked one after another: side by side they need more threads than the sandbox grants.
set_option Elab.async false

open Sys2Proof.Safety Sys2Proof.Claims

/-! ### A demand with room in the list (R126) -/

theorem Entry.isStatus_iff (e : Entry) : e.isStatus = true ↔ ∃ q, e.content = .status q := by
  unfold Entry.isStatus
  cases e.content <;> simp

/-- A status demand leaves the other frames, and its reason in the STATUS of the list or in the status owed. -/
structure Demanded (r : Reason) (s t : State) : Prop where
  frames : ∀ x ∈ s.txq.entries, x.isStatus = false → x ∈ t.txq.entries
  reason : (∃ x ∈ t.txq.entries, ∃ q : Reasons, x.content = .status (q.add r)) ∨
    ∃ q : Reasons, t.txq.owed = some (q.add r)

theorem State.statusDemand_demanded {s : State} (h : s.txq.Sound) (room : s.txq.entries.length < 8) (r : Reason) :
    Demanded r s (s.statusDemand r) := by
  by_cases none : ∀ e ∈ s.txq.entries, e.isStatus = false
  · rw [State.statusDemand_of_none none, State.joinStatus, if_pos room]
    constructor <;> rw [State.join_entries]
    · exact fun x mem _ => (mem_insertEntry ..).mpr (.inr mem)
    · exact .inl ⟨_, (mem_insertEntry ..).mpr (.inl rfl), _, rfl⟩
  · push Not at none
    obtain ⟨e, mem, status⟩ := none
    obtain ⟨q, content⟩ := e.isStatus_iff.mp (Bool.not_eq_false _ ▸ status)
    rw [State.statusDemand_of_status h mem content]
    split
    · exact ⟨fun x mem _ => mem, .inr ⟨_, rfl⟩⟩
    · refine ⟨fun x mx frame => List.mem_map.mpr ⟨x, mx, if_neg fun same => ?_⟩,
        .inl ⟨_, List.mem_map.mpr ⟨e, mem, if_pos rfl⟩, q, rfl⟩⟩
      rw [h.eq_of_order mx mem same] at frame
      exact status frame

/-- A frame that joins and the demand made after it. -/
theorem State.joinFrame_demanded {s : State} (h : s.txq.Sound) (room : s.txq.entries.length ≤ 6) {c : Content}
    (admits : s.txq.Admits c) (frame : (s.newEntry c).isStatus = false) (r : Reason) :
    s.newEntry c ∈ ((s.joinFrame c).statusDemand r).txq.entries ∧ Demanded r s ((s.joinFrame c).statusDemand r) := by
  have joined : (s.joinFrame c).txq.entries = insertEntry (s.newEntry c) s.txq.entries := by
    rw [State.joinFrame_of_room (by omega), State.join_entries]
  have length : (s.joinFrame c).txq.entries.length < 8 := by
    rw [joined, length_insertEntry]
    omega
  obtain ⟨frames, reason⟩ := State.statusDemand_demanded (State.joinFrame_sound h admits) length r
  simp only [joined, mem_insertEntry] at frames
  exact ⟨frames _ (.inl rfl) frame, fun x mem => frames x (.inr mem), reason⟩

/-! ### The statements -/

theorem seqEventJoins_withRoom : Claims.SeqEventJoins := by
  intro s k sound room
  obtain ⟨joined, frames, reason⟩ :=
    State.joinFrame_demanded ((queueSound_iff s).mp sound) room (c := .seqEvent _) trivial rfl .seqEvent
  refine ⟨_, joined, rfl, rfl, rfl, rfl, rfl, rfl, frames, ?_, (s.askSeqEvent_onlyQueue k).restore⟩
  exact reason.imp (fun ⟨x, mem, q, content⟩ => ⟨x, mem, _, content, rfl⟩) fun ⟨q, owed⟩ => ⟨_, owed, rfl⟩

theorem askingsJoin : AskingsJoin := by
  intro s crew k o els sound entry quiet
  have joins (room : s.txq.entries.length < 8) (c : Content) (x : Entry) :
      x ∈ (s.joinFrame c).txq.entries ↔ x ∈ s.txq.entries ∨ x = s.newEntry c := by
    rw [State.joinFrame_of_room room, State.join_entries, mem_insertEntry, or_comm]
  refine ⟨fun room => ?_, fun room => ⟨joins room _, ?_, joins room _, ?_⟩⟩
  · obtain ⟨joined, frames, reason⟩ :=
      State.joinFrame_demanded ((queueSound_iff s).mp sound) room (c := .tagNotice _) trivial rfl .tagChange
    refine ⟨joined, frames, ?_, s.askTagNotice_onlyQueue.restore⟩
    exact reason.imp (fun ⟨x, mem, q, content⟩ => ⟨x, mem, _, content, rfl⟩) fun ⟨q, owed⟩ => ⟨_, owed, rfl⟩
  · exact (s.askResult_onlyQueue crew k o).restore
  · exact (s.askPickup_onlyQueue els).restore

/-- Settles O22: with room a frame joins as it is asked for, and the demand after it finds room for a STATUS or the one
there is. -/
theorem seqEventJoins : Obligations.SeqEventJoins := ⟨seqEventJoins_withRoom, askingsJoin⟩

end Sys2Proof.Machine
end

section
/-! STATUS frames: the end of a clean send and the expiry of the status period (R116, R117, R126, R132). -/

namespace Sys2Proof.Machine

-- The lemmas are checked one after another: side by side they need more threads than the sandbox grants.
set_option Elab.async false

open Sys2Proof.Safety Sys2Proof.Claims

/-! ### The status period (R117, R132) -/

theorem State.startPeriod_eq (s : State) : s.startPeriod = periodStarted s := by
  unfold State.startPeriod periodStarted statusPeriod
  cases cls : s.bcu.cls with
  | none => rfl
  | some c => cases c <;> rfl

/-- The period that starts now: P + j in NORMAL, 4P + j in ECONOMY, j from the register after its advance (R132). -/
def State.newPeriod (s : State) : Timer :=
  let p := if s.bcu.cls = some .normal then s.stl.image.statusPeriod else 4 * s.stl.image.statusPeriod
  ⟨s.now, 1000 * (p + (rngNext s.lnk.rng).toNat % (p / 10 + 1))⟩

theorem periodStarted_of_class {s : State} (cls : s.bcu.cls = some .normal ∨ s.bcu.cls = some .economy) :
    periodStarted s = { s with
      lnk := { s.lnk with rng := rngNext s.lnk.rng }, txq := { s.txq with period := some s.newPeriod } } := if_pos cls

theorem periodStarted_of_other {s : State} (cls : ¬(s.bcu.cls = some .normal ∨ s.bcu.cls = some .economy)) :
    periodStarted s = s := if_neg cls

/-- The period is read off the random register, the class, the setting and the uptime alone. -/
theorem newPeriod_congr {s t : State} (rng : t.lnk.rng = s.lnk.rng) (bcu : t.bcu = s.bcu) (stl : t.stl = s.stl)
    (clock : t.clock = s.clock) : t.newPeriod = s.newPeriod := by
  unfold State.newPeriod State.now
  rw [bcu, stl, clock, rng]

theorem periodStarted_congr {s t : State} (rng : t.lnk.rng = s.lnk.rng) (period : t.txq.period = s.txq.period)
    (bcu : t.bcu = s.bcu) (stl : t.stl = s.stl) (clock : t.clock = s.clock) :
    (periodStarted t).lnk.rng = (periodStarted s).lnk.rng ∧
      (periodStarted t).txq.period = (periodStarted s).txq.period := by
  by_cases cls : s.bcu.cls = some .normal ∨ s.bcu.cls = some .economy
  · rw [periodStarted_of_class cls, periodStarted_of_class (bcu ▸ cls), newPeriod_congr rng bcu stl clock, rng]
    exact ⟨rfl, rfl⟩
  · rw [periodStarted_of_other cls, periodStarted_of_other (bcu ▸ cls)]
    exact ⟨rng, period⟩

/-! ### The end of a clean send of a STATUS (R116, R126) -/

theorem OnlyQueue.rng {s t : State} (h : OnlyQueue s t) : t.lnk.rng = s.lnk.rng := by
  obtain ⟨_, _, _, _, rfl⟩ := h
  rfl

theorem State.applyPower_rng (s : State) (p : RadioPower) : (s.applyPower p).lnk.rng = s.lnk.rng := by
  unfold State.applyPower
  split
  · rfl
  · split
    · rfl
    · split
      · rfl
      · exact (State.returnUnselected_onlyQueue _).rng

theorem State.endAccess_rng (s : State) : s.endAccess.lnk.rng = s.lnk.rng := by
  have pending (u : State) : u.applyPending.lnk.rng = u.lnk.rng := by
    unfold State.applyPending
    split
    · exact State.applyPower_rng _ _
    · rfl
  exact (State.search_onlyQueue _).rng.trans (pending _)

/-- A STATUS that leaves lets the status owed join with its reasons, and nothing is owed any more (R126). -/
theorem State.leave_of_status {s : State} {e : Entry} {q : Reasons} (content : e.content = .status q) :
    s.leave e = match s.txq.owed with
      | some r => State.join { s with txq := { s.txq.remove e.order with owed := none } } (.status r)
      | none => { s with txq := s.txq.remove e.order } := by
  rw [State.leave, content]
  rfl

/-- What the leaving of a STATUS makes of the queue. -/
structure StatusLeft (s t : State) : Prop where
  owed : t.txq.owed = none
  period : t.txq.period = s.txq.period
  frames : ∀ x ∈ s.txq.entries, x.isStatus = false → x ∈ t.txq.entries
  joins : ∀ r, s.txq.owed = some r → ∃ x ∈ t.txq.entries, x.content = .status r ∧ x.order = s.txq.nextOrder ∧
    x.attempts = 0
  alone : s.txq.owed = none → ∀ x ∈ t.txq.entries, x.isStatus = false

theorem State.leave_statusLeft {s : State} (h : s.txq.Sound) {e : Entry} (mem : e ∈ s.txq.entries)
    (status : e.isStatus = true) : StatusLeft s (s.leave e) := by
  obtain ⟨q, content⟩ := e.isStatus_iff.mp status
  have stays : ∀ x ∈ s.txq.entries, x.isStatus = false → x ∈ (s.txq.remove e.order).entries := by
    intro x mx frame
    refine List.mem_filter.mpr ⟨mx, decide_eq_true fun same => ?_⟩
    rw [h.eq_of_order mx mem same, status] at frame
    cases frame
  rw [State.leave_of_status content]
  cases owed : s.txq.owed with
  | none =>
    exact ⟨owed, rfl, stays, by simp [owed], fun _ => h.admits_remove (c := .status q) mem (fun _ => status) nofun⟩
  | some r =>
    let left : State := { s with txq := { s.txq.remove e.order with owed := none } }
    have joined := left.join_txq (.status r)
    refine ⟨by rw [joined], by rw [joined]; rfl, fun x mx frame => ?_, fun r' same => ?_, by simp [owed]⟩
    · rw [joined]
      exact (mem_insertEntry ..).mpr (.inr (stays x mx frame))
    · cases owed.symm.trans same
      rw [joined]
      exact ⟨_, (mem_insertEntry ..).mpr (.inl rfl), rfl, rfl, rfl⟩

/-- The end of a clean send of a STATUS starts the period, lets the entry leave and ends the access. -/
theorem State.sendOver_of_status {s : State} {e : Entry} (sending : s.lnk.access = .sending)
    (clean : s.lnk.collide = false) (selected : s.selectedEntry = some e) (status : e.isStatus = true) :
    s.sendOver = (State.leave (State.startPeriod { s with
      lnk := { s.lnk with sendTimer := none, outFrame := [], pacing := s.lnk.pacing - 1 } }) e).endAccess := by
  rw [State.sendOver, if_pos sending, State.endSend, selected]
  dsimp only
  rw [if_neg (by simp [clean]), State.cleanEnd, if_pos status]

theorem State.startPeriod_txq (s : State) : ∃ x, s.startPeriod.txq = { s.txq with period := x } := by
  unfold State.startPeriod
  split
  · exact ⟨_, rfl⟩
  · exact ⟨s.txq.period, rfl⟩

theorem statusSendEnds : StatusSendEnds := by
  intro s e ⟨up, _⟩ sound sending clean selected status
  obtain ⟨mem, -⟩ := State.selectedEntry_mem selected
  let started : State := State.startPeriod { s with
    lnk := { s.lnk with sendTimer := none, outFrame := [], pacing := s.lnk.pacing - 1 } }
  have run : s.sendOver = (started.leave e).endAccess := State.sendOver_of_status sending clean selected status
  obtain ⟨x, stands⟩ : ∃ x, started.txq = { s.txq with period := x } := State.startPeriod_txq _
  have law : started.txq.Sound := stands ▸ ((queueSound_iff s).mp sound).of_entries
  obtain ⟨owed, period, frames, joins, alone⟩ := State.leave_statusLeft law (stands ▸ mem) status
  obtain ⟨rng, drawn⟩ : started.lnk.rng = (periodStarted s).lnk.rng ∧
      started.txq.period = (periodStarted s).txq.period := by
    change (State.startPeriod _).lnk.rng = _ ∧ (State.startPeriod _).txq.period = _
    rw [State.startPeriod_eq]
    exact periodStarted_congr rfl rfl rfl rfl rfl
  have queue : (linkEvent State.sendOver s).txq = (started.leave e).txq := by
    rw [linkEvent, run, State.listenReview_txq, State.endAccess_txq]
  have register : (linkEvent State.sendOver s).lnk.rng = started.lnk.rng := by
    obtain ⟨_, _, _, heard⟩ := s.sendOver.listenReview_frame
    rw [linkEvent, heard]
    change s.sendOver.lnk.rng = _
    rw [run, State.endAccess_rng, (started.leave_onlyQueue e).rng]
  rw [stands] at frames joins alone
  refine ⟨_, whenUp_of_up up, ?_⟩
  rw [queue, register]
  refine ⟨owed, frames, joins, alone, rng, period.trans drawn, ?_⟩
  obtain ⟨_, _, _, rest⟩ := s.sendOver_onlyLink.onlyRadio.trans (State.listenReview_onlyRadio _)
  rw [linkEvent, rest]
  simp only [and_self]

/-! ### The expiry of the period (R126, R132) -/

theorem periodOver : PeriodOver := by
  intro s ⟨up, _⟩ sound silent runs cls room
  let stopped : State := { s with txq := { s.txq with period := none } }
  let asked := stopped.statusDemand .period
  have law : stopped.txq.Sound := ((queueSound_iff s).mp sound).of_entries
  obtain ⟨frames, reason⟩ := State.statusDemand_demanded law room .period
  have queue : OnlyQueue stopped asked := stopped.statusDemand_onlyQueue .period
  have rng : asked.lnk.rng = s.lnk.rng := queue.rng
  obtain ⟨-, -, -, -, bcu, -, -, -, stl, -, clock, -⟩ := queue.stands
  have started : asked.startPeriod = { asked with
      lnk := { asked.lnk with rng := rngNext s.lnk.rng },
      txq := { asked.txq with period := (periodStarted s).txq.period } } := by
    rw [State.startPeriod_eq, periodStarted_of_class cls, periodStarted_of_class (bcu ▸ cls), rng,
      newPeriod_congr (s := s) rng bcu stl clock]
  refine ⟨_, next_of_listening up ((ifRuns_of_some runs).trans started) (.inr ?_), rfl, rfl, ?_, frames, ?_⟩
  · exact queue.reception.trans silent
  · exact reason.imp (fun ⟨x, mem, q, content⟩ => ⟨x, mem, _, content, rfl⟩) fun ⟨q, owed⟩ => ⟨_, owed, rfl⟩
  · change { asked with txq := s.txq, lnk := { asked.lnk with
        rng := s.lnk.rng, access := s.lnk.access, selected := s.lnk.selected, slot := s.lnk.slot } } = s
    obtain ⟨_, _, _, _, ask⟩ := queue
    rw [ask]

/-- Settles O49: a STATUS that leaves takes the only one of the list with it, so that the status owed is the one after;
the period is drawn from the register after its advance. -/
theorem statusFrames : Obligations.StatusFrames := ⟨statusSendEnds, periodOver⟩

end Sys2Proof.Machine
end

section
/-! The peer table and the settings beside every operation of the part but the arrival of a frame, the ageing pass and a
start (R137). -/

namespace Sys2Proof.Machine

/-! ### The table and what bounds it -/

/-- What the law of the peer table reads: the table, and the settings that name the own id. -/
structure Roster where
  pvt : List PeerEntry
  stl : Stl

/-- The roster of a state. -/
def State.roster (s : State) : Roster := ⟨s.pvt, s.stl⟩

theorem roster_of_outside {s t : State} (h : t.outside = s.outside) : t.roster = s.roster :=
  congrArg (fun o => Roster.mk o.pvt o.stl) h

theorem OnlyRadio.roster {s t : State} (h : OnlyRadio s t) : t.roster = s.roster := by
  obtain ⟨_, _, _, rfl⟩ := h
  rfl

theorem OnlyLink.roster {s t : State} (h : OnlyLink s t) : t.roster = s.roster := h.onlyRadio.roster

theorem OnlyQueue.roster {s t : State} (h : OnlyQueue s t) : t.roster = s.roster := h.onlyLink.roster

/-! ### Events -/

theorem State.abortTest_roster (s : State) : s.abortTest.roster = s.roster := s.abortTest_onlyQueue.roster

theorem State.settle_roster (s : State) (b : RslInputs) (x : Bool) : (s.settle b x).roster = s.roster := by
  obtain ⟨-, -, pvt, -, stl, -⟩ := s.settle_stands b x
  rw [State.roster, pvt, stl]
  rfl

theorem event_roster {f : State → State} {s : State} (h : (f s).roster = s.roster) : (event f s).roster = s.roster := by
  rw [event, State.settle_roster, h]

theorem linkEvent_roster {f : State → State} {s : State} (h : OnlyRadio s (f s)) :
    (linkEvent f s).roster = s.roster := (h.trans (State.listenReview_onlyRadio _)).roster

section
variable {s : State}

theorem ifRuns_roster {t : State → Option Timer} {f : State → State} (h : (f s).roster = s.roster) :
    (ifRuns t f s).roster = s.roster := by
  unfold ifRuns
  split
  · exact h
  · rfl

theorem whenDue_roster {d : State → Bool} {f : State → State} (h : (f s).roster = s.roster) :
    (whenDue d f s).roster = s.roster := by
  unfold whenDue
  split
  · exact h
  · rfl

theorem eitherOrder_roster {f g : State → State} (hf : ∀ u, (f u).roster = u.roster)
    (hg : ∀ u, (g u).roster = u.roster) : (eitherOrder f g s).roster = s.roster :=
  eitherOrder_keeps (·.roster = s.roster) f g s rfl (fun u k => (hf u).trans k) (fun u k => (hg u).trans k)

theorem withAbort_roster {f : State → State} (h : ∀ u, (f u).roster = u.roster) :
    (withAbort f s).roster = s.roster := by
  unfold withAbort
  split
  · exact eitherOrder_roster State.abortTest_roster h
  · exact h s

theorem onArrival_roster {α : Type} {pick : Report → Option α} {f : α → State → State}
    (h : ∀ a u, (f a u).roster = u.roster) : (onArrival pick f s).roster = s.roster := by
  unfold onArrival
  split
  · exact h _ _
  · rfl

/-- A frame taken by the filter (R108). -/
theorem State.filtered_roster (s : State) (a : Uptime) (k : FrameClass) :
    (s.dropReception.filterEffect a k).roster = s.roster := by
  obtain ⟨_, _, taken⟩ := s.heard_frame a k
  rw [taken]
  rfl

theorem onFrame_roster {α : Type} {pick : Frame → Option α} {f : α → Uptime → State → State}
    (h : ∀ a u t, (f a u t).roster = t.roster) : (onFrame pick f s).roster = s.roster := by
  unfold onFrame
  split
  · split
    · split
      · exact (h _ _ _).trans (s.filtered_roster _ _)
      · rfl
    · rfl
  · rfl

end

section
variable (s : State)

/-! ### The mechanism (R63 to R70, R74, R77) -/

theorem State.pulseEnd_roster : s.pulseEnd.roster = s.roster := by
  unfold State.pulseEnd
  split <;> rfl

theorem State.storeWaitEnd_roster : s.storeWaitEnd.roster = s.roster := by
  unfold State.storeWaitEnd
  split <;> rfl

theorem State.openSeen_roster : s.openSeen.roster = s.roster := by
  unfold State.openSeen
  split <;> rfl

theorem State.closedSeen_roster : s.closedSeen.roster = s.roster := by
  unfold State.closedSeen
  split <;> rfl

theorem State.closePulseEnd_roster : s.closePulseEnd.roster = s.roster := by
  unfold State.closePulseEnd
  split <;> rfl

theorem State.contacts_roster (o c : Bool) : (s.contacts o c).roster = s.roster := by
  have moved (u : State) (p : Position) : (u.moved p).roster = u.roster := by
    unfold State.moved
    dsimp only
    split <;> rfl
  unfold State.contacts
  dsimp only
  split
  · rfl
  · split
    · rfl
    · split
      · exact moved _ _
      · split <;> rfl
      · split <;> rfl

theorem State.firstPosition_roster (p : Position) : (s.firstPosition p).roster = s.roster := by
  have started (u : State) : (u.startState p).outside = u.outside := by
    cases p with
    | closed => exact u.enter_outside _ _
    | opened => exact u.enter_outside _ _
    | unknown => exact u.enterStuck_outside _
  unfold State.firstPosition
  split
  · exact roster_of_outside (started _)
  · rfl

theorem State.firstContacts_roster (o c : Bool) : (s.firstContacts o c).roster = s.roster := by
  unfold State.firstContacts
  split
  · exact State.firstPosition_roster _ _
  · rfl

theorem State.readyReading_roster (id : StoreId) (active : Bool) :
    (s.readyReading id active).roster = s.roster := by
  unfold State.readyReading
  split
  · rfl
  · dsimp only
    split
    · exact (roster_of_outside (State.storeReady_outside _)).trans rfl
    · rfl

/-! ### The measurement chain and the second (R3, R9, R15, R19, R81 to R92) -/

theorem State.halfCycleEvent_roster : s.halfCycleEvent.roster = s.roster := by
  have half := s.halfCycleEvent_halfCycled
  rw [State.roster, half.pvt, half.stl]
  rfl

theorem State.scheduledAttempt_roster : s.scheduledAttempt.roster = s.roster := by
  unfold State.scheduledAttempt State.beginTest State.meanOr
  split
  · split <;> rfl
  · rfl

theorem State.dayEvent_roster : s.dayEvent.roster = s.roster := by
  refine event_roster ?_
  unfold State.rollDay
  dsimp only
  split
  · split <;> exact State.scheduledAttempt_roster _
  · rfl

theorem State.secondEvent_roster : s.secondEvent.roster = s.roster := by
  have second := State.oneSecondEvent_taken (whenDue State.dayDue State.dayEvent s)
  rw [State.secondEvent, State.roster, second.pvt, second.stl]
  exact whenDue_roster s.dayEvent_roster

theorem State.sampleEvent_roster : s.sampleEvent.roster = s.roster :=
  (whenDue_roster (State.secondEvent_roster _)).trans (whenDue_roster s.halfCycleEvent_roster)

theorem State.bitsEvent_roster (b : Byte) : (s.bitsEvent b).roster = s.roster := whenDue_roster s.sampleEvent_roster

/-! ### The test and the supply (R80, R92 to R98) -/

theorem State.testRetryOver_roster : s.testRetryOver.roster = s.roster := by
  unfold State.testRetryOver
  dsimp only
  split
  · exact State.scheduledAttempt_roster _
  · rfl

theorem State.loadOver_roster : s.loadOver.roster = s.roster := by
  have drawn (m : Option Mean) : (s.meanOr m).2.roster = s.roster := by cases m <;> rfl
  have applied (u : State) (r : TestResult) : (u.applyResult r).roster = u.roster :=
    (State.askBattery_onlyQueue _).roster.trans (State.changeHealth_onlyQueue _ _).roster
  unfold State.loadOver
  split
  · exact (applied _ _).trans (drawn _)
  · rfl

theorem State.supplyReading_roster (active : Bool) : (s.supplyReading active).roster = s.roster := by
  have changed (u : State) : (u.supplyChanged active).roster = u.roster := by
    unfold State.supplyChanged
    dsimp only
    split
    · split <;> rfl
    · split
      · exact State.abortTest_roster _
      · rfl
  unfold State.supplyReading
  dsimp only
  split
  · rfl
  · exact changed _

theorem State.testAsked_roster : s.testAsked.1.roster = s.roster := by
  unfold State.testAsked State.beginTest State.meanOr
  split
  · rfl
  · split <;> rfl

/-! ### The tags (R154, R158 to R162) -/

theorem State.changeTags_roster (on : Bool) {answer : State → State} (h : ∀ u, (answer u).roster = u.roster)
    (f : Retained → Retained) : (s.changeTags on answer f).roster = s.roster := by
  have asked (u : State) : (answer u).askTagNotice.roster = u.roster :=
    (State.askTagNotice_onlyQueue _).roster.trans (h u)
  unfold State.changeTags
  dsimp only
  split
  · exact eitherOrder_roster asked fun u => roster_of_outside (u.lockDead_outside _)
  · exact asked _

theorem State.hotlineReading_roster (on : Bool) : (s.hotlineReading on).roster = s.roster := by
  have changed : (s.hotlineChanged on).roster = s.roster := by
    unfold State.hotlineChanged
    split <;> exact State.changeTags_roster _ _ (fun _ => rfl) _
  unfold State.hotlineReading
  split
  · rfl
  · split
    · rfl
    · exact changed

theorem State.answerTags_roster (r : CrewRequest) (o : RequestOutcome) (f : Option (Retained → Retained)) :
    (s.answerTags r o f).roster = s.roster := by
  have answered (u : State) : (u.askResult r.crew r.kind o).roster = u.roster := (u.askResult_onlyQueue _ _ _).roster
  cases f with
  | some f => exact s.changeTags_roster _ answered f
  | none => exact answered s

theorem State.placeRequest_roster (r : CrewRequest) : (s.placeRequest r).roster = s.roster := by
  unfold State.placeRequest
  split <;> exact s.answerTags_roster _ _ _

theorem State.removeRequest_roster (r : CrewRequest) : (s.removeRequest r).roster = s.roster := by
  unfold State.removeRequest
  split <;> exact s.answerTags_roster _ _ _

theorem State.clearRequest_roster (r : CrewRequest) : (s.clearRequest r).roster = s.roster := by
  unfold State.clearRequest
  split <;> exact s.answerTags_roster _ _ _

/-! ### Requests and frames that reach no entry (R108, R133, R175) -/

theorem State.statusNow_roster (r : CrewRequest) : (s.statusNow r).roster = s.roster := by
  have rearmed (u : State) : u.rearmLive.outside = u.outside := by
    unfold State.rearmLive
    split <;> simp
  exact (roster_of_outside (rearmed _)).trans
    ((s.askResult_onlyQueue _ _ _).trans (State.statusDemand_onlyQueue _ _)).roster

theorem State.rejectFrame_roster : s.rejectFrame.roster = s.roster := by
  unfold State.rejectFrame
  split
  · split
    · rfl
    · exact s.filtered_roster _ _
  · rfl

end

end Sys2Proof.Machine
end

section
/-! What the peer table answers: the entry that a newcomer evicts, the downstream pickup, the feeding peer and the
tagging peers (R142 to R147, R163). -/

namespace Sys2Proof.Machine

open Sys2Proof.Safety Sys2Proof.Claims

/-! ### The best of a list, picked one after another -/

section
variable {α : Type} {le : α → α → Prop} {pick : α → α → α}

/-- Picks of one of two, that no one of the two is above, end in one of the list that none of it is above. -/
theorem foldl_picks (trans : ∀ {a b c}, le a b → le b c → le a c)
    (picks : ∀ a b, (pick a b = a ∨ pick a b = b) ∧ le a (pick a b) ∧ le b (pick a b)) (refl : ∀ a, le a a)
    (l : List α) (a : α) : l.foldl pick a ∈ a :: l ∧ ∀ x ∈ a :: l, le x (l.foldl pick a) := by
  induction l generalizing a with
  | nil => simp [refl]
  | cons b l ih =>
    obtain ⟨mem, above⟩ := ih (pick a b)
    obtain ⟨one, first, second⟩ := picks a b
    obtain ⟨top, rest⟩ := List.forall_mem_cons.mp above
    refine ⟨?_, List.forall_mem_cons.mpr ⟨trans first top, List.forall_mem_cons.mpr ⟨trans second top, rest⟩⟩⟩
    obtain chosen | later := List.mem_cons.mp mem
    · rw [List.foldl_cons, chosen]
      obtain e | e := one <;> simp [e]
    · exact List.mem_cons_of_mem _ (List.mem_cons_of_mem _ later)

end

/-! ### Age and standing (R142) -/

theorem PeerEntry.fresh_iff (e : PeerEntry) (now : Uptime) (limit : Nat) :
    e.fresh now limit = true ↔ ageOf now e.lastHeard ≤ 1000 * limit := decide_eq_true_iff

/-! ### The entry evicted (R143, R144) -/

/-- `a` is evicted no sooner than `b`: heard no longer ago, and among equal ages with no higher id (R144). -/
def NoOlder (now : Uptime) (a b : PeerEntry) : Prop :=
  ageOf now a.lastHeard < ageOf now b.lastHeard ∨ (ageOf now a.lastHeard = ageOf now b.lastHeard ∧ a.id ≤ b.id)

theorem olderEntry_picks (now : Uptime) (a b : PeerEntry) :
    (olderEntry now a b = a ∨ olderEntry now a b = b) ∧ NoOlder now a (olderEntry now a b) ∧
      NoOlder now b (olderEntry now a b) := by
  unfold olderEntry NoOlder
  split
  · exact ⟨.inr rfl, by omega, by omega⟩
  · exact ⟨.inl rfl, by omega, by omega⟩

/-- The entry of a row that is evicted: one of the row, and none of it older (R144). -/
theorem oldestEntry_some {now : Uptime} {l : List PeerEntry} {v : PeerEntry} (h : oldestEntry now l = some v) :
    v ∈ l ∧ ∀ e ∈ l, NoOlder now e v := by
  cases l with
  | nil => cases h
  | cons a l =>
    cases h
    exact foldl_picks (fun h k => by unfold NoOlder at *; omega) (olderEntry_picks now)
      (fun _ => .inr ⟨rfl, le_rfl⟩) l a

theorem oldestEntry_none {now : Uptime} {l : List PeerEntry} : oldestEntry now l = none ↔ l = [] := by
  cases l <;> simp [oldestEntry]

theorem Settings.touches_iff (c : Settings) (g : Nat) : c.touches g = true ↔ g ≠ 0 ∧ (g = c.sUp ∨ g = c.sDn) := by
  simp [Settings.touches]

/-- The row of R144 that an entry is found by, 4 for an entry that no row finds. -/
def State.evictionRank (s : State) (e : PeerEntry) : Nat :=
  if ageOf s.now e.lastHeard ≤ 1000 * s.stl.image.silenceLimit then
    if s.stl.image.adjacent e.segments then 4 else 3
  else if s.stl.image.adjacent e.segments then 2 else 1

/-- The entries that a row of R144 finds. -/
def State.evictionRow (s : State) (n : Nat) : List PeerEntry := s.pvt.filter fun e => s.evictionRank e = n

theorem State.mem_evictionRow {s : State} {n : Nat} {e : PeerEntry} :
    e ∈ s.evictionRow n ↔ e ∈ s.pvt ∧ s.evictionRank e = n := by
  simp [State.evictionRow]

/-- The entry evicted is the oldest of the first row that finds one (R144). -/
theorem State.evictedPeer_eq (s : State) (adj : Bool) :
    s.evictedPeer adj = (oldestEntry s.now (s.evictionRow 1) <|> oldestEntry s.now (s.evictionRow 2) <|>
      (if adj then oldestEntry s.now (s.evictionRow 3) else none)) := by
  have rows (e : PeerEntry) :
      (!e.fresh s.now s.stl.image.silenceLimit && !s.stl.image.adjacent e.segments) = decide (s.evictionRank e = 1) ∧
      (!e.fresh s.now s.stl.image.silenceLimit && s.stl.image.adjacent e.segments) = decide (s.evictionRank e = 2) ∧
      (e.fresh s.now s.stl.image.silenceLimit && !s.stl.image.adjacent e.segments) = decide (s.evictionRank e = 3) := by
    unfold State.evictionRank PeerEntry.fresh
    split_ifs <;> simp [*]
  simp only [State.evictedPeer, rows]
  rfl

theorem State.evictionRank_cases (s : State) (e : PeerEntry) :
    s.evictionRank e = 1 ∨ s.evictionRank e = 2 ∨ s.evictionRank e = 3 ∨ s.evictionRank e = 4 := by
  unfold State.evictionRank
  split_ifs <;> simp

theorem State.evictedPeer_none (s : State) (adj : Bool) :
    s.evictedPeer adj = none ↔ ∀ e ∈ s.pvt, s.evictionRank e = 4 ∨ (s.evictionRank e = 3 ∧ adj = false) := by
  have row (n : Nat) : oldestEntry s.now (s.evictionRow n) = none ↔ ∀ e ∈ s.pvt, s.evictionRank e ≠ n := by
    simp [oldestEntry_none, State.evictionRow]
  have third : (if adj then oldestEntry s.now (s.evictionRow 3) else none) = none ↔
      ∀ e ∈ s.pvt, s.evictionRank e = 3 → adj = false := by
    cases adj <;> simp [row]
  rw [State.evictedPeer_eq, Option.orElse_eq_none, Option.orElse_eq_none, row, row, third]
  refine ⟨fun ⟨one, two, three⟩ e mem => ?_, fun ranks => ⟨fun e mem => ?_, fun e mem => ?_, fun e mem => ?_⟩⟩
  · have := s.evictionRank_cases e
    have := one e mem
    have := two e mem
    by_cases rank : s.evictionRank e = 3
    · exact .inr ⟨rank, three e mem rank⟩
    · omega
  · have := ranks e mem
    omega
  · have := ranks e mem
    omega
  · intro rank
    obtain four | ⟨-, far⟩ := ranks e mem
    · omega
    · exact far

/-- The entry evicted: of the lowest rank that the table holds, and of that rank none is older (R144). -/
theorem State.evictedPeer_some {s : State} {adj : Bool} {v : PeerEntry} (h : s.evictedPeer adj = some v) :
    v ∈ s.pvt ∧ s.evictionRank v ≤ 3 ∧ (s.evictionRank v = 3 → adj = true) ∧
      ∀ e ∈ s.pvt, s.evictionRank v < s.evictionRank e ∨
        (s.evictionRank v = s.evictionRank e ∧ NoOlder s.now e v) := by
  have found {n : Nat} (h : oldestEntry s.now (s.evictionRow n) = some v) (most : n ≤ 3) (near : n = 3 → adj = true)
      (least : ∀ e ∈ s.pvt, n ≤ s.evictionRank e) : v ∈ s.pvt ∧ s.evictionRank v ≤ 3 ∧
        (s.evictionRank v = 3 → adj = true) ∧ ∀ e ∈ s.pvt, s.evictionRank v < s.evictionRank e ∨
          (s.evictionRank v = s.evictionRank e ∧ NoOlder s.now e v) := by
    obtain ⟨mem, oldest⟩ := oldestEntry_some h
    obtain ⟨listed, rank⟩ := State.mem_evictionRow.mp mem
    subst rank
    refine ⟨listed, most, near, fun e mem => ?_⟩
    obtain less | same := (least e mem).lt_or_eq
    · exact .inl less
    · exact .inr ⟨same, oldest e (State.mem_evictionRow.mpr ⟨mem, same.symm⟩)⟩
  have empty {n : Nat} (none : oldestEntry s.now (s.evictionRow n) = none) (e : PeerEntry) (mem : e ∈ s.pvt) :
      s.evictionRank e ≠ n := fun rank =>
    List.not_mem_nil (oldestEntry_none.mp none ▸ State.mem_evictionRow.mpr ⟨mem, rank⟩)
  rw [State.evictedPeer_eq, Option.orElse_eq_some, Option.orElse_eq_some] at h
  obtain one | ⟨none1, two | ⟨none2, three⟩⟩ := h
  · refine found one (by omega) (by omega) fun e mem => ?_
    have := s.evictionRank_cases e
    omega
  · refine found two (by omega) (by omega) fun e mem => ?_
    have := s.evictionRank_cases e
    have := empty none1 e mem
    omega
  · cases adj with
    | false => cases three
    | true =>
      refine found three le_rfl (fun _ => rfl) fun e mem => ?_
      have := s.evictionRank_cases e
      have := empty none1 e mem
      have := empty none2 e mem
      omega

theorem admissionRule : AdmissionRule := by
  intro s adj age near rank
  refine ⟨fun g => ?_, rfl, s.evictedPeer_none adj, fun v => State.evictedPeer_some⟩
  simp only [Settings.adjacent, Bool.or_eq_true, Settings.touches_iff]

/-! ### The downstream pickup (R145) -/

/-- The first of two to be answered: the smaller age, and among equal ages the lower station id (R145, R146). -/
def NoLater (x y : Nat × Nat) : Prop := y.1 < x.1 ∨ (y.1 = x.1 ∧ y.2 ≤ x.2)

theorem NoLater.refl (x : Nat × Nat) : NoLater x x := .inr ⟨rfl, le_rfl⟩

theorem NoLater.trans {x y z : Nat × Nat} (h : NoLater x y) (k : NoLater y z) : NoLater x z := by
  unfold NoLater at *
  omega

/-- The age and the station id by which downstream pickups are compared (R145). -/
def pickupKey (now : Uptime) (p : Nat × Uptime) : Nat × Nat := (ageOf now p.2, p.1)

theorem laterPickup_picks (now : Uptime) (a b : Nat × Uptime) :
    (laterPickup now a b = a ∨ laterPickup now a b = b) ∧
      NoLater (pickupKey now a) (pickupKey now (laterPickup now a b)) ∧
      NoLater (pickupKey now b) (pickupKey now (laterPickup now a b)) := by
  unfold laterPickup NoLater pickupKey
  split
  · exact ⟨.inr rfl, by omega, by omega⟩
  · exact ⟨.inl rfl, by omega, by omega⟩

/-- An entry of a downstream peer whose pickup at `u` is no more than 250 ms old (R145). -/
def State.PickedUpDownstream (s : State) (e : PeerEntry) (u : Uptime) : Prop :=
  (∃ x, e.segments = some x ∧ x.up = s.stl.image.sDn) ∧ e.lastPickup = some u ∧ ageOf s.now u ≤ 250

theorem State.mem_downstreamPickups {s : State} {p : Nat × Uptime} :
    p ∈ s.downstreamPickups ↔ ∃ e ∈ s.pvt, e.id = p.1 ∧ s.PickedUpDownstream e p.2 := by
  obtain ⟨id, u⟩ := p
  rw [State.downstreamPickups, List.mem_filterMap]
  refine exists_congr fun e => and_congr_right fun _ => ?_
  unfold State.PickedUpDownstream
  rcases e.segments with _ | g
  · simp
  rcases e.lastPickup with _ | w
  · simp
  simp only [Option.ite_none_right_eq_some, Option.some.injEq, Prod.mk.injEq, exists_eq_left']
  constructor
  · rintro ⟨⟨up, age⟩, same, rfl⟩
    exact ⟨same, up, rfl, age⟩
  · rintro ⟨same, up, rfl, age⟩
    exact ⟨⟨up, age⟩, same, rfl⟩

theorem State.downstreamPickup_none (s : State) :
    s.downstreamPickup = none ↔ ∀ e ∈ s.pvt, ∀ u, ¬s.PickedUpDownstream e u := by
  have empty : s.downstreamPickup = none ↔ s.downstreamPickups = [] := by
    unfold State.downstreamPickup
    split <;> simp [*]
  rw [empty, List.eq_nil_iff_forall_not_mem]
  refine ⟨fun h e mem u down => h (e.id, u) (State.mem_downstreamPickups.mpr ⟨e, mem, rfl, down⟩), fun h p mem => ?_⟩
  obtain ⟨e, listed, -, down⟩ := State.mem_downstreamPickups.mp mem
  exact h e listed _ down

theorem State.downstreamPickup_some {s : State} {id : Nat} (h : s.downstreamPickup = some id) :
    ∃ e ∈ s.pvt, e.id = id ∧ ∃ u, s.PickedUpDownstream e u ∧ ∀ x ∈ s.pvt, ∀ w, s.PickedUpDownstream x w →
      ageOf s.now u < ageOf s.now w ∨ (ageOf s.now u = ageOf s.now w ∧ e.id ≤ x.id) := by
  unfold State.downstreamPickup at h
  split at h
  · cases h
  · next p ps list =>
    cases h
    obtain ⟨mem, first⟩ := foldl_picks (le := fun a b => NoLater (pickupKey s.now a) (pickupKey s.now b))
      NoLater.trans (laterPickup_picks s.now) (fun _ => .refl _) ps p
    rw [← list] at mem first
    obtain ⟨e, listed, same, down⟩ := State.mem_downstreamPickups.mp mem
    refine ⟨e, listed, same, _, down, fun x mem w other => ?_⟩
    rw [same]
    exact first (x.id, w) (State.mem_downstreamPickups.mpr ⟨x, mem, rfl, other⟩)

/-! ### The feeding peer (R146) -/

/-- The age and the station id by which candidates are compared (R146). -/
def heardKey (now : Uptime) (e : PeerEntry) : Nat × Nat := (ageOf now e.lastHeard, e.id)

theorem laterHeard_picks (now : Uptime) (a b : PeerEntry) :
    (laterHeard now a b = a ∨ laterHeard now a b = b) ∧
      NoLater (heardKey now a) (heardKey now (laterHeard now a b)) ∧
      NoLater (heardKey now b) (heardKey now (laterHeard now a b)) := by
  unfold laterHeard NoLater heardKey
  split
  · exact ⟨.inr rfl, by omega, by omega⟩
  · exact ⟨.inl rfl, by omega, by omega⟩

theorem latestHeard_some {now : Uptime} {l : List PeerEntry} {v : PeerEntry} (h : latestHeard now l = some v) :
    v ∈ l ∧ ∀ e ∈ l, NoLater (heardKey now e) (heardKey now v) := by
  cases l with
  | nil => cases h
  | cons a l =>
    cases h
    exact foldl_picks (le := fun a b => NoLater (heardKey now a) (heardKey now b)) NoLater.trans
      (laterHeard_picks now) (fun _ => .refl _) l a

theorem latestHeard_none {now : Uptime} {l : List PeerEntry} : latestHeard now l = none ↔ l = [] := by
  cases l <;> simp [latestHeard]

theorem State.mem_candidates {s : State} {g : Nat} {e : PeerEntry} : e ∈ s.candidates g ↔
    e ∈ s.pvt ∧ (∃ x, e.segments = some x ∧ x.dn = g) ∧ e.role ≠ some .tie ∧ s.stl.image.stationId ≠ some e.id := by
  simp [State.candidates, Option.any_eq_true, and_assoc]

/-- The answer on a feeding peer: of the FRESH candidates the one heard last, else of all of them (R146). -/
theorem State.feedingPeer_cases (s : State) (g : Nat) :
    let fresh := (s.candidates g).filter (·.fresh s.now s.stl.image.silenceLimit)
    (∃ e, s.feedingPeer g = .fresh e ∧ latestHeard s.now fresh = some e) ∨
      (∃ e, s.feedingPeer g = .silent e.id ∧ latestHeard s.now fresh = none ∧
        latestHeard s.now (s.candidates g) = some e) ∨
      (s.feedingPeer g = .absent ∧ latestHeard s.now (s.candidates g) = none) := by
  intro fresh
  unfold State.feedingPeer
  dsimp only
  split
  · next e heard => exact .inl ⟨e, rfl, heard⟩
  · next none =>
    split
    · next e heard => exact .inr (.inl ⟨e, rfl, none, heard⟩)
    · next none => exact .inr (.inr ⟨rfl, none⟩)

/-! ### The tagging peers (R147) -/

theorem PeerEntry.tagsSegment_iff (e : PeerEntry) (g : Nat) : e.tagsSegment g = true ↔
    ((∃ x, e.segments = some x ∧ (x.up = g ∨ x.dn = g)) ∧
        ∀ y, e.tags = some y → y.records ≠ [] ∨ y.tagUnknown = true) ∨
      ∃ y, e.tags = some y ∧ ∃ x ∈ y.records, x.scope = .segment g := by
  unfold PeerEntry.tagsSegment
  cases e.tags <;> simp [Option.any_eq_true]

theorem State.mem_taggingPeers {s : State} {g id : Nat} : id ∈ s.taggingPeers g ↔
    ∃ e ∈ s.pvt, e.id = id ∧ ageOf s.now e.lastHeard ≤ 1000 * s.stl.image.silenceLimit ∧ e.tagsSegment g = true := by
  simp only [State.taggingPeers, List.mem_map, List.mem_filter, Bool.and_eq_true, PeerEntry.fresh_iff]
  exact exists_congr fun e => by tauto

theorem State.tagAnswer_eq (s : State) (g : Nat) : s.tagAnswer g =
    (let own : Bool := s.tgt.hotlineOn || s.rtm.items.tags ≠ [] || s.rtm.items.tagUnknown
     let peers := if g = 0 then [] else s.taggingPeers g
     if own = false ∧ peers = [] then .clear else .tagged own peers) := by
  have hold : s.tagHold = (s.tgt.hotlineOn || s.rtm.items.tags ≠ [] || s.rtm.items.tagUnknown) := by
    unfold State.tagHold
    cases s.rtm.items.tags <;> rfl
  rw [State.tagAnswer, hold]
  dsimp only
  unfold State.askedTags
  generalize (s.tgt.hotlineOn || decide (s.rtm.items.tags ≠ []) || s.rtm.items.tagUnknown) = own
  generalize (if g = 0 then [] else s.taggingPeers g) = peers
  cases own <;> cases peers <;> rfl

theorem peerAnswers : PeerAnswers := by
  intro s g fresh downstream candidate first
  refine ⟨s.downstreamPickup_none, fun id => State.downstreamPickup_some, ?_, fun id => ?_, s.tagAnswer_eq g⟩
  · have fed {e : PeerEntry} : e ∈ (s.candidates g).filter (·.fresh s.now s.stl.image.silenceLimit) ↔
        (e ∈ s.pvt ∧ candidate e) ∧ fresh e := by
      rw [List.mem_filter, State.mem_candidates, PeerEntry.fresh_iff]
    obtain ⟨e, answer, heard⟩ | ⟨e, answer, none, heard⟩ | ⟨answer, none⟩ := s.feedingPeer_cases g
    · rw [answer]
      obtain ⟨mem, latest⟩ := latestHeard_some heard
      obtain ⟨⟨listed, feeds⟩, young⟩ := fed.mp mem
      exact ⟨listed, feeds, young, fun x mem other young => latest x (fed.mpr ⟨⟨mem, other⟩, young⟩)⟩
    · rw [answer]
      obtain ⟨mem, latest⟩ := latestHeard_some heard
      obtain ⟨listed, feeds⟩ := State.mem_candidates.mp mem
      refine ⟨⟨e, listed, rfl, feeds, fun x mem other => latest x (State.mem_candidates.mpr ⟨mem, other⟩)⟩, ?_⟩
      exact fun x mem other young =>
        List.not_mem_nil (latestHeard_none.mp none ▸ fed.mpr ⟨⟨mem, other⟩, young⟩)
    · rw [answer]
      exact fun x mem other => List.not_mem_nil (latestHeard_none.mp none ▸ State.mem_candidates.mpr ⟨mem, other⟩)
  · rw [State.mem_taggingPeers]
    simp only [PeerEntry.tagsSegment_iff]
    rfl

end Sys2Proof.Machine
end

section
/-! Every step keeps the law of the peer table (R137, R144). -/

namespace Sys2Proof.Machine

open Sys2Proof.Safety Sys2Proof.Claims

/-! ### The sender of an ACCEPTED frame (R108) -/

/-- The station that a frame names as its sender; a crew request names none. -/
def Frame.station : Frame → Option Nat
  | .status id _ => some id
  | .pickup id _ _ => some id
  | .seqEvent id _ => some id
  | .tagNotice id _ => some id
  | .report id => some id
  | .request _ => none

/-- A station id of 1..15 that is not the own id (R108, R137). -/
def State.Names (s : State) (id : Nat) : Prop := 1 ≤ id ∧ id ≤ 15 ∧ s.stl.image.stationId ≠ some id

/-- The sender that a frame is read with is a station, by the low half of the sender byte, and not 0 (R189). -/
theorem station_of_frameOf {kind sender id : Nat} {b : List Byte} {f : Frame} (read : frameOf kind sender b = some f)
    (station : f.station = some id) : sender < 128 ∧ id = sender % 16 ∧ sender % 16 ≠ 0 := by
  have fits : FrameFits kind sender b := by
    by_contra misfit
    rw [frameOf_of_not_fits misfit] at read
    cases read
  obtain ⟨m, same, reads⟩ := frameOf_of_fits fits
  cases read.symm.trans same
  have sent : sender < 128 ∧ id = sender % 16 := by
    cases f with
    | request => cases station
    | report =>
      cases station
      obtain ⟨-, sent⟩ := reads
      exact sent
    | status | pickup | seqEvent | tagNotice =>
      cases station
      obtain ⟨-, low, own, -⟩ := reads
      exact ⟨low, own⟩
  obtain ⟨low, own⟩ := sent
  rw [FrameFits, if_neg (Nat.not_le.mpr low)] at fits
  obtain ⟨named, -⟩ := fits
  exact ⟨low, own, named⟩

/-- The sender of an ACCEPTED frame: checks 6 and 7 of the filter (R108). -/
theorem names_of_accepted {s : State} {r : EndedReception} {f : Frame} {id : Nat}
    (accepted : s.classOf r = .accepted f) (station : f.station = some id) : s.Names id := by
  unfold State.classOf classify at accepted
  dsimp only at accepted
  split_ifs at accepted with _ _ _ _ _ clash
  · split at accepted <;> cases accepted
  · split at accepted
    · cases accepted
    · next m read =>
      cases accepted
      obtain ⟨low, same, named⟩ := station_of_frameOf read station
      refine ⟨by omega, by omega, fun own => clash ?_⟩
      simp [low, own, same]

theorem station_of_asStatus {m : Frame} {p : Nat × StatusInfo} (h : m.asStatus = some p) : m.station = some p.1 := by
  cases m <;> cases h
  rfl

theorem station_of_asPickup {m : Frame} {p : Nat × Segments × Nat} (h : m.asPickup = some p) :
    m.station = some p.1 := by
  cases m <;> cases h
  rfl

theorem station_of_asSeqEvent {m : Frame} {p : Nat × SeqEventInfo} (h : m.asSeqEvent = some p) :
    m.station = some p.1 := by
  cases m <;> cases h
  rfl

theorem station_of_asTagNotice {m : Frame} {p : Nat × PeerTags} (h : m.asTagNotice = some p) :
    m.station = some p.1 := by
  cases m <;> cases h
  rfl

theorem station_of_asReport {m : Frame} {id : Nat} (h : m.asReport = some id) : m.station = some id := by
  cases m <;> cases h
  rfl

/-! ### The law where the table changes -/

theorem peersSound_of_roster {s t : State} (h : t.roster = s.roster) (sound : PeersSound s) : PeersSound t := by
  obtain ⟨pvt, stl⟩ := Roster.mk.inj h
  rw [PeersSound, pvt, stl]
  exact sound

/-- An empty table has the law, whatever the settings (R178). -/
theorem peersSound_of_empty {s : State} (h : s.pvt = []) : PeersSound s := by
  simp [PeersSound, h]

/-- A change of the entries that leaves their ids keeps the law. -/
theorem peersSound_of_map {s : State} {f : PeerEntry → PeerEntry} (ids : ∀ e, (f e).id = e.id)
    (sound : PeersSound s) : PeersSound { s with pvt := s.pvt.map f } := by
  obtain ⟨length, nodup, named⟩ := sound
  have same : (s.pvt.map f).map PeerEntry.id = s.pvt.map PeerEntry.id := by
    rw [List.map_map]
    exact List.map_congr_left fun e _ => ids e
  refine ⟨by rwa [List.length_map], by rwa [same], fun e mem => ?_⟩
  obtain ⟨x, listed, rfl⟩ := List.mem_map.mp mem
  rw [ids]
  exact named x listed

/-- A newcomer that joins a table with room, under an id that no entry bears, keeps the law. -/
theorem peersSound_of_join {s : State} {l : List PeerEntry} {e : PeerEntry} (sound : PeersSound s)
    (sub : l.Sublist s.pvt) (room : l.length < 12) (free : ∀ x ∈ l, x.id ≠ e.id) (named : s.Names e.id) :
    PeersSound { s with pvt := l ++ [e] } := by
  obtain ⟨-, nodup, others⟩ := sound
  refine ⟨by simpa using room, ?_, fun x mem => ?_⟩
  · rw [List.map_append, List.nodup_append']
    refine ⟨nodup.sublist (sub.map _), by simp, ?_⟩
    simpa [List.disjoint_left] using free
  · obtain old | new := List.mem_append.mp mem
    · exact others x (sub.subset old)
    · rw [List.mem_singleton.mp new]
      exact named

/-- A frame of a named station leaves a table of the law: its sender's entry changed, or the newcomer joined, behind
the one evicted where the table was full (R137, R144). -/
theorem State.pvtAfter_sound {s : State} {n : Nat} {a : Uptime} {g : Option Segments} {f : PeerEntry → PeerEntry}
    {l : List PeerEntry} (sound : PeersSound s) (named : s.Names n) (ids : ∀ e, (f e).id = e.id)
    (h : s.pvtAfter n a g f = some l) : PeersSound { s with pvt := l } := by
  have newId : (f (PeerEntry.blank n a)).id = n := ids _
  unfold State.pvtAfter at h
  split at h
  · cases h
    refine peersSound_of_map (fun e => ?_) sound
    split
    · rw [ids]
    · rfl
  · next unknown =>
    have free : ∀ x ∈ s.pvt, x.id ≠ (f (PeerEntry.blank n a)).id := by simpa [newId] using unknown
    split at h
    · next room =>
      cases h
      exact peersSound_of_join sound (.refl _) room free (newId.symm ▸ named)
    · split at h
      · next v evicted =>
        cases h
        obtain ⟨mem, -⟩ := State.evictedPeer_some evicted
        obtain ⟨length, -⟩ := id sound
        have fewer : (s.pvt.filter fun e => e.id ≠ v.id).length < s.pvt.length :=
          List.length_filter_lt_length_iff_exists.mpr ⟨v, mem, by simp⟩
        refine peersSound_of_join sound List.filter_sublist (by omega) (fun x mem => ?_) (newId.symm ▸ named)
        exact free x (List.mem_of_mem_filter mem)
      · cases h

/-! ### What is kept -/

/-- `t` keeps the law of the peer table where `s` has it. -/
def PeersKept (s t : State) : Prop := PeersSound s → PeersSound t

theorem PeersKept.of_roster {s t : State} (h : t.roster = s.roster) : PeersKept s t := peersSound_of_roster h

section
variable {s : State}

theorem event_peers {f : State → State} (h : PeersKept s (f s)) : PeersKept s (event f s) :=
  fun sound => peersSound_of_roster (State.settle_roster _ _ _) (h sound)

/-- The row of a peer's frame hands on an ACCEPTED frame of a named station. -/
theorem onFrame_peers {α : Type} {pick : Frame → Option α} {sender : α → Nat} {f : α → Uptime → State → State}
    (picks : ∀ {m a}, pick m = some a → m.station = some (sender a))
    (taken : ∀ a u t, t.Names (sender a) → PeersKept t (f a u t)) : PeersKept s (onFrame pick f s) := by
  unfold onFrame
  split
  · next r _ _ =>
    split
    · next m accepted =>
      split
      · next a picked =>
        have filtered := s.filtered_roster r.arrival (.accepted m)
        refine fun sound => taken a _ _ ?_ (peersSound_of_roster filtered sound)
        exact names_of_accepted accepted (picks picked)
      · exact id
    · exact id
  · exact id

theorem State.peerFrame_peers {n : Nat} {a : Uptime} {g : Option Segments} {f : PeerEntry → PeerEntry}
    (ids : ∀ e, (f e).id = e.id) (named : s.Names n) : PeersKept s (s.peerFrame n a g f) := by
  unfold State.peerFrame
  split
  · next after =>
    exact fun sound => peersSound_of_roster (roster_of_outside (State.rslCheck_outside _))
      (State.pvtAfter_sound sound named ids after)
  · exact id

/-- The ageing pass leaves the ids (R142). -/
theorem State.second_peers (s : State) : PeersKept s s.second := fun sound =>
  peersSound_of_roster ((State.settle_roster _ _ _).trans (roster_of_outside (State.rslCheck_outside _)))
    (peersSound_of_map (f := PeerEntry.aged s.now) (fun _ => rfl) sound)

/-- The words of the block leave the table until the last one, which leaves it empty (R178, R179). -/
theorem State.takeWord_peers (s : State) (w : Word16) : PeersKept s (s.takeWord w) := by
  have up (b : List Word16) : (s.bringUp b).pvt = [] :=
    congrArg Roster.pvt (State.statusDemand_onlyQueue _ _).roster
  unfold State.takeWord
  split
  · split
    · exact id
    · exact fun _ => peersSound_of_empty (up _)
  · exact id

end

/-! ### The commands -/

section
variable {f : State → State} {s t : State}

theorem whenUp_peers (h : whenUp f s = .next t) (k : PeersKept s (f s)) : PeersKept s t := by
  rw [whenUp_next.mp h]
  split
  · exact k
  · exact id

theorem whenUp_roster (h : whenUp f s = .next t) (k : (f s).roster = s.roster) : PeersKept s t :=
  whenUp_peers h (.of_roster k)

/-- An event whose own block leaves the table. -/
theorem whenUp_event_roster (h : whenUp (event f) s = .next t) (k : (f s).roster = s.roster) : PeersKept s t :=
  whenUp_roster h (event_roster k)

theorem whenUp_event_outside (h : whenUp (event f) s = .next t) (k : (f s).outside = s.outside) : PeersKept s t :=
  whenUp_event_roster h (roster_of_outside k)

theorem whenUp_arrival_roster {α : Type} {pick : Report → Option α} {f : α → State → State}
    (h : whenUp (event (onArrival pick f)) s = .next t) (k : ∀ a u, (f a u).outside = u.outside) : PeersKept s t :=
  whenUp_event_roster h (onArrival_roster fun a u => roster_of_outside (k a u))

theorem whenUp_link_roster (h : whenUp (linkEvent f) s = .next t) (k : OnlyLink s (f s)) : PeersKept s t :=
  whenUp_roster h (linkEvent_roster k.onlyRadio)

end

/-- Every command keeps the law: all but the rows of peers' frames, the second and the start leave the table. -/
theorem exec_peers {i : Instr} {s t : State} (h : exec i s = .next t) : PeersKept s t := by
  cases i with
  | restartInput kept | supplyReturn kept => cases h; exact fun _ => peersSound_of_empty rfl
  | settingsWordRead w => cases h; exact s.takeWord_peers w
  | settingsWordTimeout => cases h; exact s.takeWord_peers _
  | timeBaseSecond => exact whenUp_peers h s.second_peers
  | receiveStatus =>
    exact whenUp_peers h (event_peers (onFrame_peers station_of_asStatus fun _ _ _ =>
      State.peerFrame_peers fun _ => rfl))
  | receivePickup =>
    exact whenUp_peers h (event_peers (onFrame_peers station_of_asPickup fun _ _ _ named sound =>
      peersSound_of_roster (State.startQuiet_onlyLink _ _ _).roster
        (State.peerFrame_peers (fun _ => rfl) named sound)))
  | receiveSeqEvent =>
    exact whenUp_peers h (event_peers (onFrame_peers station_of_asSeqEvent fun _ _ _ =>
      State.peerFrame_peers fun _ => rfl))
  | receiveTagNotice =>
    exact whenUp_peers h (event_peers (onFrame_peers station_of_asTagNotice fun _ _ _ =>
      State.peerFrame_peers fun _ => rfl))
  | receivePeerReport =>
    exact whenUp_peers h (event_peers (onFrame_peers (sender := id) station_of_asReport fun _ _ _ =>
      State.peerFrame_peers fun _ => rfl))
  | frameRejected => exact whenUp_event_roster h s.rejectFrame_roster
  | modulatorBit b => exact whenUp_roster (f := (·.bitsEvent b)) h (s.bitsEvent_roster b)
  | decimatedSample => exact whenUp_roster h (whenDue_roster s.sampleEvent_roster)
  | halfCycleUpdate => exact whenUp_roster h (whenDue_roster s.halfCycleEvent_roster)
  | oneSecondUpdate => exact whenUp_roster h (whenDue_roster s.secondEvent_roster)
  | dayRollover => exact whenUp_roster h (whenDue_roster s.dayEvent_roster)
  | tripRequest => exact whenUp_arrival_roster h fun r u => u.takeTripRequest_outside r
  | sequenceStep => exact whenUp_arrival_roster h fun _ u => u.takeStep_outside
  | openConfirmation => exact whenUp_arrival_roster h fun ms u => u.takeOpen_outside ms
  | tripFail => exact whenUp_arrival_roster h fun _ u => u.takeTripFail_outside
  | closeConfirmation => exact whenUp_arrival_roster h fun _ u => u.takeClosed_outside
  | closeFail => exact whenUp_arrival_roster h fun _ u => u.takeCloseFail_outside
  | unsolicitedClose => exact whenUp_arrival_roster h fun _ u => u.externalClose_outside
  | unsolicitedOpen =>
    exact whenUp_event_roster h (withAbort_roster fun _ => onArrival_roster fun d u =>
      roster_of_outside (u.takeUnsolicitedOpen_outside d))
  | positionFault =>
    exact whenUp_event_roster h (withAbort_roster fun _ => onArrival_roster fun _ u =>
      roster_of_outside u.takePositionFault_outside)
  | openSeen => exact whenUp_event_roster h s.openSeen_roster
  | pulseLimitExpiry => exact whenUp_event_roster h (ifRuns_roster s.pulseEnd_roster)
  | storeWaitExpiry => exact whenUp_event_roster h (ifRuns_roster s.storeWaitEnd_roster)
  | closedSeen => exact whenUp_event_roster h s.closedSeen_roster
  | closePulseLimitExpiry => exact whenUp_event_roster h (ifRuns_roster s.closePulseEnd_roster)
  | positionChange o c => exact whenUp_event_roster h (s.contacts_roster o c)
  | positionFaultTimerExpiry =>
    exact whenUp_event_roster h (ifRuns_roster (by rw [State.faultTimerOver_eq]; rfl))
  | firstPosition o c => exact whenUp_event_roster h (s.firstContacts_roster o c)
  | firstPositionTimeout => exact whenUp_event_roster h (s.firstPosition_roster _)
  | handleChange d => exact whenUp_event_outside h (s.handleReading_outside d)
  | readyInputChange id a => exact whenUp_event_roster h (s.readyReading_roster id a)
  | deadTimerExpiry => exact whenUp_event_outside h (ifRuns_outside s.deadOver_outside)
  | energyWaitExpiry => exact whenUp_event_outside h (ifRuns_outside (s.toLockout_outside _))
  | reclaimExpiry => exact whenUp_event_outside h (ifRuns_outside s.reclaimOver_outside)
  | chargeLimitExpiry id | retryTimerExpiry id => exact whenUp_event_roster h (ifRuns_roster rfl)
  | closeDemandExpiry | rslStoreWaitExpiry | ackTimerExpiry => exact whenUp_event_roster h (ifRuns_roster rfl)
  | panelTrip => exact whenUp_event_outside h ((State.manualTrip_outside _ _).trans s.rearm_outside)
  | panelClose => exact whenUp_event_outside h (s.closeAsked_outside _)
  | nonrecloseChange on => exact whenUp_event_outside h (s.nonrecloseReading_outside on)
  | supplyOkChange a => exact whenUp_event_roster h (s.supplyReading_roster a)
  | testRetryExpiry => exact whenUp_event_roster h (ifRuns_roster s.testRetryOver_roster)
  | loadTimerExpiry => exact whenUp_event_roster h (ifRuns_roster s.loadOver_roster)
  | crewTagPlace => exact whenUp_event_roster h (onFrame_roster fun r _ u => u.placeRequest_roster r)
  | crewTagRemove => exact whenUp_event_roster h (onFrame_roster fun r _ u => u.removeRequest_roster r)
  | crewClearUnknown => exact whenUp_event_roster h (onFrame_roster fun r _ u => u.clearRequest_roster r)
  | crewTrip =>
    exact whenUp_event_roster h (withAbort_roster fun _ => onFrame_roster fun _ _ u =>
      roster_of_outside (by simp [State.answer]))
  | crewClose => exact whenUp_event_roster h (onFrame_roster fun _ _ u => roster_of_outside (by simp [State.answer]))
  | crewStatusNow => exact whenUp_event_roster h (onFrame_roster fun r _ u => u.statusNow_roster r)
  | crewBatteryTest =>
    exact whenUp_event_roster h (onFrame_roster fun _ _ u =>
      (State.askResult_onlyQueue _ _ _ _).roster.trans u.testAsked_roster)
  | crewRequestNotActedOn => exact whenUp_event_roster h (onFrame_roster fun _ _ _ => rfl)
  | hotlineSwitchChange on => exact whenUp_event_roster h (s.hotlineReading_roster on)
  | midpointTimerExpiry => exact whenUp_event_outside h (ifRuns_outside s.midpointOver_outside)
  | tieTimerExpiry => exact whenUp_event_outside h (ifRuns_outside s.tieOver_outside)
  | serialByteArrival b =>
    refine whenUp_roster h (linkEvent_roster ?_)
    unfold State.serialByte
    dsimp only
    split
    · split
      · exact .trans ⟨_, s.txq, s.transit, rfl⟩ (State.endReception_onlyRadio _)
      · exact ⟨_, s.txq, s.transit, rfl⟩
    · exact (OnlyLink.refl s).onlyRadio
  | receptionGapExpiry => exact whenUp_roster h (linkEvent_roster s.endReception_onlyRadio)
  | busyChange a =>
    cases h
    split
    · exact .of_roster (linkEvent_roster (s.busyLevel_onlyLink a).onlyRadio)
    · exact .of_roster rfl
  | collideActive => exact whenUp_link_roster h s.collided_onlyLink
  | gapExpiry => exact whenUp_link_roster h s.gapOver_onlyLink
  | backoffExpiry => exact whenUp_link_roster h s.backoffOver_onlyLink
  | sendEnd => exact whenUp_link_roster h s.sendOver_onlyLink
  | warmUpExpiry => exact whenUp_link_roster h (ifRuns_onlyLink s s.warmUpOver_onlyLink)
  | listenWindowOpen => exact whenUp_link_roster h s.openWindow_onlyLink
  | listenWindowClose => exact whenUp_link_roster h s.closeWindow_onlyLink
  | listenHoldLimit | linkTimerExpiry => exact whenUp_link_roster h (ifRuns_onlyLink s ⟨_, _, rfl⟩)
  | quietTimerExpiry => exact whenUp_link_roster h (ifRuns_onlyLink s s.quietOver_onlyLink)
  | pickupLifeExpiry => exact whenUp_link_roster h s.pickupLifeOver_onlyLink
  | statusPeriodExpiry => exact whenUp_link_roster h (ifRuns_onlyLink s s.periodOver_onlyLink)

/-! ### The step -/

theorem State.idle_roster (s : State) : s.idle.roster = s.roster := by
  unfold State.idle
  split
  · split <;> rfl
  · rfl

/-- Settles O7: a frame of a named station changes its own entry, or joins in the room there is or that an eviction
makes; the ageing pass leaves the ids, a start the table empty, and every other command the table as it is. -/
theorem peersHold : Obligations.PeersHold := by
  intro s t sound h
  obtain ⟨i, rest, -, ran⟩ | rfl := step_cases h
  · exact exec_peers ran sound
  · exact peersSound_of_roster s.idle_roster sound

end Sys2Proof.Machine
end

section
/-! The arrival of a peer's frame at a plain station: its sender's entry, the eviction from a full table, and what a
PICKUP does to the link (R109, R120, R121, R137 to R144). -/

namespace Sys2Proof.Machine

open Sys2Proof.Safety Sys2Proof.Claims

/-! ### The quiet timer (R121) -/

/-- The quiet timer and the access after a PICKUP, in the model's terms (R121). -/
theorem quietStarted_eq (s : State) (a : Uptime) (ms : Nat) : quietStarted s a ms =
    if ms ≤ remaining a s.lnk.quiet then s
    else if s.lnk.access.listens && s.selectedEntry.any fun e => 2 ≤ e.priority then
      State.returnSelected { s with lnk := { s.lnk with quiet := some ⟨a, ms⟩ } }
    else { s with lnk := { s.lnk with quiet := some ⟨a, ms⟩ } } := by
  have left : (match s.lnk.quiet with
      | some q => q.ms - ageOf a q.start
      | none => 0) = remaining a s.lnk.quiet := by
    cases s.lnk.quiet <;> rfl
  have listens : (decide (s.lnk.access = .gap) || decide (s.lnk.access = .sense) || decide (s.lnk.access = .backoff)) =
      s.lnk.access.listens := by
    cases s.lnk.access <;> rfl
  rw [← left, ← listens]
  rfl

theorem State.startQuiet_eq (s : State) (a : Uptime) (ms : Nat) : s.startQuiet a ms = quietStarted s a ms := by
  rw [quietStarted_eq]
  by_cases larger : remaining a s.lnk.quiet < ms
  · rw [State.startQuiet, if_pos larger, if_neg (Nat.not_le.mpr larger)]
    have selected : State.selectedEntry { s with lnk := { s.lnk with quiet := some ⟨a, ms⟩ } } = s.selectedEntry := rfl
    dsimp only
    rw [selected]
    cases s.selectedEntry with
    | none => simp
    | some e => simp [and_comm]
  · rw [State.startQuiet, if_neg larger, if_pos (Nat.not_lt.mp larger)]

theorem State.returnSelected_withPeers (s : State) (p : List PeerEntry) :
    State.returnSelected { s with pvt := p } = { s.returnSelected with pvt := p } := by
  have search (u : State) : State.search { u with pvt := p } = { u.search with pvt := p } := by
    unfold State.search
    dsimp only
    split
    · split <;> rfl
    · rfl
  exact search { s with lnk := s.lnk.released }

/-- The table is no part of what a PICKUP does to the link. -/
theorem quietStarted_withPeers (s : State) (p : List PeerEntry) (a : Uptime) (ms : Nat) :
    quietStarted { s with pvt := p } a ms = { quietStarted s a ms with pvt := p } := by
  have selected : State.selectedEntry { s with pvt := p } = s.selectedEntry := rfl
  rw [quietStarted_eq, quietStarted_eq, selected]
  dsimp only
  split
  · rfl
  · split
    · exact State.returnSelected_withPeers { s with lnk := { s.lnk with quiet := some ⟨a, ms⟩ } } p
    · rfl

/-- The quiet timer started, and the return of a selected entry that it holds back. -/
theorem quietStarted_onlyQueue (s : State) (a : Uptime) (ms : Nat) :
    ∃ q, OnlyQueue { s with lnk := { s.lnk with quiet := q } } (quietStarted s a ms) := by
  rw [quietStarted_eq]
  split
  · exact ⟨s.lnk.quiet, .refl s⟩
  · split
    · exact ⟨some ⟨a, ms⟩, State.returnSelected_onlyQueue _⟩
    · exact ⟨some ⟨a, ms⟩, .refl _⟩

/-! ### A frame of a peer (R109, R137) -/

/-- What a peer's frame does at the blocks: the table, and by a PICKUP the quiet timer (R121, R137). -/
def peerTaken (s : State) (f : Frame) (a : Uptime) (n : Nat) (set : PeerEntry → PeerEntry) : State :=
  let t := s.peerFrame n a (set (PeerEntry.blank n a)).segments set
  match f with
  | .pickup _ _ q => t.startQuiet a (10 * q)
  | _ => t

/-- What a peer's frame does to the link (R108, R109, R121). -/
def linkHeard (s : State) (r : EndedReception) (rest : List EndedReception) : Frame → State
  | .pickup _ _ q => quietStarted (heard s r rest) r.arrival (10 * q)
  | _ => heard s r rest

section
variable {s : State} {f : Frame} {r : EndedReception} {rest : List EndedReception} {row : Instr} {n : Nat}
  {set : PeerEntry → PeerEntry}

/-- The row of the ACCEPTED frame that has arrived hands on what it picks of it. -/
theorem onFrame_of_arrives {α : Type} {pick : Frame → Option α} (arrives : FrameArrives s f r rest) {a : α}
    (picked : pick f = some a) (h : α → Uptime → State → State) :
    onFrame pick h s = h a r.arrival (heard s r rest) := by
  obtain ⟨receptions, accepted⟩ := arrives
  rw [onFrame_of_pick receptions accepted picked, heard_eq receptions]

/-- The row of a peer's frame is an event that takes the frame. -/
theorem exec_of_carries (arrives : FrameArrives s f r rest) (carried : carries r.arrival f = some (row, n, set)) :
    ∃ run, exec row s = whenUp (event run) s ∧ run s = peerTaken (heard s r rest) f r.arrival n set := by
  cases f with
  | request => cases carried
  | status => cases carried; exact ⟨_, rfl, onFrame_of_arrives (pick := Frame.asStatus) arrives rfl _⟩
  | pickup => cases carried; exact ⟨_, rfl, onFrame_of_arrives (pick := Frame.asPickup) arrives rfl _⟩
  | seqEvent => cases carried; exact ⟨_, rfl, onFrame_of_arrives (pick := Frame.asSeqEvent) arrives rfl _⟩
  | tagNotice => cases carried; exact ⟨_, rfl, onFrame_of_arrives (pick := Frame.asTagNotice) arrives rfl _⟩
  | report => cases carried; exact ⟨_, rfl, onFrame_of_arrives (pick := Frame.asReport) arrives rfl _⟩

/-- In WATCH the RSL makes no check at a change of the table (R148, R166). -/
theorem State.peerFrame_of_watch (watch : s.rsl.state = .watch) (a : Uptime) (g : Option Segments) :
    s.peerFrame n a g set = { s with pvt := (s.pvtAfter n a g set).getD s.pvt } := by
  unfold State.peerFrame
  split
  · next l after =>
    rw [after]
    simp only [State.rslCheck, watch, Option.getD_some]
  · next after =>
    rw [after]
    rfl

/-- A peer's frame at a plain station. -/
theorem peerFrame_heard (plain : Plain s) (arrives : FrameArrives s f r rest)
    (carried : carries r.arrival f = some (row, n, set)) :
    exec row s = .next { linkHeard s r rest f with
      pvt := (s.pvtAfter n r.arrival (set (PeerEntry.blank n r.arrival)).segments set).getD s.pvt } := by
  obtain ⟨run, row, taken⟩ := exec_of_carries arrives carried
  have watch : (heard s r rest).rsl.state = .watch := by
    obtain ⟨-, -, watch, -⟩ := plain
    exact watch
  generalize tableAfter : (s.pvtAfter n r.arrival (set (PeerEntry.blank n r.arrival)).segments set).getD s.pvt = p
  have table : (heard s r rest).peerFrame n r.arrival (set (PeerEntry.blank n r.arrival)).segments set =
      { heard s r rest with pvt := p } := by
    rw [State.peerFrame_of_watch watch, ← tableAfter]
    rfl
  have run : run s = { linkHeard s r rest f with pvt := p } := by
    rw [taken]
    cases f with
    | pickup id g q =>
      rw [peerTaken, table, State.startQuiet_eq]
      exact quietStarted_withPeers _ _ _ _
    | status | seqEvent | tagNotice | report | request => exact table
  have queue : ∃ q, OnlyQueue { heard s r rest with lnk := { (heard s r rest).lnk with quiet := q }, pvt := p }
      { linkHeard s r rest f with pvt := p } := by
    cases f with
    | pickup id g q =>
      rw [linkHeard, ← quietStarted_withPeers]
      exact quietStarted_onlyQueue _ _ _
    | status | seqEvent | tagNotice | report | request => exact ⟨_, .refl _⟩
  obtain ⟨q, queue⟩ := queue
  rw [row]
  exact next_of_undisturbed plain run queue { demand := .inl rfl } .rfl

end

/-! ### The table after a frame (R137, R144) -/

section
variable {s : State} {n : Nat} {a : Uptime} {g : Option Segments} {f : PeerEntry → PeerEntry}

theorem State.pvtAfter_of_place (place : (∃ e ∈ s.pvt, e.id = n) ∨ s.pvt.length < 12) :
    s.pvtAfter n a g f = some (peersAfter s n a f) := by
  unfold State.pvtAfter peersAfter
  split
  · rfl
  · next unknown =>
    have room : s.pvt.length < 12 := place.resolve_left (by simpa using unknown)
    rw [if_pos room]
    rfl

theorem State.pvtAfter_of_full (full : s.pvt.length = 12) (unknown : ∀ e ∈ s.pvt, e.id ≠ n) :
    s.pvtAfter n a g f = (s.evictedPeer (s.stl.image.adjacent g)).map fun v =>
      s.pvt.filter (fun e => e.id ≠ v.id) ++ [f (PeerEntry.blank n a)] := by
  unfold State.pvtAfter
  rw [if_neg (by simpa using unknown), if_neg (by omega)]
  cases s.evictedPeer (s.stl.image.adjacent g) <;> rfl

end

/-! ### The statements -/

theorem peerFramesTaken : PeerFramesTaken := by
  intro s id r rest plain place
  have taken {f : Frame} {row : Instr} {set : PeerEntry → PeerEntry} (arrives : FrameArrives s f r rest)
      (carried : carries r.arrival f = some (row, id, set)) :
      exec row s = .next { linkHeard s r rest f with pvt := peersAfter s id r.arrival set } := by
    rw [peerFrame_heard plain arrives carried, State.pvtAfter_of_place place]
    rfl
  exact ⟨fun _ arrives => taken arrives rfl, fun _ arrives => taken arrives rfl, fun _ arrives => taken arrives rfl,
    fun arrives => taken arrives rfl⟩

theorem pickupReceived : PickupReceived := by
  intro s id quiet g r rest plain place arrives
  have taken := peerFrame_heard plain arrives rfl
  rw [State.pvtAfter_of_place place] at taken
  exact taken

/-- Settles O51: each kind's row hands its frame to the table, which at a plain station no block looks at, and a PICKUP
to the quiet timer besides. -/
theorem peerFrames : Obligations.PeerFrames := ⟨peerFramesTaken, pickupReceived⟩

theorem fullTable_newcomer : Claims.FullTable := by
  intro s f r rest row id set plain arrives carried full unknown new found
  have after := peerFrame_heard plain arrives carried
  rw [State.pvtAfter_of_full full unknown] at after
  refine ⟨_, after, ?_, fun none => ?_, fun v evicted e => ?_⟩
  · cases f <;> rfl
  · change (Option.map _ found).getD s.pvt = s.pvt
    rw [none]
    rfl
  · change e ∈ (Option.map _ found).getD s.pvt ↔ _
    rw [evicted]
    simp [new, PeerEntry.blank]

/-- Settles O52: a full table takes a newcomer in the place of the oldest entry of the first row of R144 that finds one,
and each answer is read off the entries it speaks of. -/
theorem fullTable : Obligations.FullTable := ⟨fullTable_newcomer, admissionRule, peerAnswers⟩

end Sys2Proof.Machine
end

section
/-! The second of the time base: the ageing pass, and what settles after it (R142, R166, R184). -/

namespace Sys2Proof.Machine

open Sys2Proof.Safety Sys2Proof.Claims

/-! ### Ages (R142) -/

/-- A time of the table at the ageing pass, by its number (R142). -/
theorem agedTime_eq (now u : Uptime) :
    agedTime now u = if 2147483648 ≤ ageOf now u then now - 2147483648#32 else u := rfl

/-- After the pass no age is above the cap (R142). -/
theorem ageOf_agedTime_le (now u : Uptime) : ageOf now (agedTime now u) ≤ 2147483648 := by
  rw [agedTime_eq]
  split
  · simp [ageOf]
  · omega

/-- An age grows by no more than the time that passes (R184). -/
theorem ageOf_later_le (now u : Uptime) (k : Nat) : ageOf (now + BitVec.ofNat 32 k) u ≤ ageOf now u + k := by
  have later : now + BitVec.ofNat 32 k - u = (now - u) + BitVec.ofNat 32 k := by bv_omega
  rw [ageOf, later, ageOf, BitVec.toNat_add, BitVec.toNat_ofNat]
  exact (Nat.mod_le _ _).trans (Nat.add_le_add_left (Nat.mod_le _ _) _)

/-- Until the second after the pass an age passes the cap by no more than the time since (R142). -/
theorem ageOf_agedTime_later_le (now u : Uptime) (k : Nat) :
    ageOf (now + BitVec.ofNat 32 k) (agedTime now u) ≤ 2147483648 + k :=
  (ageOf_later_le _ _ k).trans (Nat.add_le_add_right (ageOf_agedTime_le now u) k)

/-! ### The second -/

/-- The second count and the table at a second of the time base (R142, R184). -/
def secondPassed (s : State) : State :=
  { s with
    clock := { s.clock with seconds := s.clock.seconds + 1, lastSecond := s.now }
    pvt := s.pvt.map (PeerEntry.aged s.now) }

/-- In WATCH, with no role to leave it by, the RSL has nothing to look at but a reason that is formed already (R165 to
R167, R170, R174). -/
theorem State.rslReview_of_watch {s : State} (inhibit : s.rsl.inhibit = s.formInhibit) (watch : s.rsl.state = .watch)
    (storeWait : s.rsl.storeWait = none) (role : s.stl.image.role = .none) (b : RslInputs) (x : Bool) :
    s.rslReview b x = s := by
  have formed : ({ s with rsl := { s.rsl with inhibit := s.formInhibit } } : State) = s := by rw [← inhibit]
  have exits : s.rslExits = s := by simp only [State.rslExits, watch]
  have stopped : s.stopWait = s := by rw [State.stopWait, ← storeWait]
  have entry : s.rslEntry = s := by simp only [State.rslEntry, watch, role]
  unfold State.rslReview
  dsimp only
  rw [formed, exits, stopped, ite_self, entry, ite_self]

/-- A plain station has no check to make at a second, and nothing to settle (R166). -/
theorem second_of_plain {s : State} (plain : Plain s) : s.second = secondPassed s := by
  obtain ⟨⟨-, inhibit, -, -, -, charger, -⟩, role, watch, storeWait, test, reception⟩ := plain
  have checked : (secondPassed s).rslCheck = secondPassed s := by
    simp only [State.rslCheck, secondPassed, watch]
  have reviewed : (secondPassed s).rslReview s.rslInputs true = secondPassed s :=
    State.rslReview_of_watch (s := secondPassed s) inhibit watch storeWait role _ _
  have assigned : (secondPassed s).chargerReview = secondPassed s := congrArg secondPassed charger
  calc s.second = (secondPassed s).rslCheck.settle s.rslInputs true := rfl
    _ = secondPassed s := by
      rw [checked, State.settle, reviewed, State.abortReview_of_no_test (s := secondPassed s) test,
        assigned, State.listenReview_of_none (s := secondPassed s) reception]

theorem secondOfTimeBase_plain : Claims.SecondOfTimeBase := by
  intro s plain moved
  change whenUp State.second s = _
  rw [whenUp_of_up (plain_up plain), second_of_plain plain]
  rfl

/-- The second leaves the uptime, the settings, and of the table what the ageing pass makes of it, at any station. -/
theorem State.second_stands (s : State) :
    s.second.now = s.now ∧ s.second.stl = s.stl ∧ s.second.pvt = s.pvt.map (PeerEntry.aged s.now) := by
  have checked := State.rslCheck_outside (secondPassed s)
  have now : (secondPassed s).rslCheck.now = s.now := congrArg (fun o : Outside => o.clock.uptime) checked
  have stl : (secondPassed s).rslCheck.stl = s.stl := congrArg Outside.stl checked
  have pvt : (secondPassed s).rslCheck.pvt = s.pvt.map (PeerEntry.aged s.now) := congrArg Outside.pvt checked
  obtain ⟨-, -, pvtStands, -, stlStands, -, clockStands, -⟩ :=
    (secondPassed s).rslCheck.settle_stands s.rslInputs true
  exact ⟨(congrArg Clock.uptime clockStands).trans now, stlStands.trans stl, pvtStands.trans pvt⟩

theorem ageingPass : AgeingPass := by
  intro s up moved
  obtain ⟨now, -, pvt⟩ := s.second_stands
  refine ⟨s.second, whenUp_of_up up, now, pvt, fun e mem k _ => ?_, fun e _ => rfl⟩
  rw [pvt] at mem
  obtain ⟨x, -, rfl⟩ := List.mem_map.mp mem
  rw [now]
  refine ⟨ageOf_agedTime_later_le _ _ k, fun u pickup => ?_, fun v event => ?_⟩
  · obtain ⟨w, -, rfl⟩ := Option.map_eq_some_iff.mp pickup
    exact ageOf_agedTime_later_le _ _ k
  · obtain ⟨w, -, rfl⟩ := Option.map_eq_some_iff.mp event
    exact ageOf_agedTime_later_le _ _ k

/-- Settles O56: at a plain station nothing settles after the second; at any station no block after the pass touches the
table, whose times are then no older than the cap. -/
theorem secondOfTimeBase : Obligations.SecondOfTimeBase := ⟨secondOfTimeBase_plain, ageingPass⟩

end Sys2Proof.Machine
end

section
/-! A tag change as the SQC and the TXQ see it, and the requests that take tags away (R49, R154, R159, R160). -/

namespace Sys2Proof.Machine

open Sys2Proof.Safety Sys2Proof.Claims

/-! ### Askings beside the rest of the part (R114, R120, R124 to R127, R129)

An asking reads the link, the queue, the settings and the time alone, so it does the same beside any other blocks. -/

/-- The rest of the part as `r` has it, with what an asking reads as `s` has it. -/
@[reducible] def State.linkOnto (s r : State) : State :=
  { r with lnk := s.lnk, txq := s.txq, stl := s.stl, clock := s.clock }

@[simp] theorem State.linkOnto_selectedEntry (s r : State) : (s.linkOnto r).selectedEntry = s.selectedEntry := rfl

section
variable (s r : State)

theorem State.search_linkOnto : (s.linkOnto r).search = s.search.linkOnto r := by
  simp only [State.search]
  split
  · split <;> rfl
  · rfl

theorem State.returnSelected_linkOnto : (s.linkOnto r).returnSelected = s.returnSelected.linkOnto r :=
  State.search_linkOnto { s with lnk := s.lnk.released } r

theorem State.dropEntry_linkOnto (n : Nat) : (s.linkOnto r).dropEntry n = (s.dropEntry n).linkOnto r := by
  simp only [State.dropEntry]
  split
  · exact State.returnSelected_linkOnto { s with txq := s.txq.remove n } r
  · exact State.search_linkOnto { s with txq := s.txq.remove n } r

theorem State.join_linkOnto (c : Content) : (s.linkOnto r).join c = (s.join c).linkOnto r := by
  have joined (u : State) (n : Nat) : (u.linkOnto r).afterJoin n = (u.afterJoin n).linkOnto r := by
    simp only [State.afterJoin, State.linkOnto_selectedEntry]
    split
    · split
      · exact u.returnSelected_linkOnto r
      · exact u.search_linkOnto r
    · exact u.search_linkOnto r
  exact joined { s with txq := { s.txq with
    entries := insertEntry (s.newEntry c) s.txq.entries, nextOrder := s.txq.nextOrder + 1 } } _

theorem State.statusDemand_linkOnto (x : Reason) : (s.linkOnto r).statusDemand x = (s.statusDemand x).linkOnto r := by
  simp only [State.statusDemand, State.joinStatus]
  split
  · split
    · exact s.join_linkOnto r _
    · split
      · rw [State.dropEntry_linkOnto, State.join_linkOnto]
      · rfl
  · split <;> rfl

theorem State.joinFrame_linkOnto (c : Content) : (s.linkOnto r).joinFrame c = (s.joinFrame c).linkOnto r := by
  simp only [State.joinFrame]
  split
  · exact s.join_linkOnto r c
  · split
    · rw [State.dropEntry_linkOnto, State.join_linkOnto, State.statusDemand_linkOnto]
    · exact s.statusDemand_linkOnto r _

end

/-- A result asked for beside other retained items (R134). -/
theorem State.askResult_withRtm (s : State) (m : Rtm) (n : Nat) (k : RequestKind) (o : RequestOutcome) :
    State.askResult { s with rtm := m } n k o = { s.askResult n k o with rtm := m } := by
  have beside : State.askResult { s with rtm := m } n k o = (s.askResult n k o).linkOnto { s with rtm := m } :=
    s.joinFrame_linkOnto { s with rtm := m } _
  obtain ⟨_, _, _, _, asked⟩ := s.askResult_onlyQueue n k o
  rw [beside, asked]

/-! ### A tag change (R49, R154) -/

/-- The tags written by a tag change, the panel slot as given. -/
def State.retagged (s : State) (on : Bool) (f : Retained → Retained) : State :=
  { s with tgt := { s.tgt with hotlineOn := on }, rtm := Rtm.written (f s.rtm.items) }

/-- Where no dead state is to be locked out, a tag change asks for its result and its TAG_NOTICE. -/
theorem State.changeTags_of_not_locking {s : State} {on : Bool} {f : Retained → Retained}
    (h : ¬(s.tagHold = false ∧ (s.retagged on f).tagHold = true ∧ Waiting s)) (answer : State → State) :
    s.changeTags on answer f = (answer (s.retagged on f)).askTagNotice := by
  refine if_neg fun locks => h ?_
  change (!s.tagHold && (s.retagged on f).tagHold && s.sqc.waiting) = true at locks
  simpa [waiting_iff, and_assoc] using locks

/-- A tag hold that becomes set in a dead state: the TGT's askings and the lockout, in one of the two orders. -/
theorem State.changeTags_of_locking {s : State} {on : Bool} {f : Retained → Retained} (free : s.tagHold = false)
    (held : (s.retagged on f).tagHold = true) (waiting : Waiting s) {answer : State → State}
    (queue : ∀ u, OnlyQueue u (answer u)) :
    let t : State := { s.retagged on f with free := s.free + 1 }
    s.changeTags on answer f = lockedOut (answer t).askTagNotice .tag ∨
      s.changeTags on answer f = (answer (lockedOut t .tag)).askTagNotice := by
  intro t
  have locks (u : State) (h : u.sqc = s.sqc) : u.lockDead .tag = lockedOut u .tag := by
    rw [lockDead_eq]
    exact if_pos (by rwa [Waiting, h])
  have ordered : s.changeTags on answer f =
      eitherOrder (fun u => (answer u).askTagNotice) (·.lockDead .tag) (s.retagged on f) := by
    refine if_pos ?_
    change (!s.tagHold && (s.retagged on f).tagHold && s.sqc.waiting) = true
    rw [free, held]
    exact (waiting_iff s).mpr waiting
  have asked : (answer t).askTagNotice.sqc = s.sqc :=
    ((queue t).trans (State.askTagNotice_onlyQueue _)).sameCore.sqc
  rw [ordered, ← locks t rfl, ← locks _ asked]
  exact eitherOrder_cases _ _ _

/-- What stands across a tag change, of all that the end of an event looks at and that a lockout needs. -/
structure TagEvent (s t : State) : Prop extends Undisturbed s t where
  demandTimer : t.sqc.demandTimer = s.sqc.demandTimer := by rfl
  nonreclose : t.sqc.nonreclose = s.sqc.nonreclose := by rfl
  stuck : t.sqc.state = some .stuck ↔ s.sqc.state = some .stuck := by rfl

theorem TagEvent.queue {s t u : State} (h : TagEvent s t) (k : OnlyQueue t u) : TagEvent s u where
  toUndisturbed := h.toUndisturbed.queue k
  demandTimer := by rw [k.sameCore.sqc, h.demandTimer]
  nonreclose := by rw [k.sameCore.sqc, h.nonreclose]
  stuck := by rw [k.sameCore.sqc, h.stuck]

theorem TagEvent.lockDead {s t : State} (ind : Indifferent s) (h : TagEvent s t) : TagEvent s (t.lockDead .tag) := by
  rw [lockDead_eq]
  split
  · next waiting =>
    exact {
      toUndisturbed := lockedOut_undisturbed ind h.toUndisturbed h.demandTimer .tag
      demandTimer := by simpa using h.demandTimer
      nonreclose := by simpa using h.nonreclose
      stuck := iff_of_false (by simp) fun k => not_stuck_of_waiting waiting (h.stuck.mpr k) }
  · exact h

theorem TagEvent.changeTags {s t : State} (ind : Indifferent s) (h : TagEvent s t) (on : Bool)
    {answer : State → State} (queue : ∀ u, OnlyQueue u (answer u)) (f : Retained → Retained) :
    TagEvent s (t.changeTags on answer f) := by
  have written (n : Nat) : TagEvent s { t.retagged on f with free := n } := { h with }
  have asked (u : State) (k : TagEvent s u) : TagEvent s (answer u).askTagNotice :=
    k.queue ((queue u).trans (State.askTagNotice_onlyQueue _))
  unfold State.changeTags
  dsimp only
  split
  · exact eitherOrder_keeps (TagEvent s) _ _ _ (written _) asked fun u k => k.lockDead ind
  · exact asked _ (written t.free)

/-- A command of a plain station whose block is a tag change, or none. -/
theorem next_of_tagEvent {s t : State} {f : State → State} (plain : Plain s) (run : f s = t) (h : TagEvent s t) :
    whenUp (event f) s = .next t :=
  next_of_undisturbed plain run (.refl t) h.toUndisturbed h.stuck h.nonreclose

/-! ### Requests that change the tags (R156, R158 to R160) -/

theorem TagEvent.answerTags {s t : State} (ind : Indifferent s) (h : TagEvent s t) (q : CrewRequest)
    (o : RequestOutcome) (change : Option (Retained → Retained)) : TagEvent s (t.answerTags q o change) := by
  cases change with
  | some f => exact h.changeTags ind _ (fun u => u.askResult_onlyQueue _ _ _) f
  | none => exact h.queue (t.askResult_onlyQueue _ _ _)

theorem TagEvent.placeRequest {s t : State} (ind : Indifferent s) (h : TagEvent s t) (q : CrewRequest) :
    TagEvent s (t.placeRequest q) := by
  unfold State.placeRequest
  split <;> exact h.answerTags ind _ _ _

/-- A change of the radio tags or of TAG_UNKNOWN that a request makes, where it locks out no dead state. -/
theorem State.answerTags_of_not_locking {s : State} {f : Retained → Retained}
    (h : ¬(s.tagHold = false ∧ (s.retagged s.tgt.hotlineOn f).tagHold = true ∧ Waiting s)) (q : CrewRequest)
    (o : RequestOutcome) : s.answerTags q o (some f) =
      State.askTagNotice { s.askResult q.crew q.kind o with rtm := Rtm.written (f s.rtm.items) } := by
  rw [← State.askResult_withRtm]
  exact State.changeTags_of_not_locking h fun u => u.askResult q.crew q.kind o

/-- One that does, in one of the two orders. -/
theorem State.answerTags_of_locking {s : State} {f : Retained → Retained} (free : s.tagHold = false)
    (held : (s.retagged s.tgt.hotlineOn f).tagHold = true) (waiting : Waiting s) (q : CrewRequest)
    (o : RequestOutcome) :
    let t : State := { s with rtm := Rtm.written (f s.rtm.items), free := s.free + 1 }
    s.answerTags q o (some f) = lockedOut (t.askResult q.crew q.kind o).askTagNotice .tag ∨
      s.answerTags q o (some f) = ((lockedOut t .tag).askResult q.crew q.kind o).askTagNotice :=
  State.changeTags_of_locking free held waiting fun u => u.askResult_onlyQueue q.crew q.kind o

/-! ### TAG_REMOVE and CLEAR_UNKNOWN (R159, R160) -/

/-- Without a tag left that was not there before, no tag hold becomes set. -/
theorem tagHold_retagged_of_fewer {s : State} {f : Retained → Retained}
    (tags : s.rtm.items.tags = [] → (f s.rtm.items).tags = [])
    (unknown : s.rtm.items.tagUnknown = false → (f s.rtm.items).tagUnknown = false) (free : s.tagHold = false) :
    (s.retagged s.tgt.hotlineOn f).tagHold = false := by
  simp only [State.tagHold, Bool.or_eq_false_iff, Bool.not_eq_false', List.isEmpty_iff] at free ⊢
  obtain ⟨⟨off, none⟩, clear⟩ := free
  exact ⟨⟨off, tags none⟩, unknown clear⟩

theorem tagOf_isSome_iff (n : Nat) (ts : List TagRecord) : (tagOf n ts).isSome = true ↔ ∃ x ∈ ts, x.crew = n := by
  simp [tagOf]

/-- A TAG_REMOVE as it is answered (R159). -/
theorem State.removeRequest_eq (s : State) (q : CrewRequest) : s.removeRequest q =
    if ∃ x ∈ s.rtm.items.tags, x.crew = q.crew then
      State.askTagNotice { s.askResult q.crew q.kind .accepted with
        rtm := Rtm.written { s.rtm.items with
          tags := s.rtm.items.tags.filter fun x => x.crew ≠ q.crew } }
    else s.askResult q.crew q.kind .refusedNotOwner := by
  simp only [State.removeRequest, tagOf_isSome_iff]
  split
  · refine State.answerTags_of_not_locking (fun ⟨free, held, _⟩ => ?_) q .accepted
    rw [tagHold_retagged_of_fewer (fun none => by simp [none]) (fun clear => clear) free] at held
    cases held
  · rfl

/-- A CLEAR_UNKNOWN as it is answered (R160). -/
theorem State.clearRequest_eq (s : State) (q : CrewRequest) : s.clearRequest q =
    if s.rtm.items.tagUnknown then
      State.askTagNotice { s.askResult q.crew q.kind .accepted with
        rtm := Rtm.written { s.rtm.items with tagUnknown := false } }
    else s.askResult q.crew q.kind .refusedState := by
  unfold State.clearRequest
  split
  · refine State.answerTags_of_not_locking (fun ⟨free, held, _⟩ => ?_) q .accepted
    rw [tagHold_retagged_of_fewer (fun none => none) (fun _ => rfl) free] at held
    cases held
  · rfl

/-- The answer with a tag change, or the other without, leaves all but the queue and the retained items. -/
theorem answered_onlyQueue (s : State) (n : Nat) (k : RequestKind) (o x : RequestOutcome) (m : Rtm) (p : Prop)
    [Decidable p] : ∃ rtm, OnlyQueue { s with rtm := rtm }
      (if p then State.askTagNotice { s.askResult n k o with rtm := m } else s.askResult n k x) := by
  split
  · refine ⟨m, ?_⟩
    rw [← State.askResult_withRtm]
    exact (State.askResult_onlyQueue _ _ _ _).trans (State.askTagNotice_onlyQueue _)
  · exact ⟨s.rtm, State.askResult_onlyQueue s _ _ _⟩

/-- A crew request taken at a calm station, of any role and beside a test or none, that asks for frames and may write
the retained items: nothing settles after it. -/
theorem next_of_request {s t : State} {k : RequestKind} {q : CrewRequest} {r : EndedReception}
    {rest : List EndedReception} (calm : Calm s) (noReception : s.lnk.reception = none)
    (arrives : RequestArrives s k q r rest) (f : CrewRequest → State → State) (run : f q (heard s r rest) = t)
    (queue : ∃ m, OnlyQueue { heard s r rest with rtm := m } t) :
    whenUp (event fun s => onFrame (s.pickRequest k) (fun q _ s => f q s) s) s = .next t := by
  obtain ⟨-, -, -, -, aborts, -⟩ := id calm
  obtain ⟨m, asked⟩ := queue
  have taken : BatteryEvent s { heard s r rest with rtm := m } := {}
  exact next_of_battery_asked calm ((onFrame_of_request arrives fun q _ => f q).trans run) taken asked
    (aborts.imp_right (taken.abortHolds rfl).trans) noReception

/-- Settles O54: each request by whether it finds what it takes away; a hold that only falls locks nothing out. -/
theorem tagsRemoved : Obligations.TagsRemoved := by
  intro s q r rest calm noReception
  constructor
  · intro arrives
    obtain ⟨-, -, kind, -⟩ := id arrives
    have run := (heard s r rest).removeRequest_eq q
    rw [kind] at run
    exact next_of_request calm noReception arrives (fun q u => u.removeRequest q) run (answered_onlyQueue _ _ _ _ _ _ _)
  · intro arrives
    obtain ⟨-, -, kind, -⟩ := id arrives
    have run := (heard s r rest).clearRequest_eq q
    rw [kind] at run
    exact next_of_request calm noReception arrives (fun q u => u.clearRequest q) run (answered_onlyQueue _ _ _ _ _ _ _)

end Sys2Proof.Machine
end

section
/-! TAG_PLACE and the HOTLINE switch, which may set the tag hold and so lock out a dead state (R49, R151, R154, R156,
R158, R162). -/

namespace Sys2Proof.Machine

open Sys2Proof.Safety Sys2Proof.Claims

/-! ### What a TAG_PLACE makes of a list (R158) -/

/-- The record that a TAG_PLACE places. -/
def CrewRequest.record (q : CrewRequest) : TagRecord := ⟨q.crew, q.tagKind, q.target.scope⟩

/-- A crew that holds no record gets one at the end of a list that has room. -/
theorem placeTag_of_new {t : TagRecord} {ts : List TagRecord} (new : ∀ x ∈ ts, x.crew ≠ t.crew) :
    placeTag t ts = if ts.length < 4 then (some (ts ++ [t]), .accepted) else (none, .refusedFull) := by
  have absent : tagOf t.crew ts = none := by simpa [tagOf] using new
  rw [placeTag, absent]

/-- A crew that holds a record has its record changed in place. -/
theorem placeTag_of_changed {t : TagRecord} {ts : List TagRecord} (holds : ∃ x ∈ ts, x.crew = t.crew)
    (changed : t ∉ ts) :
    placeTag t ts = (some (ts.map fun x => if x.crew = t.crew then t else x), .accepted) := by
  obtain ⟨u, found⟩ := Option.isSome_iff_exists.mp ((tagOf_isSome_iff _ _).mpr holds)
  have other : u ≠ t := fun same => changed (same ▸ List.mem_of_find?_eq_some found)
  rw [placeTag, found]
  exact if_neg other

/-- With one record for each crew, a record that is held already is a repeat. -/
theorem placeTag_of_repeat {t : TagRecord} {ts : List TagRecord} (single : (ts.map TagRecord.crew).Nodup)
    (held : t ∈ ts) : placeTag t ts = (none, .accepted) := by
  obtain ⟨u, found⟩ := Option.isSome_iff_exists.mp ((tagOf_isSome_iff _ _).mpr ⟨t, held, rfl⟩)
  have crew : u.crew = t.crew := by simpa using List.find?_some found
  have same : u = t := List.inj_on_of_nodup_map single (List.mem_of_find?_eq_some found) held crew
  rw [placeTag, found]
  exact if_pos same

/-! ### TAG_PLACE (R154, R156, R158) -/

theorem State.placeRequest_of_bad {s : State} {q : CrewRequest} (bad : q.crew = 0) :
    s.placeRequest q = s.askResult q.crew q.kind .refusedBad := if_pos bad

/-- A TAG_PLACE of a crew is answered by what it makes of the list. -/
theorem State.placeRequest_of_good {s : State} {q : CrewRequest} {ts : Option (List TagRecord)} {o : RequestOutcome}
    (good : q.crew ≠ 0) (placed : placeTag q.record s.rtm.items.tags = (ts, o)) :
    s.placeRequest q = s.answerTags q o (ts.map fun ts => fun m => { m with tags := ts }) := by
  have answered := congrArg (fun p : Option (List TagRecord) × RequestOutcome =>
    s.answerTags q p.2 (p.1.map fun ts => fun m => { m with tags := ts })) placed
  exact (if_neg good).trans answered

/-- What a clear tag hold says of the three things that set it (R153). -/
theorem untagged_of_tagHold_false {s : State} (free : s.tagHold = false) :
    s.tgt.hotlineOn = false ∧ s.rtm.items.tags = [] ∧ s.rtm.items.tagUnknown = false := by
  simpa [State.tagHold, and_assoc] using free

theorem tagPlaced : TagPlaced := by
  intro s q r rest plain ind sound arrives
  obtain ⟨-, single, -⟩ := sound
  obtain ⟨-, -, kind, -⟩ := id arrives
  have taken : TagEvent s (heard s r rest) := { heard_undisturbed s r rest with }
  refine ⟨(heard s r rest).placeRequest q, next_of_tagEvent plain
    (onFrame_of_request arrives fun q _ u => u.placeRequest q) (taken.placeRequest ind q), ?_⟩
  intro new answered
  have answer (o : RequestOutcome) : (heard s r rest).askResult q.crew q.kind o = answered o := by rw [kind]
  have change {ts : List TagRecord} (good : q.crew ≠ 0)
      (placed : placeTag q.record s.rtm.items.tags = (some ts, .accepted))
      (unlocked : ¬(s.tagHold = false ∧ Waiting s)) : (heard s r rest).placeRequest q =
        State.askTagNotice { answered .accepted with rtm := Rtm.written { s.rtm.items with tags := ts } } := by
    have asked := State.answerTags_of_not_locking (s := heard s r rest) (f := fun m => { m with tags := ts })
      (fun ⟨free, _, waiting⟩ => unlocked ⟨free, waiting⟩) q .accepted
    rw [answer] at asked
    exact (State.placeRequest_of_good (s := heard s r rest) good placed).trans asked
  refine ⟨fun bad => ?_, fun good held => ?_, fun good absent full => ?_, fun good absent room unlocked => ?_,
    fun good holds changed => ?_, fun good free waiting => ?_⟩
  · rw [State.placeRequest_of_bad bad, answer]
  · exact (State.placeRequest_of_good (s := heard s r rest) good (placeTag_of_repeat single held)).trans (answer _)
  · have refused := (placeTag_of_new (t := q.record) absent).trans (if_neg (by omega))
    exact (State.placeRequest_of_good (s := heard s r rest) good refused).trans (answer _)
  · exact change good ((placeTag_of_new (t := q.record) absent).trans (if_pos room)) unlocked
  · refine change good (placeTag_of_changed holds changed) fun ⟨free, _⟩ => ?_
    obtain ⟨-, none, -⟩ := untagged_of_tagHold_false free
    simp [none] at holds
  · obtain ⟨-, none, -⟩ := untagged_of_tagHold_false free
    have placed : placeTag q.record s.rtm.items.tags = (some [new], .accepted) := by rw [none]; rfl
    rw [State.placeRequest_of_good (s := heard s r rest) good placed]
    have locks := State.answerTags_of_locking (s := heard s r rest) (f := fun m => { m with tags := [new] }) free
      (by simp [State.tagHold, State.retagged, Rtm.written]) waiting q .accepted
    rw [kind] at locks
    exact locks

/-! ### The HOTLINE switch (R151, R162) -/

theorem TagEvent.hotlineReading {s : State} (ind : Indifferent s) (on : Bool) : TagEvent s (s.hotlineReading on) := by
  have asked (u : State) : OnlyQueue u (id u) := .refl u
  have timed (x : Option Timer) : TagEvent s { s with tgt := { s.tgt with ackTimer := x } } := { demand := .inl rfl }
  unfold State.hotlineReading State.hotlineChanged
  split_ifs
  · exact { demand := .inl rfl }
  · exact { demand := .inl rfl }
  · exact (timed _).changeTags ind _ asked _
  · exact (timed _).changeTags ind _ asked _

theorem hotlineSwitchChange_next {s : State} (plain : Plain s) (ind : Indifferent s) (on : Bool) :
    exec (.hotlineSwitchChange on) s = .next (s.hotlineReading on) :=
  next_of_tagEvent plain rfl (.hotlineReading ind on)

/-- The switch turned on, after its first reading. -/
theorem State.hotlineReading_on {s : State} (read : s.tgt.hotlineRead = true) (off : s.tgt.hotlineOn = false) :
    s.hotlineReading true =
      State.changeTags { s with tgt := { s.tgt with ackTimer := some ⟨s.now, 5000⟩ } } true id id := by
  simp [State.hotlineReading, State.hotlineChanged, read, off, State.timer]

/-- The switch turned off, after its first reading. -/
theorem State.hotlineReading_off {s : State} (read : s.tgt.hotlineRead = true) (on : s.tgt.hotlineOn = true) :
    s.hotlineReading false =
      State.changeTags { s with tgt := { s.tgt with ackTimer := none } } false id fun r =>
        { r with tagUnknown := r.tagUnknown && s.tgt.ackTimer = none } := by
  have stopped : s.tgt.ackTimer.isNone = decide (s.tgt.ackTimer = none) := by cases s.tgt.ackTimer <;> simp
  simp only [State.hotlineReading, State.hotlineChanged, read, on, stopped]
  rfl

theorem hotlineSwitch : HotlineSwitch := by
  intro s plain ind
  refine ⟨fun x unread => ?_, fun read off unlocked => ?_, fun read free waiting => ?_, fun read on => ?_,
    fun runs => ?_⟩
  · rw [hotlineSwitchChange_next plain ind, State.hotlineReading, unread]
    rfl
  · rw [hotlineSwitchChange_next plain ind, State.hotlineReading_on read off,
      State.changeTags_of_not_locking fun ⟨free, _, waiting⟩ => unlocked ⟨free, waiting⟩]
    rfl
  · obtain ⟨off, -⟩ := untagged_of_tagHold_false free
    rw [hotlineSwitchChange_next plain ind, State.hotlineReading_on read off]
    exact (State.changeTags_of_locking
      (s := { s with tgt := { s.tgt with ackTimer := some ⟨s.now, 5000⟩ } }) free rfl waiting (answer := id)
      fun u => .refl u).imp (congrArg _) (congrArg _)
  · rw [hotlineSwitchChange_next plain ind, State.hotlineReading_off read on,
      State.changeTags_of_not_locking fun ⟨free, _⟩ => by simp [State.tagHold, on] at free]
    rfl
  · exact next_of_tagEvent plain (ifRuns_of_some runs) { demand := .inl rfl }

/-- Settles O53: what a TAG_PLACE makes of the list decides whether it is a tag change, and a tag change in a dead
state that sets the hold is the TGT's askings and the lockout in one of two orders. -/
theorem tagsPlaced : Obligations.TagsPlaced := ⟨tagPlaced, hotlineSwitch⟩

end Sys2Proof.Machine
end

section
/-! What a piece of an event keeps of the radio tags and TAG_UNKNOWN (R154, R158 to R162, R185). -/

namespace Sys2Proof.Machine

open Sys2Proof.Safety

/-! ### What is kept -/

/-- `t` has the tags of `s`: the radio tags but where `moved` allows a change, TAG_UNKNOWN but where `cleared` allows
its clearing. -/
structure TagsKept (moved cleared : Prop) (s t : State) : Prop where
  tags : ¬moved → t.rtm.items.tags = s.rtm.items.tags
  unknown : ¬cleared → t.rtm.items.tagUnknown = s.rtm.items.tagUnknown
  unset : s.rtm.items.tagUnknown = false → t.rtm.items.tagUnknown = false

section
variable {m c : Prop} {s t u : State}

theorem TagsKept.of_items (m c : Prop) (tags : t.rtm.items.tags = s.rtm.items.tags := by rfl)
    (unknown : t.rtm.items.tagUnknown = s.rtm.items.tagUnknown := by rfl) : TagsKept m c s t :=
  ⟨fun _ => tags, fun _ => unknown, unknown.trans⟩

theorem TagsKept.refl (m c : Prop) (s : State) : TagsKept m c s s := .of_items m c

theorem TagsKept.trans (h : TagsKept m c s t) (k : TagsKept m c t u) : TagsKept m c s u :=
  ⟨fun n => (k.tags n).trans (h.tags n), fun n => (k.unknown n).trans (h.unknown n), fun n => k.unset (h.unset n)⟩

/-- A piece that comes after others which leave the tags. -/
theorem TagsKept.after (k : TagsKept m c t u) (h : TagsKept m c s t) : TagsKept m c s u := h.trans k

theorem tagsKept_of_rtm (h : t.rtm = s.rtm) : TagsKept m c s t :=
  .of_items m c (congrArg (·.items.tags) h) (congrArg (·.items.tagUnknown) h)

theorem tagsKept_of_outside (h : t.outside = s.outside) : TagsKept m c s t := tagsKept_of_rtm (congrArg Outside.rtm h)

theorem OnlyRadio.tagsKept (h : OnlyRadio s t) : TagsKept m c s t := by
  obtain ⟨_, _, _, rfl⟩ := h
  exact .of_items m c

theorem OnlyQueue.tagsKept (h : OnlyQueue s t) : TagsKept m c s t := h.onlyLink.onlyRadio.tagsKept

/-! ### Guards and events -/

theorem event_tagsKept {f : State → State} (h : TagsKept m c s (f s)) : TagsKept m c s (event f s) := by
  obtain ⟨-, -, -, -, -, rtm, -⟩ := (f s).settle_stands s.rslInputs false
  exact h.trans (tagsKept_of_rtm rtm)

theorem linkEvent_tagsKept {f : State → State} (h : OnlyRadio s (f s)) : TagsKept m c s (linkEvent f s) :=
  (h.trans (State.listenReview_onlyRadio _)).tagsKept

theorem ifRuns_tagsKept {r : State → Option Timer} {f : State → State} (h : TagsKept m c s (f s)) :
    TagsKept m c s (ifRuns r f s) := by
  unfold ifRuns
  split
  · exact h
  · exact .refl m c s

theorem whenDue_tagsKept {d : State → Bool} {f : State → State} (h : TagsKept m c s (f s)) :
    TagsKept m c s (whenDue d f s) := by
  unfold whenDue
  split
  · exact h
  · exact .refl m c s

theorem eitherOrder_tagsKept {f g : State → State} (hf : ∀ u, TagsKept m c u (f u)) (hg : ∀ u, TagsKept m c u (g u)) :
    TagsKept m c s (eitherOrder f g s) :=
  eitherOrder_keeps (TagsKept m c s) f g s (.of_items m c) (fun u k => k.trans (hf u)) fun u k => k.trans (hg u)

theorem State.abortTest_tagsKept (s : State) : TagsKept m c s s.abortTest :=
  s.abortTest_onlyQueue.tagsKept.after (.of_items m c)

theorem withAbort_tagsKept {f : State → State} (h : ∀ u, TagsKept m c u (f u)) : TagsKept m c s (withAbort f s) := by
  unfold withAbort
  split
  · exact eitherOrder_tagsKept State.abortTest_tagsKept h
  · exact h s

theorem onArrival_tagsKept {α : Type} {pick : Report → Option α} {f : α → State → State}
    (h : ∀ a u, TagsKept m c u (f a u)) : TagsKept m c s (onArrival pick f s) := by
  unfold onArrival
  split
  · exact (h _ _).after (.of_items m c)
  · exact .refl m c s

/-- A frame taken by the filter (R108). -/
theorem State.filtered_tagsKept (s : State) (a : Uptime) (k : FrameClass) :
    TagsKept m c s (s.dropReception.filterEffect a k) := by
  obtain ⟨_, _, taken⟩ := s.heard_frame a k
  rw [taken]
  exact .of_items m c

theorem onFrame_tagsKept {α : Type} {pick : Frame → Option α} {f : α → Uptime → State → State}
    (h : ∀ a u t, TagsKept m c t (f a u t)) : TagsKept m c s (onFrame pick f s) := by
  unfold onFrame
  split
  · split
    · split
      · exact (h _ _ _).after (s.filtered_tagsKept _ _)
      · exact .refl m c s
    · exact .refl m c s
  · exact .refl m c s

end

section
variable (m c : Prop) (s : State)

/-! ### The mechanism (R63 to R70, R73, R74) -/

theorem State.confirmOpen_tagsKept : TagsKept m c s s.confirmOpen := by
  have counted (r : Retained) (w : Option Nat) (n : Nat) :
      (r.countOpen w n).tags = r.tags ∧ (r.countOpen w n).tagUnknown = r.tagUnknown := by
    cases w <;> exact ⟨rfl, rfl⟩
  obtain ⟨tags, unknown⟩ := counted s.rtm.items s.mdu.wear s.stl.image.wearLimit
  exact .of_items m c tags unknown

theorem State.pulseEnd_tagsKept : TagsKept m c s s.pulseEnd := by
  unfold State.pulseEnd
  split <;> exact .of_items m c

theorem State.storeWaitEnd_tagsKept : TagsKept m c s s.storeWaitEnd := by
  unfold State.storeWaitEnd
  split <;> exact .of_items m c

theorem State.openSeen_tagsKept : TagsKept m c s s.openSeen := by
  unfold State.openSeen
  split
  · exact s.confirmOpen_tagsKept m c
  · exact .refl m c s

theorem State.closedSeen_tagsKept : TagsKept m c s s.closedSeen := by
  unfold State.closedSeen
  split <;> exact .of_items m c

theorem State.closePulseEnd_tagsKept : TagsKept m c s s.closePulseEnd := by
  unfold State.closePulseEnd
  split <;> exact .of_items m c

theorem State.contacts_tagsKept (o d : Bool) : TagsKept m c s (s.contacts o d) := by
  have moved (u : State) (p : Position) : TagsKept m c u (u.moved p) := by
    unfold State.moved
    dsimp only
    split <;> exact .of_items m c
  have read : TagsKept m c s { s with mdu := { s.mdu with openC := some o, closedC := some d } } := .of_items m c
  unfold State.contacts
  dsimp only
  split
  · exact .refl m c s
  · split
    · exact read
    · split
      · exact read.trans (moved _ _)
      · split
        · exact read.trans (State.confirmOpen_tagsKept m c _)
        · exact .of_items m c
      · split <;> exact .of_items m c

theorem State.firstPosition_tagsKept (p : Position) : TagsKept m c s (s.firstPosition p) := by
  have started (u : State) : (u.startState p).outside = u.outside := by
    cases p with
    | closed => exact u.enter_outside _ _
    | opened => exact u.enter_outside _ _
    | unknown => exact u.enterStuck_outside _
  unfold State.firstPosition
  split
  · exact (tagsKept_of_outside (started _)).after (.of_items m c)
  · exact .refl m c s

theorem State.firstContacts_tagsKept (o d : Bool) : TagsKept m c s (s.firstContacts o d) := by
  unfold State.firstContacts
  split
  · exact (State.firstPosition_tagsKept m c _ _).after (.of_items m c)
  · exact .refl m c s

theorem State.readyReading_tagsKept (id : StoreId) (active : Bool) : TagsKept m c s (s.readyReading id active) := by
  unfold State.readyReading
  split
  · exact .refl m c s
  · dsimp only
    split
    · exact (tagsKept_of_outside (State.storeReady_outside _)).after (.of_items m c)
    · exact .of_items m c

/-! ### The measurement chain and the second (R9, R15, R19, R81 to R92) -/

theorem State.scheduledAttempt_tagsKept : TagsKept m c s s.scheduledAttempt := by
  unfold State.scheduledAttempt State.beginTest State.meanOr
  split
  · split <;> exact .of_items m c
  · exact .of_items m c

theorem State.dayEvent_tagsKept : TagsKept m c s s.dayEvent := by
  refine event_tagsKept ?_
  have attempted (n : Nat) : TagsKept m c s (State.scheduledAttempt (State.retain
      { s with bcu := { s.bcu with daySeconds := 0, testDue := true } } fun r => { r with daysSinceTest := n })) :=
    (State.scheduledAttempt_tagsKept m c _).after (.of_items m c)
  unfold State.rollDay
  dsimp only
  split
  · split
    · exact (attempted _).trans (.of_items m c)
    · exact attempted _
  · exact .of_items m c

/-- The charger's step and the charge counted write the charge and the health alone (R83, R86). -/
theorem State.chargedSecond_tagsKept (x : Mean) : TagsKept m c s (s.chargedSecond x) := by
  have exited (u : State) (mV : Int) : TagsKept m c u (u.chargerExit mV) := by
    by_cases tail : u.bcu.mode = .absorb ∧ u.bcu.tailRun = 60
    · rw [State.chargerExit_of_tail tail]
      exact .of_items m c
    · obtain e | ⟨_, e⟩ | e := State.chargerExit_of_no_tail tail mV <;> rw [e]
      · exact .refl m c u
      · exact .of_items m c
      · exact (State.changeHealth_onlyQueue _ _).tagsKept.after (.of_items m c)
  have counted (u : State) : TagsKept m c u (u.countCharge x) := by
    unfold State.countCharge
    split <;> exact .of_items m c
  exact ((exited _ _).trans (counted _)).after (.of_items m c)

theorem State.oneSecondEvent_tagsKept : TagsKept m c s (event State.oneSecond s) := by
  have evaluated : TagsKept m c s s.evaluated := (State.chargedSecond_tagsKept m c _ _).after (.of_items m c)
  have items := s.oneSecond_items
  refine evaluated.trans ?_
  split at items <;> exact .of_items m c (by rw [items]) (by rw [items])

theorem State.secondEvent_tagsKept : TagsKept m c s s.secondEvent :=
  (whenDue_tagsKept (s.dayEvent_tagsKept m c)).trans (State.oneSecondEvent_tagsKept m c _)

theorem State.halfCycleEvent_tagsKept : TagsKept m c s s.halfCycleEvent :=
  tagsKept_of_rtm s.halfCycleEvent_halfCycled.rtm

theorem State.sampleEvent_tagsKept : TagsKept m c s s.sampleEvent :=
  ((whenDue_tagsKept (s.halfCycleEvent_tagsKept m c)).trans
    (whenDue_tagsKept (State.secondEvent_tagsKept m c _))).trans (.of_items m c)

theorem State.bitsEvent_tagsKept (b : Byte) : TagsKept m c s (s.bitsEvent b) :=
  (whenDue_tagsKept (s.sampleEvent_tagsKept m c)).trans (.of_items m c)

/-! ### The test and the supply (R80, R92 to R98) -/

theorem State.testRetryOver_tagsKept : TagsKept m c s s.testRetryOver := by
  unfold State.testRetryOver
  dsimp only
  split
  · exact (State.scheduledAttempt_tagsKept m c _).after (.of_items m c)
  · exact .of_items m c

theorem State.loadOver_tagsKept : TagsKept m c s s.loadOver := by
  have drawn (x : Option Mean) : TagsKept m c s (s.meanOr x).2 := by
    cases x <;> exact .of_items m c
  have applied (u : State) (r : TestResult) : TagsKept m c u (u.applyResult r) := by
    have judged := (State.changeHealth_onlyQueue { u.retain fun x => { x with lastResult := some r } with
      bcu := { u.bcu.leaveTest with latestAttempt := some r.outcome.attempt } }
      (afterResult u.stl.image.rRef r)).tagsKept.after (.of_items m c)
    exact ((State.askBattery_onlyQueue _).tagsKept.after (.of_items m c)).after (judged.after (.of_items m c))
  unfold State.loadOver
  split
  · exact (drawn _).trans (applied _ _)
  · exact .refl m c s

theorem State.supplyReading_tagsKept (active : Bool) : TagsKept m c s (s.supplyReading active) := by
  have changed (u : State) : TagsKept m c u (u.supplyChanged active) := by
    unfold State.supplyChanged
    dsimp only
    split
    · split <;> exact .of_items m c
    · split
      · exact (State.abortTest_tagsKept _).after (.of_items m c)
      · exact .of_items m c
  unfold State.supplyReading
  dsimp only
  split
  · exact .of_items m c
  · exact (changed _).after (.of_items m c)

theorem State.testAsked_tagsKept : TagsKept m c s s.testAsked.1 := by
  unfold State.testAsked State.beginTest State.meanOr
  split
  · exact .refl m c s
  · split <;> exact .of_items m c

/-! ### Frames and requests heard, and the second (R108, R109, R133, R137, R142) -/

theorem State.peerFrame_tagsKept (id : Nat) (a : Uptime) (g : Option Segments) (f : PeerEntry → PeerEntry) :
    TagsKept m c s (s.peerFrame id a g f) := by
  unfold State.peerFrame
  split
  · exact (tagsKept_of_outside (State.rslCheck_outside _)).after (.of_items m c)
  · exact .refl m c s

theorem State.rejectFrame_tagsKept : TagsKept m c s s.rejectFrame := by
  unfold State.rejectFrame
  split
  · split
    · exact .refl m c s
    · exact s.filtered_tagsKept _ _
  · exact .refl m c s

theorem State.statusNow_tagsKept (q : CrewRequest) : TagsKept m c s (s.statusNow q) := by
  have rearmed (u : State) : u.rearmLive.outside = u.outside := by
    unfold State.rearmLive
    split <;> simp
  exact (tagsKept_of_outside (rearmed _)).after
    ((s.askResult_onlyQueue _ _ _).trans (State.statusDemand_onlyQueue _ _)).tagsKept

theorem State.second_tagsKept : TagsKept m c s s.second := by
  have checked : TagsKept m c s (State.rslCheck (secondPassed s)) :=
    (tagsKept_of_outside (State.rslCheck_outside _)).after (.of_items m c)
  obtain ⟨-, -, -, -, -, rtm, -⟩ := (State.rslCheck (secondPassed s)).settle_stands s.rslInputs true
  exact checked.trans (tagsKept_of_rtm rtm)

/-! ### The tags (R154, R158 to R162) -/

/-- A tag change keeps of the tags what its writing keeps: the askings and the lockout write none. -/
theorem State.changeTags_tagsKept (on : Bool) {answer : State → State} (queue : ∀ u, OnlyQueue u (answer u))
    {f : Retained → Retained} (h : TagsKept m c s (s.retain f)) : TagsKept m c s (s.changeTags on answer f) := by
  have asked (u : State) : TagsKept m c u (answer u).askTagNotice :=
    ((queue u).trans (State.askTagNotice_onlyQueue _)).tagsKept
  have written : TagsKept m c s (s.retagged on f) := ⟨h.tags, h.unknown, h.unset⟩
  unfold State.changeTags
  dsimp only
  split
  · exact written.trans (eitherOrder_tagsKept asked fun u => tagsKept_of_outside (u.lockDead_outside _))
  · exact written.trans (asked _)

/-- The switch turned off clears TAG_UNKNOWN; turned on it leaves it. -/
theorem State.hotlineReading_tagsKept (on : Bool) (h : on = false → c) : TagsKept m c s (s.hotlineReading on) := by
  have asked (u : State) : OnlyQueue u (id u) := .refl u
  unfold State.hotlineReading State.hotlineChanged
  split_ifs with unread same turned
  · exact .of_items m c
  · exact .refl m c s
  · exact (State.changeTags_tagsKept m c _ _ asked (.of_items m c)).after (.of_items m c)
  · have off : on = false := by simpa using turned
    refine (State.changeTags_tagsKept m c _ _ asked ⟨fun _ => rfl, fun n => absurd (h off) n, fun clear => ?_⟩).after
      (.of_items m c)
    exact Bool.and_eq_false_iff.mpr (.inl clear)

theorem State.answerTags_tagsKept (q : CrewRequest) (o : RequestOutcome) {change : Option (Retained → Retained)}
    (h : ∀ f ∈ change, TagsKept m c s (s.retain f)) : TagsKept m c s (s.answerTags q o change) := by
  cases change with
  | some f => exact s.changeTags_tagsKept m c _ (fun u => u.askResult_onlyQueue _ _ _) (h f rfl)
  | none => exact (s.askResult_onlyQueue _ _ _).tagsKept

theorem State.placeRequest_tagsKept (q : CrewRequest) (hm : m) : TagsKept m c s (s.placeRequest q) := by
  unfold State.placeRequest
  split
  · exact s.answerTags_tagsKept m c _ _ nofun
  · refine s.answerTags_tagsKept m c _ _ fun f hf => ?_
    obtain ⟨_, -, rfl⟩ := Option.map_eq_some_iff.mp hf
    exact ⟨absurd hm, fun _ => rfl, id⟩

theorem State.removeRequest_tagsKept (q : CrewRequest) (hm : m) : TagsKept m c s (s.removeRequest q) := by
  unfold State.removeRequest
  split
  · exact s.answerTags_tagsKept m c _ _ (by rintro _ ⟨⟩; exact ⟨absurd hm, fun _ => rfl, id⟩)
  · exact s.answerTags_tagsKept m c _ _ nofun

theorem State.clearRequest_tagsKept (q : CrewRequest) (hc : c) : TagsKept m c s (s.clearRequest q) := by
  unfold State.clearRequest
  split
  · exact s.answerTags_tagsKept m c _ _ (by rintro _ ⟨⟩; exact ⟨fun _ => rfl, absurd hc, fun _ => rfl⟩)
  · exact s.answerTags_tagsKept m c _ _ nofun

end

end Sys2Proof.Machine
end

section
/-! The tags change at the hand of crews alone (R154, R158 to R162, R185). -/

namespace Sys2Proof.Machine

open Sys2Proof.Safety Sys2Proof.Claims

/-! ### Commands -/

section
variable {m c : Prop} {f : State → State} {s t : State}

theorem whenUp_tagsKept (h : whenUp f s = .next t) (k : TagsKept m c s (f s)) : TagsKept m c s t := by
  rw [whenUp_next.mp h]
  split
  · exact k
  · exact .refl m c s

theorem whenUp_event_tagsKept (h : whenUp (event f) s = .next t) (k : TagsKept m c s (f s)) : TagsKept m c s t :=
  whenUp_tagsKept h (event_tagsKept k)

theorem whenUp_outside_tagsKept (h : whenUp (event f) s = .next t) (k : (f s).outside = s.outside) :
    TagsKept m c s t := whenUp_event_tagsKept h (tagsKept_of_outside k)

theorem whenUp_arrival_tagsKept {α : Type} {pick : Report → Option α} {f : α → State → State}
    (h : whenUp (event (onArrival pick f)) s = .next t) (k : ∀ a u, (f a u).outside = u.outside) :
    TagsKept m c s t :=
  whenUp_event_tagsKept h (onArrival_tagsKept fun a u => tagsKept_of_outside (k a u))

/-- A command that takes a frame. -/
theorem whenUp_frame_tagsKept {α : Type} {pick : Frame → Option α} {f : α → Uptime → State → State}
    (h : whenUp (event fun s => onFrame pick f s) s = .next t) (k : ∀ a u v, TagsKept m c v (f a u v)) :
    TagsKept m c s t := whenUp_event_tagsKept h (onFrame_tagsKept k)

theorem whenUp_link_tagsKept (h : whenUp (linkEvent f) s = .next t) (k : OnlyLink s (f s)) : TagsKept m c s t :=
  whenUp_tagsKept h (linkEvent_tagsKept k.onlyRadio)

end

/-- The commands that change the radio tags (R158, R159). -/
def MovesTags (i : Instr) : Prop := i = .crewTagPlace ∨ i = .crewTagRemove

/-- The commands that clear TAG_UNKNOWN (R160, R162). -/
def ClearsUnknown (i : Instr) : Prop := i = .crewClearUnknown ∨ i = .hotlineSwitchChange false

/-- A byte is taken into the reception, or ends it (R107). -/
theorem State.serialByte_onlyRadio (s : State) (b : Byte) : OnlyRadio s (s.serialByte b) := by
  unfold State.serialByte
  dsimp only
  split
  · split
    · exact .trans ⟨_, s.txq, s.transit, rfl⟩ (State.endReception_onlyRadio _)
    · exact ⟨_, s.txq, s.transit, rfl⟩
  · exact (OnlyLink.refl s).onlyRadio

/-- On a part that is up a word of the block is not taken (R179). -/
theorem State.takeWord_of_up {s : State} (up : s.up = true) (w : Word16) : s.takeWord w = s := by
  have phase : s.stl.phase = .up := by simpa [State.up] using up
  rw [State.takeWord, phase]

/-- Every command of a part that is up leaves the tags but those that a crew gives for them; a start event leaves them
too (R185, log entry 15). -/
theorem exec_tagsKept {i : Instr} {s t : State} (up : s.up = true) (h : exec i s = .next t) :
    TagsKept (MovesTags i) (ClearsUnknown i) s t := by
  cases i with
  | restartInput kept | supplyReturn kept => cases h; cases kept <;> exact .of_items _ _
  | settingsWordRead w => cases h; rw [State.takeWord_of_up up]; exact .refl _ _ s
  | settingsWordTimeout => cases h; rw [State.takeWord_of_up up]; exact .refl _ _ s
  | crewTagPlace =>
    exact whenUp_frame_tagsKept h fun q _ u => u.placeRequest_tagsKept _ _ q (.inl rfl)
  | crewTagRemove =>
    exact whenUp_frame_tagsKept h fun q _ u => u.removeRequest_tagsKept _ _ q (.inr rfl)
  | crewClearUnknown =>
    exact whenUp_frame_tagsKept h fun q _ u => u.clearRequest_tagsKept _ _ q (.inl rfl)
  | hotlineSwitchChange on =>
    exact whenUp_event_tagsKept h (s.hotlineReading_tagsKept _ _ on fun off => .inr (congrArg _ off))
  | modulatorBit b => exact whenUp_tagsKept (f := (·.bitsEvent b)) h (s.bitsEvent_tagsKept _ _ b)
  | decimatedSample => exact whenUp_tagsKept h (whenDue_tagsKept (s.sampleEvent_tagsKept _ _))
  | halfCycleUpdate => exact whenUp_tagsKept h (whenDue_tagsKept (s.halfCycleEvent_tagsKept _ _))
  | oneSecondUpdate => exact whenUp_tagsKept h (whenDue_tagsKept (s.secondEvent_tagsKept _ _))
  | dayRollover => exact whenUp_tagsKept h (whenDue_tagsKept (s.dayEvent_tagsKept _ _))
  | timeBaseSecond => exact whenUp_tagsKept h (s.second_tagsKept _ _)
  | tripRequest => exact whenUp_arrival_tagsKept h fun r u => u.takeTripRequest_outside r
  | sequenceStep => exact whenUp_arrival_tagsKept h fun _ u => u.takeStep_outside
  | openConfirmation => exact whenUp_arrival_tagsKept h fun ms u => u.takeOpen_outside ms
  | tripFail => exact whenUp_arrival_tagsKept h fun _ u => u.takeTripFail_outside
  | closeConfirmation => exact whenUp_arrival_tagsKept h fun _ u => u.takeClosed_outside
  | closeFail => exact whenUp_arrival_tagsKept h fun _ u => u.takeCloseFail_outside
  | unsolicitedClose => exact whenUp_arrival_tagsKept h fun _ u => u.externalClose_outside
  | unsolicitedOpen =>
    exact whenUp_event_tagsKept h (withAbort_tagsKept fun _ => onArrival_tagsKept fun d u =>
      tagsKept_of_outside (u.takeUnsolicitedOpen_outside d))
  | positionFault =>
    exact whenUp_event_tagsKept h (withAbort_tagsKept fun _ => onArrival_tagsKept fun _ u =>
      tagsKept_of_outside u.takePositionFault_outside)
  | openSeen => exact whenUp_event_tagsKept h (s.openSeen_tagsKept _ _)
  | pulseLimitExpiry => exact whenUp_event_tagsKept h (ifRuns_tagsKept (s.pulseEnd_tagsKept _ _))
  | storeWaitExpiry => exact whenUp_event_tagsKept h (ifRuns_tagsKept (s.storeWaitEnd_tagsKept _ _))
  | closedSeen => exact whenUp_event_tagsKept h (s.closedSeen_tagsKept _ _)
  | closePulseLimitExpiry => exact whenUp_event_tagsKept h (ifRuns_tagsKept (s.closePulseEnd_tagsKept _ _))
  | positionChange o d => exact whenUp_event_tagsKept h (s.contacts_tagsKept _ _ o d)
  | positionFaultTimerExpiry =>
    exact whenUp_event_tagsKept h (ifRuns_tagsKept (by rw [State.faultTimerOver_eq]; exact .of_items _ _))
  | firstPosition o d => exact whenUp_event_tagsKept h (s.firstContacts_tagsKept _ _ o d)
  | firstPositionTimeout => exact whenUp_event_tagsKept h (s.firstPosition_tagsKept _ _ _)
  | handleChange d => exact whenUp_outside_tagsKept h (s.handleReading_outside d)
  | readyInputChange id a => exact whenUp_event_tagsKept h (s.readyReading_tagsKept _ _ id a)
  | chargeLimitExpiry id | retryTimerExpiry id => exact whenUp_event_tagsKept h (ifRuns_tagsKept (.of_items _ _))
  | closeDemandExpiry | rslStoreWaitExpiry | ackTimerExpiry =>
    exact whenUp_event_tagsKept h (ifRuns_tagsKept (.of_items _ _))
  | deadTimerExpiry => exact whenUp_outside_tagsKept h (ifRuns_outside s.deadOver_outside)
  | energyWaitExpiry => exact whenUp_outside_tagsKept h (ifRuns_outside (s.toLockout_outside _))
  | reclaimExpiry => exact whenUp_outside_tagsKept h (ifRuns_outside s.reclaimOver_outside)
  | midpointTimerExpiry => exact whenUp_outside_tagsKept h (ifRuns_outside s.midpointOver_outside)
  | tieTimerExpiry => exact whenUp_outside_tagsKept h (ifRuns_outside s.tieOver_outside)
  | panelTrip => exact whenUp_outside_tagsKept h ((State.manualTrip_outside _ _).trans s.rearm_outside)
  | panelClose => exact whenUp_outside_tagsKept h (s.closeAsked_outside _)
  | nonrecloseChange on => exact whenUp_outside_tagsKept h (s.nonrecloseReading_outside on)
  | supplyOkChange a => exact whenUp_event_tagsKept h (s.supplyReading_tagsKept _ _ a)
  | testRetryExpiry => exact whenUp_event_tagsKept h (ifRuns_tagsKept (s.testRetryOver_tagsKept _ _))
  | loadTimerExpiry => exact whenUp_event_tagsKept h (ifRuns_tagsKept (s.loadOver_tagsKept _ _))
  | frameRejected => exact whenUp_event_tagsKept h (s.rejectFrame_tagsKept _ _)
  | receiveStatus | receiveSeqEvent | receiveTagNotice | receivePeerReport =>
    exact whenUp_frame_tagsKept h fun _ _ u => u.peerFrame_tagsKept _ _ _ _ _ _
  | receivePickup =>
    exact whenUp_frame_tagsKept h fun _ _ u =>
      (u.peerFrame_tagsKept _ _ _ _ _ _).trans (State.startQuiet_onlyLink _ _ _).onlyRadio.tagsKept
  | crewTrip =>
    exact whenUp_event_tagsKept h (withAbort_tagsKept fun _ => onFrame_tagsKept fun _ _ u =>
      tagsKept_of_outside (by simp [State.answer]))
  | crewClose => exact whenUp_frame_tagsKept h fun _ _ u => tagsKept_of_outside (by simp [State.answer])
  | crewStatusNow => exact whenUp_frame_tagsKept h fun q _ u => u.statusNow_tagsKept _ _ q
  | crewBatteryTest =>
    exact whenUp_frame_tagsKept h fun _ _ u =>
      (u.testAsked_tagsKept _ _).trans (State.askResult_onlyQueue _ _ _ _).tagsKept
  | crewRequestNotActedOn => exact whenUp_frame_tagsKept h fun _ _ u => .refl _ _ u
  | serialByteArrival b => exact whenUp_tagsKept h (linkEvent_tagsKept (s.serialByte_onlyRadio b))
  | receptionGapExpiry => exact whenUp_tagsKept h (linkEvent_tagsKept s.endReception_onlyRadio)
  | busyChange a =>
    cases h
    rw [if_pos up]
    exact linkEvent_tagsKept (s.busyLevel_onlyLink a).onlyRadio
  | collideActive => exact whenUp_link_tagsKept h s.collided_onlyLink
  | gapExpiry => exact whenUp_link_tagsKept h s.gapOver_onlyLink
  | backoffExpiry => exact whenUp_link_tagsKept h s.backoffOver_onlyLink
  | sendEnd => exact whenUp_link_tagsKept h s.sendOver_onlyLink
  | warmUpExpiry => exact whenUp_link_tagsKept h (ifRuns_onlyLink s s.warmUpOver_onlyLink)
  | listenWindowOpen => exact whenUp_link_tagsKept h s.openWindow_onlyLink
  | listenWindowClose => exact whenUp_link_tagsKept h s.closeWindow_onlyLink
  | listenHoldLimit | linkTimerExpiry => exact whenUp_link_tagsKept h (ifRuns_onlyLink s ⟨_, _, rfl⟩)
  | quietTimerExpiry => exact whenUp_link_tagsKept h (ifRuns_onlyLink s s.quietOver_onlyLink)
  | pickupLifeExpiry => exact whenUp_link_tagsKept h s.pickupLifeOver_onlyLink
  | statusPeriodExpiry => exact whenUp_link_tagsKept h (ifRuns_onlyLink s s.periodOver_onlyLink)

/-- Settles O13: of all commands only a TAG_PLACE and a TAG_REMOVE write the radio tags and only a CLEAR_UNKNOWN and
the HOTLINE switch turned off write TAG_UNKNOWN, which they clear. -/
theorem tagsChangeByCrewAlone : Obligations.TagsChangeByCrewAlone := by
  intro i s t up h
  have kept := exec_tagsKept up h
  refine ⟨fun set cleared => ?_, not_imp_comm.mp kept.tags, kept.unset⟩
  by_contra other
  have stands := kept.unknown other
  rw [set, cleared] at stands
  cases stands

end Sys2Proof.Machine
end

section
/-! A statement that fails (R61, R166 to R168): a first position that comes after the sequence has a state. -/

namespace Sys2Proof.Machine

open Sys2Proof.Safety

/-- A midpoint in WATCH with both sides DEAD, a t_mid of 0 and nothing against an opening, whose SQC is in TRIPPING while
its MDU has not decided the first position. -/
def midpointTrippingUnplaced : State :=
  let s := State.reset
  { s with
    sfe := { s.sfe with vs := { s.sfe.vs with state := .dead }, vl := { s.sfe.vl with state := .dead } }
    sqc := { s.sqc with state := some .tripping, nonreclose := false, nonrecloseRead := true }
    bcu := { s.bcu with cls := some .normal }
    stl := ⟨.up, { s.stl.image with role := .midpoint, fallbackVoltage := true }, s.stl.tables, none⟩ }

theorem midpointTrippingUnplaced_calm : Claims.Calm midpointTrippingUnplaced := by
  unfold Claims.Calm Settled
  decide +kernel

/-- The first position CLOSED and what settles after it. -/
def unplacedClosed : State := event (·.firstContacts false true) midpointTrippingUnplaced

theorem exec_unplacedClosed : exec (.firstPosition false true) midpointTrippingUnplaced = .next unplacedClosed := rfl

/-- The start state CLOSED is taken, TIMING entered and expired at once, and the midpoint opened (R61, R167, R168): the
SQC is in TRIPPING as before. -/
theorem unplacedClosed_opened :
    unplacedClosed.rsl.state = .opened ∧ unplacedClosed.rslInputs = midpointTrippingUnplaced.rslInputs ∧
      unplacedClosed.rsl.inhibit = none := by decide +kernel

/-- Refutes O57, in its first part: a calm midpoint opens from WATCH at a first position, the inputs that test the entry to
TIMING being the same before the command and after it, and no reclaim timer expiring.  Its SQC goes from TRIPPING by
CLOSED, where the entry is tested, to TRIPPING again.  The premises allow a sequence state beside a first position not yet
decided; no run from a start has both (R61, R63). -/
theorem not_restoration : ¬Obligations.Restoration := by
  rintro ⟨entered, -⟩
  obtain ⟨opened, inputs, inhibit⟩ := unplacedClosed_opened
  obtain ⟨-, opens, -⟩ := entered _ _ _ midpointTrippingUnplaced_calm exec_unplacedClosed rfl
  obtain ⟨tested | row, -⟩ := opens rfl opened
  · obtain row | vs | vl | state | pickup | reason := tested
    · cases row
    · exact vs (congrArg RslInputs.vs inputs).symm
    · exact vl (congrArg RslInputs.vl inputs).symm
    · exact state (congrArg RslInputs.state inputs).symm
    · exact pickup (congrArg RslInputs.anyPickup inputs).symm
    · exact reason inhibit.symm
  · cases row

end Sys2Proof.Machine
end

section
/-! What the operations of the sequence, the mechanism, the measurement chain, the battery, the tags and the frames leave
of the restoration logic: all of its state (R164). -/

namespace Sys2Proof.Machine

/-! ### Askings and the link -/

theorem OnlyLink.rsl {s t : State} (h : OnlyLink s t) : t.rsl = s.rsl := by
  obtain ⟨_, _, rfl⟩ := h
  rfl

theorem OnlyQueue.rsl {s t : State} (h : OnlyQueue s t) : t.rsl = s.rsl := h.onlyLink.rsl

@[simp] theorem State.askSeqEvent_rsl (s : State) (k : EventKind) : (s.askSeqEvent k).rsl = s.rsl :=
  (s.askSeqEvent_onlyQueue k).rsl

@[simp] theorem State.askResult_rsl (s : State) (n : Nat) (k : RequestKind) (o : RequestOutcome) :
    (s.askResult n k o).rsl = s.rsl := (s.askResult_onlyQueue n k o).rsl

@[simp] theorem State.askTagNotice_rsl (s : State) : s.askTagNotice.rsl = s.rsl := s.askTagNotice_onlyQueue.rsl

@[simp] theorem State.askBattery_rsl (s : State) : s.askBattery.rsl = s.rsl := s.askBattery_onlyQueue.rsl

@[simp] theorem State.abortTest_rsl (s : State) : s.abortTest.rsl = s.rsl := s.abortTest_onlyQueue.rsl

@[simp] theorem State.abortReview_rsl (s : State) : s.abortReview.rsl = s.rsl := by
  obtain h | h := s.abortReview_cases <;> simp [h]

@[simp] theorem State.startQuiet_rsl (s : State) (a : Uptime) (ms : Nat) : (s.startQuiet a ms).rsl = s.rsl :=
  (s.startQuiet_onlyLink a ms).rsl

@[simp] theorem State.listenReview_rsl (s : State) : s.listenReview.rsl = s.rsl := by
  obtain ⟨_, _, _, h⟩ := s.listenReview_frame
  rw [h]

/-! ### Trips (R41, R42, R51, R54, R58) -/

@[simp] theorem State.enter_rsl (s : State) (x : SeqState) (c : Option Cause) : (s.enter x c).rsl = s.rsl := by
  obtain ⟨_, h, -⟩ := s.enter_frame x c
  rw [h]

@[simp] theorem State.handState_rsl (s : State) : s.handState.rsl = s.rsl := by
  unfold State.handState
  split <;> rfl

@[simp] theorem State.toLockout_rsl (s : State) (c : Cause) : (s.toLockout c).rsl = s.rsl := by
  simp [State.toLockout]

@[simp] theorem State.enterStuck_rsl (s : State) (c : Cause) : (s.enterStuck c).rsl = s.rsl := by
  simp [State.enterStuck]

@[simp] theorem State.reclaim_rsl (s : State) (shot : Nat) : (s.reclaim shot).rsl = s.rsl := by
  simp [State.reclaim]

@[simp] theorem State.latestRms_rsl (s : State) : s.latestRms.2.rsl = s.rsl := by
  obtain ⟨_, h⟩ := s.latestRms_frame
  rw [h]

@[simp] theorem State.trip_rsl (s : State) (c : OpCause) (e : ElementSet) (r : Ch4 Nat) :
    (s.trip c e r).rsl = s.rsl := by
  obtain ⟨_, _, h, -⟩ := s.trip_frame c e r
  rw [h]

@[simp] theorem State.tripUnasked_rsl (s : State) (c : OpCause) : (s.tripUnasked c).rsl = s.rsl := by
  simp [State.tripUnasked]

@[simp] theorem State.stuckTrip_rsl (s : State) (c : OpCause) : (s.stuckTrip c).rsl = s.rsl := s.latestRms_rsl

@[simp] theorem State.takeTripRequest_rsl (s : State) (r : TripRequest) : (s.takeTripRequest r).rsl = s.rsl := by
  unfold State.takeTripRequest
  split <;> simp

@[simp] theorem State.manualTrip_rsl (s : State) (c : OpCause) : (s.manualTrip c).1.rsl = s.rsl := by
  unfold State.manualTrip
  split
  case h_9 => split <;> simp
  all_goals simp

@[simp] theorem State.restoreOpen_rsl (s : State) : s.restoreOpen.1.rsl = s.rsl := by
  unfold State.restoreOpen
  split <;> simp

/-! ### The hand-offs taken (R43, R46, R47, R56 to R58) -/

@[simp] theorem State.takeOpen_rsl (s : State) (ms : Nat) : (s.takeOpen ms).rsl = s.rsl := by
  have asked (u : State) (k : EventKind) : (u.askTripEvents k).rsl = u.rsl := by
    simp [State.askTripEvents]
  unfold State.takeOpen
  dsimp only
  split
  · split
    · split <;> simp [asked, State.enterDead]
    · simp [asked]
    · rfl
  · simp
  · rfl

@[simp] theorem State.takeTripFail_rsl (s : State) : s.takeTripFail.rsl = s.rsl := by
  unfold State.takeTripFail
  split <;> simp

@[simp] theorem State.takePositionFault_rsl (s : State) : s.takePositionFault.rsl = s.rsl := by
  unfold State.takePositionFault
  split <;> simp

@[simp] theorem State.takeClosed_rsl (s : State) : s.takeClosed.rsl = s.rsl := by
  unfold State.takeClosed
  split <;> simp

@[simp] theorem State.takeCloseFail_rsl (s : State) : s.takeCloseFail.rsl = s.rsl := by
  unfold State.takeCloseFail
  split <;> simp

@[simp] theorem State.takeStep_rsl (s : State) : s.takeStep.rsl = s.rsl := by
  unfold State.takeStep
  split <;> simp

@[simp] theorem State.takeUnsolicitedOpen_rsl (s : State) (h : Bool) : (s.takeUnsolicitedOpen h).rsl = s.rsl := by
  unfold State.takeUnsolicitedOpen
  split <;> simp

@[simp] theorem State.takeUnsolicitedClose_rsl (s : State) : s.takeUnsolicitedClose.rsl = s.rsl := by
  unfold State.takeUnsolicitedClose
  split <;> simp

/-! ### Closes, timers and switches (R44 to R54, R59) -/

@[simp] theorem State.beginClose_rsl (s : State) (src : CloseSource) : (s.beginClose src).rsl = s.rsl := by
  obtain ⟨_, _, _, h, -⟩ := s.beginClose_frame src
  rw [h]

@[simp] theorem State.manualClose_rsl (s : State) (src : CloseSource) : (s.manualClose src).1.rsl = s.rsl := by
  unfold State.manualClose
  split
  · rfl
  · split <;> simp

@[simp] theorem State.restoreClose_rsl (s : State) : s.restoreClose.1.rsl = s.rsl := by
  obtain ⟨_, _, _, h⟩ := s.restoreClose_frame
  rw [h]

@[simp] theorem State.closeStoreReady_rsl (s : State) : s.closeStoreReady.rsl = s.rsl := by
  unfold State.closeStoreReady
  split <;> simp

@[simp] theorem State.deadOver_rsl (s : State) : s.deadOver.rsl = s.rsl := by
  unfold State.deadOver
  dsimp only
  split_ifs <;> simp

@[simp] theorem State.reclaimOver_rsl (s : State) : s.reclaimOver.rsl = s.rsl := by
  simp [State.reclaimOver]

@[simp] theorem State.lockDead_rsl (s : State) (c : Cause) : (s.lockDead c).rsl = s.rsl := by
  unfold State.lockDead
  split <;> simp

@[simp] theorem State.nonrecloseReading_rsl (s : State) (on : Bool) : (s.nonrecloseReading on).rsl = s.rsl := by
  unfold State.nonrecloseReading
  dsimp only
  split <;> simp

@[simp] theorem State.handleReading_rsl (s : State) (down : Bool) : (s.handleReading down).rsl = s.rsl := by
  unfold State.handleReading
  dsimp only
  split <;> simp

@[simp] theorem State.classCutoff_rsl (s : State) : s.classCutoff.rsl = s.rsl := by
  unfold State.classCutoff
  dsimp only
  split <;> simp

/-! ### The mechanism (R63 to R70) -/

@[simp] theorem State.confirmOpen_rsl (s : State) : s.confirmOpen.rsl = s.rsl := rfl
@[simp] theorem State.confirmClosed_rsl (s : State) : s.confirmClosed.rsl = s.rsl := rfl
@[simp] theorem State.failTrip_rsl (s : State) : s.failTrip.rsl = s.rsl := rfl

@[simp] theorem State.pulseEnd_rsl (s : State) : s.pulseEnd.rsl = s.rsl := by
  unfold State.pulseEnd
  split <;> simp

@[simp] theorem State.storeWaitEnd_rsl (s : State) : s.storeWaitEnd.rsl = s.rsl := by
  unfold State.storeWaitEnd
  split <;> simp

@[simp] theorem State.openSeen_rsl (s : State) : s.openSeen.rsl = s.rsl := by
  unfold State.openSeen
  split <;> simp

@[simp] theorem State.closedSeen_rsl (s : State) : s.closedSeen.rsl = s.rsl := by
  unfold State.closedSeen
  split <;> simp

@[simp] theorem State.closePulseEnd_rsl (s : State) : s.closePulseEnd.rsl = s.rsl := by
  unfold State.closePulseEnd
  split <;> simp

@[simp] theorem State.contacts_rsl (s : State) (o c : Bool) : (s.contacts o c).rsl = s.rsl := by
  have moved (u : State) (x : Position) : (u.moved x).rsl = u.rsl := by
    unfold State.moved
    dsimp only
    split <;> rfl
  unfold State.contacts
  dsimp only
  split
  · rfl
  · split
    · rfl
    · split
      · simp [moved]
      · split <;> simp
      · split <;> simp

@[simp] theorem State.faultTimerOver_rsl (s : State) : s.faultTimerOver.rsl = s.rsl := by
  rw [State.faultTimerOver_eq]

@[simp] theorem State.firstPosition_rsl (s : State) (x : Position) : (s.firstPosition x).rsl = s.rsl := by
  have started (u : State) : (u.startState x).rsl = u.rsl := by
    cases x <;> simp [State.startState]
  unfold State.firstPosition
  split <;> simp [started]

@[simp] theorem State.firstContacts_rsl (s : State) (o c : Bool) : (s.firstContacts o c).rsl = s.rsl := by
  unfold State.firstContacts
  split <;> simp

/-! ### The measurement chain and the battery (R9, R16, R19, R80 to R98) -/

@[simp] theorem State.halfCycle_rsl (s : State) : s.halfCycle.rsl = s.rsl := by
  obtain ⟨_, _, h⟩ := State.evaluate_frame { s with sfe := s.halfSfe } s.halfRecord
  rw [State.halfCycle_eq]
  exact h.rsl

@[simp] theorem State.changeHealth_rsl (s : State) (f : Health Attribute → Health Attribute) :
    (s.changeHealth f).rsl = s.rsl := (s.changeHealth_onlyQueue f).rsl

@[simp] theorem State.chargedSecond_rsl (s : State) (m : Mean) : (s.chargedSecond m).rsl = s.rsl := by
  have exits (u : State) (mV : Int) : (u.chargerExit mV).rsl = u.rsl := by
    unfold State.chargerExit
    split
    · split <;> simp
    · split_ifs <;> simp
    · split <;> simp
    · rfl
    · rfl
  have counted (u : State) : (u.countCharge m).rsl = u.rsl := by
    unfold State.countCharge
    split <;> simp
  simp [State.chargedSecond, State.chargerStep, exits, counted]

@[simp] theorem State.evaluateClass_rsl (s : State) (m : Mean) : (s.evaluateClass m).rsl = s.rsl := by
  have published (u : State) (k : ReserveClass) : (u.publishClass k).rsl = u.rsl := by
    simp [State.publishClass, (State.startPeriod_onlyLink _).rsl, (State.takePower_onlyLink _ _).rsl]
  have cutoff (u : State) : (eitherOrder (·.changeHealth addDeepDischarge) State.classCutoff u).rsl = u.rsl := by
    obtain h | h := eitherOrder_cases (·.changeHealth addDeepDischarge) State.classCutoff u <;> simp [h]
  unfold State.evaluateClass
  dsimp only
  split_ifs <;> simp [published, cutoff]

@[simp] theorem State.oneSecond_rsl (s : State) : s.oneSecond.rsl = s.rsl := by
  have second (u : State) (m : Mean) : (u.batterySecond m).rsl = u.rsl :=
    ((u.chargedSecond m).evaluateClass_rsl m).trans (u.chargedSecond_rsl m)
  simp [State.oneSecond, second]

@[simp] theorem State.meanOr_rsl (s : State) (m : Option Mean) : (s.meanOr m).2.rsl = s.rsl := by
  cases m <;> rfl

@[simp] theorem State.scheduledAttempt_rsl (s : State) : s.scheduledAttempt.rsl = s.rsl :=
  s.scheduledAttempt_dayRolled.rsl

@[simp] theorem State.testRetryOver_rsl (s : State) : s.testRetryOver.rsl = s.rsl := by
  unfold State.testRetryOver
  dsimp only
  split <;> simp

@[simp] theorem State.loadOver_rsl (s : State) : s.loadOver.rsl = s.rsl := by
  unfold State.loadOver
  split
  · simp [State.endTest, State.applyResult]
  · rfl

@[simp] theorem State.supplyReading_rsl (s : State) (active : Bool) : (s.supplyReading active).rsl = s.rsl := by
  unfold State.supplyReading State.supplyChanged
  dsimp only
  split_ifs <;> simp

@[simp] theorem State.testAsked_rsl (s : State) : s.testAsked.1.rsl = s.rsl := by
  unfold State.testAsked State.beginTest
  split
  · rfl
  · simp

/-! ### The tags and the frames refused (R108, R154, R158 to R162) -/

@[simp] theorem State.changeTags_rsl (s : State) (on : Bool) {answer : State → State}
    (h : ∀ u, (answer u).rsl = u.rsl) (f : Retained → Retained) : (s.changeTags on answer f).rsl = s.rsl := by
  unfold State.changeTags
  dsimp only
  split
  · obtain e | e := eitherOrder_cases (fun u => (answer u).askTagNotice) (·.lockDead .tag)
      (State.retain { s with tgt := { s.tgt with hotlineOn := on } } f) <;> simp [e, h]
  · simp [h]

@[simp] theorem State.hotlineReading_rsl (s : State) (on : Bool) : (s.hotlineReading on).rsl = s.rsl := by
  unfold State.hotlineReading State.hotlineChanged
  split_ifs <;> simp

@[simp] theorem State.answerTags_rsl (s : State) (r : CrewRequest) (o : RequestOutcome)
    (f : Option (Retained → Retained)) : (s.answerTags r o f).rsl = s.rsl := by
  cases f <;> simp [State.answerTags]

@[simp] theorem State.placeRequest_rsl (s : State) (r : CrewRequest) : (s.placeRequest r).rsl = s.rsl := by
  unfold State.placeRequest
  split <;> simp

@[simp] theorem State.removeRequest_rsl (s : State) (r : CrewRequest) : (s.removeRequest r).rsl = s.rsl := by
  unfold State.removeRequest
  split <;> simp

@[simp] theorem State.clearRequest_rsl (s : State) (r : CrewRequest) : (s.clearRequest r).rsl = s.rsl := by
  unfold State.clearRequest
  split <;> simp

@[simp] theorem State.rejectFrame_rsl (s : State) : s.rejectFrame.rsl = s.rsl := by
  unfold State.rejectFrame
  split
  · next r _ _ =>
    split
    · rfl
    · obtain ⟨_, _, e⟩ := s.heard_frame r.arrival (s.classOf r)
      rw [e]
  · rfl

end Sys2Proof.Machine
end

section
/-! What the end of an event leaves settled, whatever the event has done (R75, R97, R107, R165 to R174). -/

namespace Sys2Proof.Machine

open Sys2Proof.Safety

/-! ### The restoration logic (R165 to R171, R174) -/

/-- The restoration logic has nothing left to do: the inhibit reason is formed, no exit is open, and the store wait stands
only in a class that allows it (R165, R167, R170, R171, R174). -/
structure Reviewed (s : State) : Prop where
  inhibit : s.rsl.inhibit = s.formInhibit
  exits : s.noExit
  wait : s.classAllowsRestore = true ∨ s.rsl.storeWait = none

/-- What the restoration logic looks at reads nothing else of the battery. -/
theorem BatteryEvent.reviewed {s t : State} (h : BatteryEvent s t) (k : Reviewed s) : Reviewed t where
  inhibit := by
    rw [h.rsl, k.inhibit]
    simp only [State.formInhibit, h.stl, h.idClash, h.sqc]
  exits := h.noExit k.exits
  wait := by simpa only [State.classAllowsRestore, h.cls, h.rsl] using k.wait

theorem Reviewed.stopWait {s : State} (h : Reviewed s) : Reviewed s.stopWait := ⟨h.inhibit, h.exits, .inr rfl⟩

/-- No exit is open behind the exits: WATCH and INHIBITED(AFTER_RESTORE) have none (R167, R170, R174). -/
theorem State.rslExits_noExit (s : State) : s.rslExits.noExit := by
  obtain ⟨mid, tie⟩ := s.rslExits_timing
  refine ⟨mid, tie, ?_⟩
  unfold State.rslExits
  split
  case h_1 state | h_2 state => split <;> simp [state, Rsl.toWatch]
  case h_3 state =>
    split
    · simp
    · next other => simp [state, other]
  case h_4 state =>
    split
    · simp [Rsl.toWatch]
    · next unknown => exact ⟨by simp [state], fun _ => by simpa [or_iff_not_imp_left] using unknown⟩
  case h_5 reason other state => simp [state, show reason ≠ .start from other]
  case h_6 state | h_7 state => simp [state]

/-- RESTORE_OPEN is taken in CLOSED, where it leads to TRIPPING (R54). -/
theorem State.restoreOpen_of_closed {s : State} (closed : s.sqc.state = some .closed) :
    ∃ q m n, s.restoreOpen = ({ s with sqc := q, mdu := m, free := n }, .accepted) ∧
      q.state = some .tripping ∧ q.nonreclose = s.sqc.nonreclose := by
  obtain ⟨n, rms⟩ := s.latestRms_frame
  rw [State.restoreOpen, if_pos closed, State.tripUnasked, rms]
  exact ⟨_, _, n, rfl, rfl, rfl⟩

/-- A check of a midpoint in CLOSED decides nothing, or opens it (R168). -/
theorem State.midpointCheck_cases {s : State} (closed : s.sqc.state = some .closed) :
    s.midpointCheck = s ∨ ∃ q m n, s.midpointCheck = State.rest { s with sqc := q, mdu := m, free := n } .opened ∧
      q.state = some .tripping ∧ q.nonreclose = s.sqc.nonreclose := by
  obtain ⟨q, m, n, opens, state, switch⟩ := State.restoreOpen_of_closed closed
  unfold State.midpointCheck
  rw [opens]
  split
  · exact .inr ⟨q, m, n, rfl, state, switch⟩
  · exact .inl rfl

theorem State.midpointCheck_reviewed {s : State} (closed : s.sqc.state = some .closed) (h : Reviewed s) :
    Reviewed s.midpointCheck := by
  obtain same | ⟨q, m, n, opened, state, switch⟩ := State.midpointCheck_cases closed
  · rwa [same]
  · rw [opened]
    refine ⟨h.inhibit.trans ?_, ⟨nofun, nofun, nofun, nofun⟩, .inr rfl⟩
    simp [State.formInhibit, closed, state, switch]

/-- The entry to TIMING opens no exit, and a midpoint that it opens at once has none (R167, R168, R170). -/
theorem State.rslEntry_reviewed {s : State} (h : Reviewed s) : Reviewed s.rslEntry := by
  unfold State.rslEntry
  split
  · split
    · next enters =>
      obtain ⟨holds, -⟩ := Bool.and_eq_true_iff.mp enters
      have closed : s.sqc.state = some .closed := by
        simp only [State.midpointHolds, Bool.and_eq_true, decide_eq_true_iff] at holds
        exact holds.1.1.1
      have timing (x : Option Timer) (e : Bool) :
          Reviewed { s with rsl := { s.rsl with state := .timing none, timer := x, expired := e } } :=
        ⟨h.inhibit, ⟨fun _ => holds, nofun, nofun, nofun⟩, h.wait⟩
      unfold State.midpointEnter
      dsimp only
      split
      · exact State.midpointCheck_reviewed closed (timing none true)
      · exact timing _ false
    · exact h
  · split
    · split
      · next holds =>
        exact ⟨h.inhibit, ⟨nofun, fun other entered => by cases entered; exact holds, nofun, nofun⟩, h.wait⟩
      · exact h
    · exact h
  · exact h

theorem State.rslReview_reviewed (s : State) (b : RslInputs) (x : Bool) : Reviewed (s.rslReview b x) := by
  let u : State := { s with rsl := { s.rsl with inhibit := s.formInhibit } }
  have exits : u.rslExits.rsl.inhibit = u.rslExits.formInhibit := by
    obtain ⟨_, only, inhibit, -⟩ := u.rslExits_onlyRsl
    rw [only]
    exact inhibit
  have waits : Reviewed (if u.rslExits.classAllowsRestore then u.rslExits else u.rslExits.stopWait) := by
    split
    · next allows => exact ⟨exits, u.rslExits_noExit, .inl allows⟩
    · exact ⟨exits, u.rslExits_noExit, .inr rfl⟩
  have tests {v : State} (h : Reviewed v) {p : Prop} [Decidable p] : Reviewed (if p then v.rslEntry else v) := by
    split
    · exact State.rslEntry_reviewed h
    · exact h
  exact tests waits

/-! ### The charger of the stores (R75, R76) -/

theorem Store.assign_on (t : Store) (now : Uptime) (limit : Nat) : (t.assign now limit).enable = true := by
  unfold Store.assign
  split
  · assumption
  · rfl

/-- A store that has the charger keeps it as it is (R75). -/
theorem Store.assign_of_on {t : Store} (on : t.enable = true) (now : Uptime) (limit : Nat) :
    t.assign now limit = t := if_pos on

/-- A store that is given the charger still wants it (R74, R75, R77). -/
theorem Store.assign_wants {t : Store} (wants : t.wants = true) (now : Uptime) (limit : Nat) :
    (t.assign now limit).wants = true := by
  unfold Store.assign
  split
  · exact wants
  · unfold Store.wants at wants ⊢
    cases state : t.state <;> simp_all

/-- A store that does not want the charger does not want it once it is withdrawn: of those that draw a charge, one in
FAULT goes to rest, and one not yet read stays so (R74, R75, R77). -/
theorem Store.withdraw_wants {t : Store} (unwanted : t.wants = false) (off : t.state = .ready → t.enable = false)
    (now : Uptime) : (t.withdraw now).wants = false := by
  unfold Store.withdraw
  split
  · exact unwanted
  · next on =>
    unfold Store.wants at unwanted ⊢
    split
    · simp [*]
    · cases state : t.state <;> simp_all

/-- The charger assigned anew is assigned as it was (R75). -/
theorem Mdu.assignCharger_idem {m : Mdu} (off : CloseOff m) (now : Uptime) (allowed : Bool) :
    (m.assignCharger now allowed).assignCharger now allowed = m.assignCharger now allowed := by
  let trip := if m.trip.wants then m.trip.assign now 20000 else m.trip
  have served : (!trip.wants && trip.isReady) = (!m.trip.wants && m.trip.isReady) := by
    simp only [trip]
    split
    · next wants => simp [wants, Store.assign_wants wants]
    · rfl
  refine (Mdu.assignCharger_eq (trip := trip) (close := (m.assignCharger now allowed).close) ?_ ?_).trans rfl
  · change (if trip.wants then trip.assign now 20000 else trip) = trip
    simp only [trip]
    split
    · next wants => rw [if_pos (Store.assign_wants wants _ _), Store.assign_of_on (Store.assign_on _ _ _)]
    · rfl
  · have close : (m.assignCharger now allowed).close =
        if !m.trip.wants && m.trip.isReady && m.close.wants && allowed then m.close.assign now 60000
        else m.close.withdraw now := rfl
    change (if !trip.wants && trip.isReady && (m.assignCharger now allowed).close.wants && allowed then
      (m.assignCharger now allowed).close.assign now 60000
      else (m.assignCharger now allowed).close.withdraw now) = (m.assignCharger now allowed).close
    rw [served, close]
    split
    · next given =>
      simp only [Bool.and_eq_true] at given
      obtain ⟨⟨gate, wants⟩, allows⟩ := given
      rw [if_pos (by simp [gate, Store.assign_wants wants, allows]), Store.assign_of_on (Store.assign_on _ _ _)]
    · next withheld =>
      have still : ¬(!m.trip.wants && m.trip.isReady && (m.close.withdraw now).wants && allowed) = true := by
        cases wants : m.close.wants
        · simp [Store.withdraw_wants wants off]
        · simp_all
      rw [if_neg still, Store.withdraw_of_off (m.close.withdraw_off now)]

/-- An assignment that finds nothing to do finds nothing to do at any other time (R75). -/
theorem Mdu.assignCharger_at {m : Mdu} {now : Uptime} {allowed : Bool} (h : m.assignCharger now allowed = m)
    (later : Uptime) : m.assignCharger later allowed = m := by
  have trip : (if m.trip.wants then m.trip.assign now 20000 else m.trip) = m.trip := congrArg Mdu.trip h
  have close : (if !m.trip.wants && m.trip.isReady && m.close.wants && allowed then m.close.assign now 60000
      else m.close.withdraw now) = m.close := congrArg Mdu.close h
  refine (Mdu.assignCharger_eq (trip := m.trip) (close := m.close) ?_ ?_).trans rfl
  · split
    · next wants =>
      rw [if_pos wants] at trip
      exact Store.assign_of_on (trip ▸ Store.assign_on _ _ _) _ _
    · rfl
  · split
    · next given =>
      rw [if_pos given] at close
      exact Store.assign_of_on (close ▸ Store.assign_on _ _ _) _ _
    · next withheld =>
      rw [if_neg withheld] at close
      exact Store.withdraw_of_off (close ▸ Store.withdraw_off _ _) _

/-! ### The end of an event -/

/-- What the end of an event looks at beside the reception has nothing left to do. -/
structure Assigned (s : State) : Prop extends Reviewed s where
  test : s.bcu.test = none ∨ s.abortHolds = false
  charger : s.chargerReview = s

theorem chargerReview_of_mdu {s : State}
    (h : s.mdu.assignCharger s.now (closeChargingAllowed s.bcu.cls s.closeDemand) = s.mdu) : s.chargerReview = s := by
  rw [State.chargerReview, h]

theorem Assigned.chargerStands {s : State} (h : Assigned s) :
    s.mdu.assignCharger s.now (closeChargingAllowed s.bcu.cls s.closeDemand) = s.mdu := congrArg State.mdu h.charger

/-- A station is settled with that, and with a reception in progress only while it listens (R107). -/
theorem settled_iff (s : State) :
    Settled s ↔ Assigned s ∧ (s.lnk.listenEnable = true ∨ s.lnk.reception = none) := by
  constructor
  · rintro ⟨inhibit, exits, wait, test, charger, listens⟩
    exact ⟨⟨⟨inhibit, s.rslExits_eq_self_iff.mp exits, wait⟩, test, charger⟩, listens⟩
  · rintro ⟨⟨⟨inhibit, exits, wait⟩, test, charger⟩, listens⟩
    exact ⟨inhibit, s.rslExits_eq_self_iff.mpr exits, wait, test, charger, listens⟩

/-- A change of the link that sets no ID_CLASH leaves what is assigned. -/
theorem OnlyRadio.assigned {s t : State} (h : OnlyRadio s t) (clash : t.lnk.idClash = s.lnk.idClash)
    (k : Assigned s) : Assigned t := by
  obtain ⟨_, _, _, rfl⟩ := h
  refine ⟨BatteryEvent.reviewed { idClash := clash } k.toReviewed, k.test, ?_⟩
  exact chargerReview_of_mdu k.chargerStands

/-- No byte is received but while the part listens (R107). -/
theorem State.listenReview_listens (s : State) :
    s.listenReview.lnk.listenEnable = true ∨ s.listenReview.lnk.reception = none := by
  unfold State.listenReview
  split
  · next on => exact .inl on
  · refine .inr ?_
    unfold State.endReception
    split
    · rfl
    · next silent => exact silent

@[simp] theorem State.endReception_idClash (s : State) : s.endReception.lnk.idClash = s.lnk.idClash := by
  obtain ⟨_, _, _, h⟩ := s.endReception_frame
  rw [h]

@[simp] theorem State.listenReview_idClash (s : State) : s.listenReview.lnk.idClash = s.lnk.idClash := by
  obtain ⟨_, _, _, h⟩ := s.listenReview_frame
  rw [h]

/-- The abort of a test and the charger's assignment leave what the restoration logic looks at. -/
theorem Reviewed.assigns {s : State} (h : Reviewed s) (off : CloseOff s.mdu) : Assigned s.abortReview.chargerReview := by
  have aborts : BatteryEvent s s.abortReview := by
    obtain same | aborted := s.abortReview_cases
    · rw [same]
      exact {}
    · rw [aborted]
      exact BatteryEvent.queue {} s.abortTest_onlyQueue
  have kept : CloseOff s.abortReview.mdu := aborts.mdu ▸ off
  obtain ⟨inhibit, exits, wait⟩ := aborts.reviewed h
  refine ⟨⟨inhibit, exits, wait⟩, ?_, ?_⟩
  · exact (State.chargerReview_conditioned kept s.abortReview_test exits.timing).test
  · exact chargerReview_of_mdu (Mdu.assignCharger_idem kept _ _)

/-- The end of an event leaves the part settled, whatever the event has done, as long as no READY close store draws a
charge. -/
theorem State.settle_settled {s : State} (off : CloseOff s.mdu) (b : RslInputs) (x : Bool) :
    Settled (s.settle b x) := by
  have kept : CloseOff (s.rslReview b x).mdu := (tends_of_outside True (s.rslReview_outside b x)).closeOff off
  have assigned := (s.rslReview_reviewed b x).assigns kept
  exact (settled_iff _).mpr ⟨(State.listenReview_onlyRadio _).assigned (State.listenReview_idClash _) assigned,
    State.listenReview_listens _⟩

end Sys2Proof.Machine
end

section
/-! The events of the link set no ID_CLASH (R103 to R121, R128, R132): the receive filter alone does (R110). -/

namespace Sys2Proof.Machine

theorem OnlyQueue.idClash {s t : State} (h : OnlyQueue s t) : t.lnk.idClash = s.lnk.idClash := by
  obtain ⟨_, _, _, _, rfl⟩ := h
  rfl

section
variable (s : State)

/-! ### Access and power -/

@[simp] theorem State.search_idClash : s.search.lnk.idClash = s.lnk.idClash := s.search_onlyQueue.idClash

@[simp] theorem State.returnSelected_idClash : s.returnSelected.lnk.idClash = s.lnk.idClash :=
  s.returnSelected_onlyQueue.idClash

@[simp] theorem State.join_idClash (c : Content) : (s.join c).lnk.idClash = s.lnk.idClash :=
  (s.join_onlyQueue c).idClash

@[simp] theorem State.sense_idClash : s.sense.lnk.idClash = s.lnk.idClash := by
  unfold State.sense
  dsimp only
  split
  · split <;> rfl
  · simp

@[simp] theorem State.passZeroBackoff_idClash : s.passZeroBackoff.lnk.idClash = s.lnk.idClash := by
  unfold State.passZeroBackoff
  split <;> simp

@[simp] theorem State.applyPower_idClash (p : RadioPower) : (s.applyPower p).lnk.idClash = s.lnk.idClash := by
  have selected (u : State) : u.returnUnselected.lnk.idClash = u.lnk.idClash := by
    unfold State.returnUnselected
    split
    · split <;> simp
    · simp
  unfold State.applyPower
  split_ifs
  · rfl
  · rfl
  · rfl
  · simp [selected]

@[simp] theorem State.applyPending_idClash : s.applyPending.lnk.idClash = s.lnk.idClash := by
  unfold State.applyPending
  split <;> simp

@[simp] theorem State.endAccess_idClash : s.endAccess.lnk.idClash = s.lnk.idClash := by
  simp [State.endAccess, Lnk.released]

@[simp] theorem State.startPeriod_idClash : s.startPeriod.lnk.idClash = s.lnk.idClash := by
  unfold State.startPeriod
  split <;> rfl

/-! ### The end of a send -/

@[simp] theorem State.leave_idClash (e : Entry) : (s.leave e).lnk.idClash = s.lnk.idClash := by
  unfold State.leave
  dsimp only
  split
  · split <;> simp
  · split <;> simp
  · rfl

@[simp] theorem State.cleanEnd_idClash (e : Entry) : (s.cleanEnd e).lnk.idClash = s.lnk.idClash := by
  unfold State.cleanEnd
  dsimp only
  split <;> simp

@[simp] theorem State.collidedEnd_idClash (e : Entry) : (s.collidedEnd e).lnk.idClash = s.lnk.idClash := by
  have stays (u : State) (n : Nat) : (u.afterCollision e n).lnk.idClash = u.lnk.idClash := by
    unfold State.afterCollision
    dsimp only
    split_ifs <;> simp [State.drawBackoff]
  unfold State.collidedEnd
  dsimp only
  split <;> simp [stays]

@[simp] theorem State.sendOver_idClash : s.sendOver.lnk.idClash = s.lnk.idClash := by
  unfold State.sendOver State.endSend
  dsimp only
  split
  · split
    · split <;> simp
    · simp
  · rfl

/-! ### The rows -/

@[simp] theorem State.serialByte_idClash (b : Byte) : (s.serialByte b).lnk.idClash = s.lnk.idClash := by
  unfold State.serialByte
  dsimp only
  split_ifs <;> simp [Lnk.takeByte]

@[simp] theorem State.busyLevel_idClash (a : Bool) : (s.busyLevel a).lnk.idClash = s.lnk.idClash := by
  have deferred (u : State) : u.endDeferral.lnk.idClash = u.lnk.idClash := by
    unfold State.endDeferral
    split
    · split <;> simp [State.drawBackoff]
    · simp
  unfold State.busyLevel
  dsimp only
  split <;> simp [deferred]

@[simp] theorem State.gapOver_idClash : s.gapOver.lnk.idClash = s.lnk.idClash := by
  unfold State.gapOver
  split <;> simp

@[simp] theorem State.backoffOver_idClash : s.backoffOver.lnk.idClash = s.lnk.idClash := by
  unfold State.backoffOver
  split <;> simp

@[simp] theorem State.collided_idClash : s.collided.lnk.idClash = s.lnk.idClash := by
  unfold State.collided
  split <;> rfl

@[simp] theorem State.warmUpOver_idClash : s.warmUpOver.lnk.idClash = s.lnk.idClash := State.search_idClash _

@[simp] theorem State.quietOver_idClash : s.quietOver.lnk.idClash = s.lnk.idClash := State.search_idClash _

@[simp] theorem State.openWindow_idClash : s.openWindow.lnk.idClash = s.lnk.idClash := by
  unfold State.openWindow
  split
  · split <;> rfl
  · rfl

@[simp] theorem State.closeWindow_idClash : s.closeWindow.lnk.idClash = s.lnk.idClash := by
  unfold State.closeWindow
  split
  · split <;> rfl
  · rfl

@[simp] theorem State.pickupLifeOver_idClash : s.pickupLifeOver.lnk.idClash = s.lnk.idClash := by
  unfold State.pickupLifeOver
  split
  · split
    · rfl
    · exact (s.dropEntry_onlyQueue _).idClash
  · rfl

@[simp] theorem State.periodOver_idClash : s.periodOver.lnk.idClash = s.lnk.idClash :=
  (State.startPeriod_idClash _).trans (State.statusDemand_onlyQueue _ _).idClash

end

end Sys2Proof.Machine
end

section
/-! What a command leaves at the end of its events: the part settled, and RESTORED entered at a check of the restoration
logic alone (R97, R107, R165 to R174). -/

namespace Sys2Proof.Machine

open Sys2Proof.Safety Sys2Proof.Claims

/-! ### RESTORED beside the checks (R164, R167, R168, R175) -/

/-- `t` is in RESTORED only where `s` is. -/
def Unrestored (s t : State) : Prop := t.rsl.state = .restored → s.rsl.state = .restored

theorem Unrestored.trans {s t u : State} (h : Unrestored s t) (k : Unrestored t u) : Unrestored s u := h ∘ k

theorem unrestored_of_rsl {s t : State} (h : t.rsl = s.rsl) : Unrestored s t := by
  rw [Unrestored, h]
  exact id

theorem unrestored_of_state {s t : State} (h : t.rsl.state ≠ .restored) : Unrestored s t := fun k => absurd k h

section
variable (s : State)

theorem State.rearm_unrestored : Unrestored s s.rearm := by
  unfold State.rearm
  split
  · exact unrestored_of_state nofun
  · exact id

theorem State.rearmLive_unrestored : Unrestored s s.rearmLive := by
  unfold State.rearmLive
  split
  · exact s.rearm_unrestored
  · exact id

theorem State.reopenWatch_unrestored : Unrestored s s.reopenWatch := by
  unfold State.reopenWatch
  split
  · exact unrestored_of_state nofun
  · exact id

theorem State.closeAsked_unrestored (src : CloseSource) : Unrestored s (s.closeAsked src).1 := by
  have asked : Unrestored s (s.rearm.manualClose src).1 :=
    s.rearm_unrestored.trans (unrestored_of_rsl (State.manualClose_rsl _ _))
  unfold State.closeAsked
  dsimp only
  split
  · exact asked.trans (State.reopenWatch_unrestored _)
  · exact asked

theorem State.externalClose_unrestored : Unrestored s s.externalClose := by
  have taken : Unrestored s s.takeUnsolicitedClose := unrestored_of_rsl s.takeUnsolicitedClose_rsl
  unfold State.externalClose
  split
  · exact taken.trans (State.reopenWatch_unrestored _)
  · exact taken

theorem State.statusNow_unrestored (r : CrewRequest) : Unrestored s (s.statusNow r) :=
  (unrestored_of_rsl (((s.askResult_onlyQueue _ _ _).trans (State.statusDemand_onlyQueue _ _)).rsl)).trans
    (State.rearmLive_unrestored _)

theorem State.midpointCheck_unrestored : Unrestored s s.midpointCheck := by
  have asked := s.restoreOpen_rsl
  unfold State.midpointCheck
  split
  · split
    · exact unrestored_of_state nofun
    · next e =>
      rw [e] at asked
      exact unrestored_of_rsl asked
  · exact id

theorem State.midpointOver_unrestored : Unrestored s s.midpointOver := by
  unfold State.midpointOver
  split
  · next state =>
    have checked : State.rslCheck { s with rsl := { s.rsl with timer := none, expired := true } } =
        State.midpointCheck { s with rsl := { s.rsl with timer := none, expired := true } } := by
      simp only [State.rslCheck, state, if_true]
    rw [checked]
    exact State.midpointCheck_unrestored _
  · exact id

theorem State.rslExits_unrestored : Unrestored s s.rslExits := by
  unfold State.rslExits
  split
  case h_1 | h_2 =>
    split
    · exact id
    · exact unrestored_of_state nofun
  case h_3 state => exact fun _ => state
  case h_4 =>
    split
    · exact unrestored_of_state nofun
    · exact id
  all_goals exact id

theorem State.rslEntry_unrestored : Unrestored s s.rslEntry := by
  unfold State.rslEntry
  split
  · split
    · unfold State.midpointEnter
      dsimp only
      split
      · exact Unrestored.trans (t := { s with rsl := { s.rsl with state := .timing none, timer := none, expired := true } })
          (unrestored_of_state nofun) (State.midpointCheck_unrestored _)
      · exact unrestored_of_state nofun
    · exact id
  · split
    · split
      · exact unrestored_of_state nofun
      · exact id
    · exact id
  · exact id

/-- The end of an event does not enter RESTORED. -/
theorem State.settle_unrestored (b : RslInputs) (x : Bool) : Unrestored s (s.settle b x) := by
  have waits (u : State) : Unrestored u (if u.classAllowsRestore then u else u.stopWait) := by
    split
    · exact id
    · exact id
  have tests (u : State) (p : Prop) [Decidable p] : Unrestored u (if p then u.rslEntry else u) := by
    split
    · exact u.rslEntry_unrestored
    · exact id
  have review : Unrestored s (s.rslReview b x) :=
    (State.rslExits_unrestored { s with rsl := { s.rsl with inhibit := s.formInhibit } }).trans
      ((waits _).trans (tests _ _))
  exact review.trans (unrestored_of_rsl (by simp [State.settle]))

end

/-! ### Pieces of an event -/

/-- `t` follows `s` within an event: what counts for the battery is kept, and RESTORED is entered under `c` alone. -/
structure Leads (c : Prop) (s t : State) : Prop extends Tends False s t where
  restored : ¬c → Unrestored s t

section
variable {c : Prop} {s t : State}

theorem Leads.refl (c : Prop) (s : State) : Leads c s s := ⟨.refl _ s, fun _ => id⟩

theorem Leads.trans {u : State} (h : Leads c s t) (k : Leads c t u) : Leads c s u :=
  ⟨h.toTends.trans k.toTends, fun n => (h.restored n).trans (k.restored n)⟩

/-- The two parts of an event, the later one first: its state is read off it. -/
theorem Leads.after {u : State} (k : Leads c t u) (h : Leads c s t) : Leads c s u := h.trans k

/-- A piece that leaves the restoration logic. -/
theorem Tends.leads (h : Tends False s t) (rsl : t.rsl = s.rsl := by simp) : Leads c s t :=
  ⟨h, fun _ => unrestored_of_rsl rsl⟩

/-- A piece of the sequence or of the restoration logic. -/
theorem leads_of_outside (h : t.outside = s.outside) (restored : ¬c → Unrestored s t) : Leads c s t :=
  ⟨tends_of_outside False h, restored⟩

theorem OnlyQueue.leads (h : OnlyQueue s t) : Leads c s t := (h.tends False).leads h.rsl

theorem ifRuns_leads {r : State → Option Timer} {f : State → State} (h : Leads c s (f s)) :
    Leads c s (ifRuns r f s) := by
  unfold ifRuns
  split
  · exact h
  · exact .refl c s

theorem withAbort_leads {f : State → State} (h : ∀ u, Leads c u (f u)) : Leads c s (withAbort f s) := by
  have drawn : Leads c s { s with free := s.free + 1 } := Tends.leads (.of_stands False) rfl
  have aborted (u : State) : Leads c u u.abortTest := (u.abortTest_tends False).leads
  obtain e | e | e := withAbort_cases f s <;> rw [e]
  · exact h s
  · exact drawn.trans ((aborted _).trans (h _))
  · exact drawn.trans ((h _).trans (aborted _))

theorem onArrival_leads {α : Type} {pick : Report → Option α} {f : α → State → State}
    (h : ∀ a u, Leads c u (f a u)) : Leads c s (onArrival pick f s) := by
  unfold onArrival
  split
  · exact (h _ _).after (Tends.leads (.of_stands False) rfl)
  · exact .refl c s

theorem onFrame_leads {α : Type} {pick : Frame → Option α} {f : α → Uptime → State → State}
    (h : ∀ a u t, Leads c t (f a u t)) : Leads c s (onFrame pick f s) := by
  unfold onFrame
  split
  · next r _ _ =>
    split
    · next m _ =>
      split
      · next a _ =>
        obtain ⟨l, x, e⟩ := s.heard_frame r.arrival (.accepted m)
        rw [e]
        exact (h a r.arrival _).after (Tends.leads (.of_stands False) rfl)
      · exact .refl c s
    · exact .refl c s
  · exact .refl c s

end

/-! ### Events -/

/-- `t` is what a command makes of `s`: settled where `s` is, and in RESTORED only where `s` is, or under `c`. -/
structure Settles (c : Prop) (s t : State) : Prop where
  settled : Settled s → Settled t
  restored : ¬c → Unrestored s t

section
variable {c : Prop} {s t : State}

theorem Settles.refl (c : Prop) (s : State) : Settles c s s := ⟨id, fun _ => id⟩

theorem Settles.trans {u : State} (h : Settles c s t) (k : Settles c t u) : Settles c s u :=
  ⟨k.settled ∘ h.settled, fun n => (h.restored n).trans (k.restored n)⟩

/-- What an event has done settles. -/
theorem settle_settles (h : Leads c s t) (b : RslInputs) (x : Bool) : Settles c s (t.settle b x) where
  settled k := by
    obtain ⟨-, off⟩ := conditioned_of_settled k
    exact State.settle_settled (h.closeOff off) b x
  restored n := (h.restored n).trans (t.settle_unrestored b x)

theorem event_settles {f : State → State} (h : Leads c s (f s)) : Settles c s (event f s) := settle_settles h _ _

/-- An event of the link leaves the part settled as long as it sets no ID_CLASH. -/
theorem linkEvent_settles {f : State → State} (h : OnlyRadio s (f s)) (clash : (f s).lnk.idClash = s.lnk.idClash) :
    Settles c s (linkEvent f s) where
  settled k := by
    obtain ⟨assigned, -⟩ := (settled_iff s).mp k
    exact (settled_iff _).mpr ⟨(h.trans (State.listenReview_onlyRadio _)).assigned (by simp [clash]) assigned,
      (f s).listenReview_listens⟩
  restored _ := by
    obtain ⟨_, _, _, e⟩ := h.trans (State.listenReview_onlyRadio _)
    exact unrestored_of_rsl (by rw [linkEvent, e])

theorem whenDue_settles {d : State → Bool} {f : State → State} (h : Settles c s (f s)) :
    Settles c s (whenDue d f s) := by
  unfold whenDue
  split
  · exact h
  · exact .refl c s

/-- A sample or a bit leaves the voltage states, which alone of the measurement chain the end of an event looks at. -/
theorem settles_of_sfe (f : Sfe) (vs : f.vs = s.sfe.vs) (vl : f.vl = s.sfe.vl) : Settles c s { s with sfe := f } := by
  refine ⟨fun k => ?_, fun _ => id⟩
  obtain ⟨assigned, listens⟩ := (settled_iff s).mp k
  have exits := assigned.exits
  simp only [State.noExit, State.midpointHolds, State.tieHolds, State.deadSide, ← vs, ← vl] at exits
  exact (settled_iff _).mpr ⟨⟨⟨assigned.inhibit, exits, assigned.wait⟩, assigned.test,
    chargerReview_of_mdu assigned.chargerStands⟩, listens⟩

/-- Nothing that is settled hangs on the uptime. -/
theorem settles_of_clock (x : Clock) : Settles c s { s with clock := x } := by
  refine ⟨fun k => ?_, fun _ => id⟩
  obtain ⟨assigned, listens⟩ := (settled_iff s).mp k
  exact (settled_iff _).mpr ⟨⟨⟨assigned.inhibit, assigned.exits, assigned.wait⟩, assigned.test,
    chargerReview_of_mdu (Mdu.assignCharger_at assigned.chargerStands _)⟩, listens⟩

end

end Sys2Proof.Machine
end

section
/-! What every command and every step leaves settled, and the rows at which RESTORED may be entered (R75, R97, R107, R165
to R174). -/

namespace Sys2Proof.Machine

open Sys2Proof.Safety Sys2Proof.Claims

/-! ### The measurement chain (R1 to R16, R92) -/

section
variable (c : Prop) (s : State)

theorem State.halfCycleEvent_settles : Settles c s s.halfCycleEvent :=
  event_settles (withAbort_leads fun u => (u.halfCycle_tends False).leads)

theorem State.dayEvent_settles : Settles c s s.dayEvent :=
  event_settles ((s.rollDay_tends False).leads s.rollDay_dayRolled.rsl)

theorem State.secondEvent_settles : Settles c s s.secondEvent :=
  (whenDue_settles (s.dayEvent_settles c)).trans (event_settles (State.oneSecond_tends False _).leads)

theorem State.sampleEvent_settles : Settles c s s.sampleEvent := by
  have half (u : State) : Settles c u (whenDue State.halfDue State.halfCycleEvent u) :=
    whenDue_settles (u.halfCycleEvent_settles c)
  have second (u : State) : Settles c u (whenDue State.secondDue State.secondEvent u) :=
    whenDue_settles (u.secondEvent_settles c)
  have voltages (f : Sfe) (aI aV : Nat) : (f.sample aI aV).vs = f.vs ∧ (f.sample aI aV).vl = f.vl := by
    unfold Sfe.sample
    dsimp only
    split <;> exact ⟨rfl, rfl⟩
  obtain ⟨vs, vl⟩ := voltages (whenDue State.secondDue State.secondEvent
    (whenDue State.halfDue State.halfCycleEvent s)).sfe _ _
  exact ((half s).trans (second _)).trans (settles_of_sfe _ vs vl)

theorem State.bitsEvent_settles (b : Byte) : Settles c s (s.bitsEvent b) :=
  (whenDue_settles (s.sampleEvent_settles c)).trans (settles_of_sfe _ rfl rfl)

end

/-! ### Every command -/

/-- The rows at which the restoration logic of a tie makes a check: its timer's expiry, a second, a table-change notice,
and the close store READY in its store wait (R148, R166, R171, R173). -/
def makesCheck : Instr → Bool
  | .readyInputChange _ _ | .receiveStatus | .receivePickup | .receiveSeqEvent | .receiveTagNotice
  | .receivePeerReport | .timeBaseSecond | .tieTimerExpiry => true
  | _ => false

section
variable {c : Prop} {f : State → State} {s t : State}

theorem whenUp_settles (h : whenUp f s = .next t) (k : Settles c s (f s)) : Settles c s t := by
  rw [whenUp_next.mp h]
  split
  · exact k
  · exact .refl c s

theorem whenUp_event_settles (h : whenUp (event f) s = .next t) (k : Leads c s (f s)) : Settles c s t :=
  whenUp_settles h (event_settles k)

/-- A command of the sequence, the operations or the restoration logic, which leaves their outside. -/
theorem whenUp_outside_settles (h : whenUp (event f) s = .next t) (out : (f s).outside = s.outside)
    (rsl : (f s).rsl = s.rsl := by simp) : Settles c s t :=
  whenUp_event_settles h ((tends_of_outside False out).leads rsl)

theorem whenUp_arrival_settles {α : Type} {pick : Report → Option α} {g : α → State → State}
    (h : whenUp (event (onArrival pick g)) s = .next t) (out : ∀ a u, (g a u).outside = u.outside)
    (restored : ∀ a u, Unrestored u (g a u) := by exact fun _ _ => unrestored_of_rsl (by simp)) : Settles c s t :=
  whenUp_event_settles h (onArrival_leads fun a u => leads_of_outside (out a u) fun _ => restored a u)

theorem whenUp_link_settles (h : whenUp (linkEvent f) s = .next t) (k : OnlyLink s (f s))
    (clash : (f s).lnk.idClash = s.lnk.idClash := by simp) : Settles c s t :=
  whenUp_settles h (linkEvent_settles k.onlyRadio clash)

/-- The level of BUSY kept before the part is up. -/
theorem settles_of_busy (a : Bool) : Settles c s { s with lnk := { s.lnk with busy := a } } := by
  refine ⟨fun k => ?_, fun _ => id⟩
  obtain ⟨assigned, listens⟩ := (settled_iff s).mp k
  exact (settled_iff _).mpr ⟨OnlyRadio.assigned ⟨_, s.txq, s.transit, rfl⟩ rfl assigned, listens⟩

theorem ifRuns_idClash {r : State → Option Timer} (h : (f s).lnk.idClash = s.lnk.idClash) :
    (ifRuns r f s).lnk.idClash = s.lnk.idClash := by
  unfold ifRuns
  split
  · exact h
  · rfl

/-- A frame that reaches the peer table makes a check (R148). -/
theorem State.peerFrame_leads (check : c) (u : State) (id : Nat) (a : Uptime) (g : Option Segments)
    (set : PeerEntry → PeerEntry) : Leads c u (u.peerFrame id a g set) :=
  ⟨u.peerFrame_tends False id a g set, absurd check⟩

/-- A request acted on, with its answer. -/
theorem State.answer_leads (r : CrewRequest) (u : State) (p : State × RequestOutcome) (out : p.1.outside = u.outside)
    (restored : Unrestored u p.1) : Leads c u (State.answer p r) :=
  (leads_of_outside out fun _ => restored).trans (p.1.askResult_onlyQueue _ _ _).leads

end

/-- A command that is no part of a start leaves a settled part settled, and enters RESTORED at a check alone. -/
theorem exec_settles {i : Instr} {s t : State} (hi : ofStart i = false) (h : exec i s = .next t) :
    Settles (makesCheck i = true) s t := by
  cases i with
  | restartInput | supplyReturn | settingsWordRead | settingsWordTimeout => exact Bool.noConfusion hi
  | modulatorBit b => exact whenUp_settles (f := (·.bitsEvent b)) h (s.bitsEvent_settles _ b)
  | decimatedSample => exact whenUp_settles h (whenDue_settles (s.sampleEvent_settles _))
  | halfCycleUpdate => exact whenUp_settles h (whenDue_settles (s.halfCycleEvent_settles _))
  | oneSecondUpdate => exact whenUp_settles h (whenDue_settles (s.secondEvent_settles _))
  | dayRollover => exact whenUp_settles h (whenDue_settles (s.dayEvent_settles _))
  | tripRequest => exact whenUp_arrival_settles h fun r u => u.takeTripRequest_outside r
  | sequenceStep => exact whenUp_arrival_settles h fun _ u => u.takeStep_outside
  | openConfirmation => exact whenUp_arrival_settles h fun ms u => u.takeOpen_outside ms
  | tripFail => exact whenUp_arrival_settles h fun _ u => u.takeTripFail_outside
  | closeConfirmation => exact whenUp_arrival_settles h fun _ u => u.takeClosed_outside
  | closeFail => exact whenUp_arrival_settles h fun _ u => u.takeCloseFail_outside
  | unsolicitedClose =>
    exact whenUp_arrival_settles h (fun _ u => u.externalClose_outside) fun _ u => u.externalClose_unrestored
  | unsolicitedOpen =>
    exact whenUp_event_settles h (withAbort_leads fun _ => onArrival_leads fun d u =>
      (tends_of_outside _ (u.takeUnsolicitedOpen_outside d)).leads)
  | positionFault =>
    exact whenUp_event_settles h (withAbort_leads fun _ => onArrival_leads fun _ u =>
      (tends_of_outside _ u.takePositionFault_outside).leads)
  | openSeen => exact whenUp_event_settles h (s.openSeen_tends _).leads
  | pulseLimitExpiry => exact whenUp_event_settles h (ifRuns_leads (s.pulseEnd_tends _).leads)
  | storeWaitExpiry => exact whenUp_event_settles h (ifRuns_leads (s.storeWaitEnd_tends _).leads)
  | closedSeen => exact whenUp_event_settles h (s.closedSeen_tends _).leads
  | closePulseLimitExpiry => exact whenUp_event_settles h (ifRuns_leads (s.closePulseEnd_tends _).leads)
  | positionChange o c => exact whenUp_event_settles h (s.contacts_tends _ o c).leads
  | positionFaultTimerExpiry => exact whenUp_event_settles h (ifRuns_leads (s.faultTimerOver_tends _).leads)
  | firstPosition o c => exact whenUp_event_settles h (s.firstContacts_tends _ o c).leads
  | firstPositionTimeout => exact whenUp_event_settles h (s.firstPosition_tends _ _).leads
  | handleChange d => exact whenUp_outside_settles h (s.handleReading_outside d)
  | readyInputChange id a => exact whenUp_event_settles h ⟨s.readyReading_tends _ id a, absurd rfl⟩
  | chargeLimitExpiry id => exact whenUp_event_settles h (ifRuns_leads (s.chargeOver_tends _ id).leads)
  | retryTimerExpiry id => exact whenUp_event_settles h (ifRuns_leads ((s.retryOver_tends _ id).leads rfl))
  | deadTimerExpiry =>
    exact whenUp_event_settles h (ifRuns_leads (tends_of_outside _ s.deadOver_outside).leads)
  | energyWaitExpiry =>
    exact whenUp_event_settles h (ifRuns_leads ((tends_of_outside _ (s.toLockout_outside _)).leads (s.toLockout_rsl _)))
  | reclaimExpiry => exact whenUp_event_settles h (ifRuns_leads (tends_of_outside _ s.reclaimOver_outside).leads)
  | closeDemandExpiry => exact whenUp_event_settles h (ifRuns_leads ((Tends.of_stands _).leads rfl))
  | rslStoreWaitExpiry =>
    exact whenUp_event_settles h (ifRuns_leads ⟨.of_stands _, fun _ => unrestored_of_state nofun⟩)
  | panelTrip =>
    exact whenUp_event_settles h (leads_of_outside ((State.manualTrip_outside _ _).trans s.rearm_outside) fun _ =>
      s.rearm_unrestored.trans (unrestored_of_rsl (State.manualTrip_rsl _ _)))
  | panelClose =>
    exact whenUp_event_settles h (leads_of_outside (s.closeAsked_outside _) fun _ => s.closeAsked_unrestored _)
  | nonrecloseChange on => exact whenUp_outside_settles h (s.nonrecloseReading_outside on)
  | supplyOkChange a => exact whenUp_event_settles h (s.supplyReading_tends _ a).leads
  | testRetryExpiry => exact whenUp_event_settles h (ifRuns_leads (s.testRetryOver_tends _ id).leads)
  | loadTimerExpiry => exact whenUp_event_settles h (ifRuns_leads (s.loadOver_tends _ id).leads)
  | frameRejected => exact whenUp_event_settles h (s.rejectFrame_tends _).leads
  | receiveStatus | receiveSeqEvent | receiveTagNotice | receivePeerReport =>
    exact whenUp_event_settles h (onFrame_leads fun _ _ u => u.peerFrame_leads rfl _ _ _ _)
  | receivePickup =>
    exact whenUp_event_settles h (onFrame_leads fun _ _ u =>
      (u.peerFrame_leads rfl _ _ _ _).trans ((State.startQuiet_onlyLink _ _ _).tends _).leads)
  | crewTagPlace =>
    exact whenUp_event_settles h (onFrame_leads fun r _ u => (u.placeRequest_tends _ r).leads)
  | crewTagRemove =>
    exact whenUp_event_settles h (onFrame_leads fun r _ u => (u.removeRequest_tends _ r).leads)
  | crewClearUnknown =>
    exact whenUp_event_settles h (onFrame_leads fun r _ u => (u.clearRequest_tends _ r).leads)
  | crewTrip =>
    exact whenUp_event_settles h (withAbort_leads fun _ => onFrame_leads fun r _ u =>
      State.answer_leads r u _ ((State.manualTrip_outside _ _).trans u.rearm_outside)
        (u.rearm_unrestored.trans (unrestored_of_rsl (State.manualTrip_rsl _ _))))
  | crewClose =>
    exact whenUp_event_settles h (onFrame_leads fun r _ u =>
      State.answer_leads r u _ (u.closeAsked_outside _) (u.closeAsked_unrestored _))
  | crewStatusNow =>
    exact whenUp_event_settles h (onFrame_leads fun r _ u =>
      ⟨u.statusNow_tends _ r, fun _ => u.statusNow_unrestored r⟩)
  | crewBatteryTest =>
    exact whenUp_event_settles h (onFrame_leads fun r _ u =>
      (u.testAsked_tends _).leads.trans (State.askResult_onlyQueue _ _ _ _).leads)
  | crewRequestNotActedOn => exact whenUp_event_settles h (onFrame_leads fun _ _ u => .refl _ u)
  | hotlineSwitchChange on => exact whenUp_event_settles h (s.hotlineReading_tends _ on).leads
  | ackTimerExpiry => exact whenUp_event_settles h (ifRuns_leads ((Tends.of_stands _).leads rfl))
  | timeBaseSecond =>
    exact whenUp_settles h (settle_settles
      ⟨(tends_of_outside _ (State.rslCheck_outside _)).after (.of_stands _), absurd rfl⟩ _ _)
  | midpointTimerExpiry =>
    exact whenUp_event_settles h (ifRuns_leads
      (leads_of_outside s.midpointOver_outside fun _ => s.midpointOver_unrestored))
  | tieTimerExpiry => exact whenUp_event_settles h (ifRuns_leads (leads_of_outside s.tieOver_outside (absurd rfl)))
  | serialByteArrival b =>
    exact whenUp_settles h (linkEvent_settles (s.serialByte_onlyRadio b) (s.serialByte_idClash b))
  | receptionGapExpiry => exact whenUp_settles h (linkEvent_settles s.endReception_onlyRadio s.endReception_idClash)
  | busyChange a =>
    cases h
    split
    · exact linkEvent_settles (s.busyLevel_onlyLink a).onlyRadio (s.busyLevel_idClash a)
    · exact settles_of_busy a
  | collideActive => exact whenUp_link_settles h s.collided_onlyLink
  | gapExpiry => exact whenUp_link_settles h s.gapOver_onlyLink
  | backoffExpiry => exact whenUp_link_settles h s.backoffOver_onlyLink
  | sendEnd => exact whenUp_link_settles h s.sendOver_onlyLink
  | warmUpExpiry =>
    exact whenUp_link_settles h (ifRuns_onlyLink s s.warmUpOver_onlyLink) (ifRuns_idClash s.warmUpOver_idClash)
  | listenWindowOpen => exact whenUp_link_settles h s.openWindow_onlyLink
  | listenWindowClose => exact whenUp_link_settles h s.closeWindow_onlyLink
  | listenHoldLimit | linkTimerExpiry =>
    exact whenUp_link_settles h (ifRuns_onlyLink s ⟨_, _, rfl⟩) (ifRuns_idClash rfl)
  | quietTimerExpiry =>
    exact whenUp_link_settles h (ifRuns_onlyLink s s.quietOver_onlyLink) (ifRuns_idClash s.quietOver_idClash)
  | pickupLifeExpiry => exact whenUp_link_settles h s.pickupLifeOver_onlyLink
  | statusPeriodExpiry =>
    exact whenUp_link_settles h (ifRuns_onlyLink s s.periodOver_onlyLink) (ifRuns_idClash s.periodOver_idClash)

end Sys2Proof.Machine
end

section
/-! Every step leaves the part settled: its start, its commands and its idle steps (R97, R107, R165 to R174, R178). -/

namespace Sys2Proof.Machine

open Sys2Proof.Safety Sys2Proof.Claims

/-- The states of a start read no voltage (R164, R187). -/
theorem State.noExit_of_unread {s : State} (rest : s.rsl.state = .watch ∨ s.rsl.state = .inhibited .start)
    (unread : s.sfe.vs.state = .unknown) : s.noExit := by
  obtain state | state := rest
  · exact ⟨by simp [state], by simp [state], by simp [state], by simp [state]⟩
  · exact ⟨by simp [state], by simp [state], by simp [state], fun _ => .inl unread⟩

/-- A demand of a STATUS leaves the part settled. -/
theorem Assigned.statusDemand_settled {s : State} (h : Assigned s) (silent : s.lnk.reception = none) (r : Reason) :
    Settled (s.statusDemand r) := by
  have demand := s.statusDemand_onlyQueue r
  refine (settled_iff _).mpr ⟨demand.onlyLink.onlyRadio.assigned demand.idClash h, .inr ?_⟩
  obtain ⟨_, _, _, _, e⟩ := demand
  rw [e]
  exact silent

/-- The part comes up settled: the voltages are not yet read, the stores' READY lines neither, and nothing runs. -/
theorem State.bringUp_settled (s : State) (b : List Word16) : Settled (s.bringUp b) := by
  have rest : (Rsl.bringUp (freeze b).image.role).state = .watch ∨
      (Rsl.bringUp (freeze b).image.role).state = .inhibited .start := by
    unfold Rsl.bringUp
    split
    · exact .inr rfl
    · exact .inl rfl
  refine Assigned.statusDemand_settled ⟨⟨rfl, State.noExit_of_unread rest rfl, .inr rfl⟩, .inl rfl, ?_⟩ rfl .start
  exact chargerReview_of_mdu rfl

/-- A command of a start leaves the part reading its block, or brings it up settled (R178). -/
theorem exec_start_settled {i : Instr} {s t : State} (sound : SettledWhenUp s) (hi : ofStart i = true)
    (h : exec i s = .next t) : SettledWhenUp t := by
  have word (w : Word16) : SettledWhenUp (s.takeWord w) := by
    unfold State.takeWord
    split
    · split
      · intro up
        simp [State.up] at up
      · exact fun _ => s.bringUp_settled _
    · exact sound
  cases i with
  | restartInput | supplyReturn =>
    cases h
    intro up
    simp [State.up, State.startOver] at up
  | settingsWordRead w => cases h; exact word w
  | settingsWordTimeout => cases h; exact word _
  | _ => exact Bool.noConfusion hi

theorem exec_settled {i : Instr} {s t : State} (sound : SettledWhenUp s) (h : exec i s = .next t) :
    SettledWhenUp t := by
  cases hi : ofStart i with
  | true => exact exec_start_settled sound hi h
  | false =>
    intro up
    rw [State.up, (exec_ended hi h).stl] at up
    exact (exec_settles hi h).settled (sound up)

/-- The queue of commands is no part of what is settled. -/
theorem settled_withPending {s : State} (h : Settled s) (queue : List Instr) : Settled { s with pending := queue } := by
  obtain ⟨⟨⟨inhibit, exits, wait⟩, test, charger⟩, listens⟩ := (settled_iff s).mp h
  exact (settled_iff _).mpr ⟨⟨⟨inhibit, exits, wait⟩, test, chargerReview_of_mdu (congrArg State.mdu charger)⟩, listens⟩

/-- Settles O5: the end of every event leaves the part settled, an event of the link leaves what it looks at, and the
part comes up settled. -/
theorem settledHolds : Obligations.SettledHolds := by
  intro s t sound h
  obtain ⟨i, rest, -, ran⟩ | rfl := step_cases h
  · exact exec_settled (s := { s with pending := rest }) (fun up => settled_withPending (sound up) rest) ran
  · unfold State.idle
    split
    · split
      · exact fun up => settled_withPending (sound up) _
      · exact fun up => (settles_of_clock (c := False) _).settled (sound up)
    · exact sound

end Sys2Proof.Machine
end

section
/-! The restoration close (R163, R171 to R173): what the check that begins it finds, and what stands of that at the end of
its command. -/

namespace Sys2Proof.Machine

open Sys2Proof.Safety Sys2Proof.Claims

/-! ### A close begun (R171 to R173) -/

/-- The peers' answers on the dead segment let a tie close: the finding is the consent, and no peer tags it (R163,
R172). -/
structure Consented (s : State) (side : Side) : Prop where
  finding : tieFinding s.stl.image.fallbackVoltage s.rsl.fallbackDue
    (s.feedingAnswer (deadSegment s.stl.image side)) = .consent
  clear : deadSegment s.stl.image side ≠ 0 → s.taggingPeers (deadSegment s.stl.image side) = []

/-- A restoration close begins from `s`, with the answers that `t` shows. -/
structure RestoreBegun (s t : State) : Prop where
  timing : ∃ side, s.rsl.state = .timing (some side) ∧ Consented t side
  bar : s.closeBar = none
  cls : s.classAllowsRestore = true
  closing : t.sqc.state = some .closing
  source : t.sqc.closeSource = some .restore

/-- `t` is in RESTORED where `s` is, or by a close that begins. -/
def Restores (s t : State) : Prop := t.rsl.state = .restored → s.rsl.state = .restored ∨ RestoreBegun s t

section
variable {s t u : State}

theorem Unrestored.restores (h : Unrestored s t) : Restores s t := fun k => .inl (h k)

theorem Restores.refl (s : State) : Restores s s := .inl

/-- The answers read the peer table, the time, the image and the mark of the fallback. -/
theorem Consented.stands {side : Side} (h : Consented t side) (stl : u.stl = t.stl) (pvt : u.pvt = t.pvt)
    (clock : u.clock = t.clock) (due : u.rsl.fallbackDue = t.rsl.fallbackDue) : Consented u side := by
  have feeding (g : Nat) : u.feedingAnswer g = t.feedingAnswer g := by
    simp only [State.feedingAnswer, State.feedingPeer, State.candidates, State.now, stl, pvt, clock]
  have tagging (g : Nat) : u.taggingPeers g = t.taggingPeers g := by
    simp only [State.taggingPeers, State.now, stl, pvt, clock]
  obtain ⟨finding, clear⟩ := h
  exact ⟨by rwa [feeding, stl, due], by rwa [tagging, stl]⟩

theorem RestoreBegun.stands (h : RestoreBegun s t) (sqc : u.sqc = t.sqc) (stl : u.stl = t.stl) (pvt : u.pvt = t.pvt)
    (clock : u.clock = t.clock) (due : u.rsl.fallbackDue = t.rsl.fallbackDue) : RestoreBegun s u := by
  obtain ⟨⟨side, timing, consented⟩, bar, cls, closing, source⟩ := h
  exact ⟨⟨side, timing, consented.stands stl pvt clock due⟩, bar, cls, sqc ▸ closing, sqc ▸ source⟩

/-- What is done before a check leaves what the check reads of the station itself. -/
theorem Restores.after (h : Restores t u) (state : t.rsl.state = s.rsl.state := by rfl)
    (bar : t.closeBar = s.closeBar := by rfl) (cls : t.bcu.cls = s.bcu.cls := by rfl) : Restores s u := by
  intro restored
  refine (h restored).imp (state ▸ ·) ?_
  rintro ⟨⟨side, timing, consented⟩, none, allows, closing, source⟩
  exact ⟨⟨side, state ▸ timing, consented⟩, bar ▸ none, by rwa [State.classAllowsRestore, ← cls], closing, source⟩

/-- A change of the link after a check. -/
theorem Restores.link (h : Restores s t) (k : OnlyLink t u) : Restores s u := by
  obtain ⟨_, _, rfl⟩ := k
  exact fun restored => (h restored).imp_right (·.stands rfl rfl rfl rfl rfl)

end

/-! ### The check (R171 to R173) -/

/-- RESTORE_CLOSE taken begins a close of its own source (R52, R54). -/
theorem State.restoreClose_accepted {s t : State} (h : s.restoreClose = (t, .accepted)) :
    s.closeBar = none ∧ t = s.beginClose .restore := by
  unfold State.restoreClose at h
  split at h
  · next bar =>
    unfold State.closeBar at bar
    split_ifs at bar <;> cases bar <;> cases h
  · next bar =>
    split at h <;> cases h
    exact ⟨bar, rfl⟩

/-- A tie that is in RESTORED after step 5 of its check has begun a close there (R173). -/
theorem State.tieClose_restored {s : State} (before : s.rsl.state ≠ .restored)
    (restored : s.tieClose.rsl.state = .restored) :
    s.closeBar = none ∧ s.tieClose = (s.beginClose .restore).rest .restored := by
  have kept := s.restoreClose_rsl
  unfold State.tieClose at restored ⊢
  split_ifs at restored ⊢
  · split at restored
    · next t asked =>
      obtain ⟨bar, rfl⟩ := State.restoreClose_accepted asked
      exact ⟨bar, rfl⟩
    · next asked =>
      rw [asked] at kept
      exact absurd (kept ▸ restored) before
  · exact absurd restored before
  · exact absurd restored nofun
  · exact absurd restored before

/-- A check of a dead side (R171): the findings of R172 and the conditions of the close. -/
theorem State.tieCheck_restores {s : State} {side : Side} (timing : s.rsl.state = .timing (some side)) :
    Restores s (s.tieCheck side) := by
  intro restored
  have before : s.rsl.state ≠ .restored := by simp [timing]
  unfold State.tieCheck at restored ⊢
  dsimp only at restored ⊢
  split at restored
  · exact absurd restored nofun
  · exact absurd restored before
  · next finding =>
    split at restored
    · next asked =>
      obtain ⟨⟨answer, -⟩, allows⟩ : (_ ∧ _) ∧ _ := by
        simpa only [Bool.and_eq_true, decide_eq_true_iff, Bool.not_eq_true'] using asked
      obtain ⟨-, clear⟩ := (s.tagAnswer_eq_clear _).mp answer
      obtain ⟨bar, begun⟩ := State.tieClose_restored before restored
      obtain ⟨q, m, r, close, closing, source, -⟩ := s.beginClose_frame .restore
      rw [if_pos asked, begun, close]
      refine .inr ⟨⟨side, timing, ?_⟩, bar, allows, closing, source⟩
      exact Consented.stands ⟨finding, clear⟩ rfl rfl rfl rfl
    · exact absurd restored before

theorem State.rslCheck_restores (s : State) : Restores s s.rslCheck := by
  unfold State.rslCheck
  split
  · split
    · exact s.midpointCheck_unrestored.restores
    · exact .refl _
  · next timing =>
    split
    · exact State.tieCheck_restores timing
    · exact .refl _
  all_goals exact .refl _

/-! ### The rows that make a check (R148, R166, R171, R173) -/

theorem State.peerFrame_restores (s : State) (id : Nat) (a : Uptime) (g : Option Segments)
    (set : PeerEntry → PeerEntry) : Restores s (s.peerFrame id a g set) := by
  unfold State.peerFrame
  split
  · exact (State.rslCheck_restores _).after
  · exact .refl _

theorem onFrame_restores {α : Type} {pick : Frame → Option α} {f : α → Uptime → State → State} {s : State}
    (h : ∀ a u t, Restores t (f a u t)) : Restores s (onFrame pick f s) := by
  unfold onFrame
  split
  · next r _ _ =>
    split
    · next m _ =>
      split
      · next a _ =>
        obtain ⟨l, x, e⟩ := s.heard_frame r.arrival (.accepted m)
        rw [e]
        exact (h a r.arrival _).after
      · exact .refl _
    · exact .refl _
  · exact .refl _

theorem State.tieOver_restores (s : State) : Restores s s.tieOver := by
  unfold State.tieOver
  split
  · split
    · exact (State.rslCheck_restores _).after
    · exact (State.rslCheck_restores _).after
  · exact .refl _

/-- A close that begins in ENERGY_WAIT is no restoration close: the station is in CLOSING at the check. -/
theorem State.closeReady_restores (s : State) : Restores s s.closeStoreReady.rslStoreReady := by
  unfold State.rslStoreReady
  split
  · unfold State.closeStoreReady
    split
    · intro restored
      obtain ⟨q, m, r, close, closing, -⟩ := s.beginClose_frame .auto
      rw [close] at restored ⊢
      refine (State.rslCheck_restores _ restored).imp_right fun begun => ?_
      obtain ⟨lockout, -⟩ := State.closeBar_eq_none.mp begun.bar
      exact absurd (closing.symm.trans lockout) (by decide)
    · exact State.rslCheck_restores _
  · exact (unrestored_of_rsl s.closeStoreReady_rsl).restores

/-- A READY input leaves HANDLE. -/
theorem Mdu.readyRead_handleDown (m : Mdu) (id : StoreId) (active : Bool) (now : Uptime) :
    ((m.withStore id (·.readInput active)).driveWhenReady now).handleDown = m.handleDown := by
  have stores (n : Mdu) : (n.driveWhenReady now).handleDown = n.handleDown := by
    unfold Mdu.driveWhenReady
    split
    · split <;> rfl
    · rfl
  rw [stores]
  cases id <;> rfl

theorem State.readyReading_restores (s : State) (id : StoreId) (active : Bool) :
    Restores s (s.readyReading id active) := by
  unfold State.readyReading
  dsimp only
  split
  · exact .refl _
  · split
    · refine (State.closeReady_restores _).after rfl ?_
      simp only [State.closeBar, State.tagHold, Mdu.readyRead_handleDown]
      rfl
    · exact fun k => .inl k

/-! ### The end of the event -/

/-- A station in RESTORED that is not in LOCKOUT stays there at the end of an event, with its sequence (R174). -/
theorem State.rslReview_of_restored {s : State} (restored : s.rsl.state = .restored)
    (out : s.sqc.state ≠ some .lockout) (b : RslInputs) (x : Bool) :
    ∃ w, s.rslReview b x = { s with rsl := { s.rsl with inhibit := s.formInhibit, storeWait := w } } := by
  have exits : State.rslExits { s with rsl := { s.rsl with inhibit := s.formInhibit } } =
      { s with rsl := { s.rsl with inhibit := s.formInhibit } } := by
    simp only [State.rslExits, restored, if_neg out]
  have entry {u : State} (h : u.rsl.state = .restored) : u.rslEntry = u := by
    simp only [State.rslEntry, h]
  unfold State.rslReview
  rw [exits]
  dsimp only
  split_ifs
  · exact ⟨s.rsl.storeWait, entry restored⟩
  · exact ⟨s.rsl.storeWait, rfl⟩
  · exact ⟨none, entry restored⟩
  · exact ⟨none, rfl⟩

@[simp] theorem State.abortReview_sqc (s : State) : s.abortReview.sqc = s.sqc := by
  obtain ⟨_, queue⟩ := s.abortReview_frame
  exact queue.sameCore.sqc

@[simp] theorem State.listenReview_sqc (s : State) : s.listenReview.sqc = s.sqc := by
  obtain ⟨_, _, _, h⟩ := s.listenReview_frame
  rw [h]

/-- What is begun stands at the end of the event. -/
theorem Restores.settle {s t : State} (h : Restores s t) (b : RslInputs) (x : Bool) : Restores s (t.settle b x) := by
  intro restored
  have entered := t.settle_unrestored b x restored
  refine (h entered).imp_right fun begun => ?_
  obtain ⟨w, review⟩ := State.rslReview_of_restored entered (by simp [begun.closing]) b x
  obtain ⟨-, -, pvt, -, stl, -, clock, -⟩ := t.settle_stands b x
  have sqc : (t.settle b x).sqc = t.sqc := by
    simp [State.settle, review]
  have due : (t.settle b x).rsl.fallbackDue = t.rsl.fallbackDue := by
    simp [State.settle, review]
  exact begun.stands sqc stl pvt clock due

/-- A command that is no part of a start enters RESTORED by a restoration close. -/
theorem exec_restores {i : Instr} {s t : State} (hi : ofStart i = false) (h : exec i s = .next t) : Restores s t := by
  by_cases check : makesCheck i = true
  · have up {f : State → State} (h : whenUp f s = .next t) (k : Restores s (f s)) : Restores s t := by
      rw [whenUp_next.mp h]
      split
      · exact k
      · exact .refl _
    have runs {r : State → Option Timer} {f : State → State} (k : Restores s (f s)) : Restores s (ifRuns r f s) := by
      unfold ifRuns
      split
      · exact k
      · exact .refl _
    cases i with
    | readyInputChange id a => exact up h ((s.readyReading_restores id a).settle _ _)
    | receiveStatus | receiveSeqEvent | receiveTagNotice | receivePeerReport =>
      exact up h ((onFrame_restores fun _ _ u => u.peerFrame_restores _ _ _ _).settle _ _)
    | receivePickup =>
      exact up h ((onFrame_restores fun _ _ u =>
        (u.peerFrame_restores _ _ _ _).link (State.startQuiet_onlyLink _ _ _)).settle _ _)
    | timeBaseSecond => exact up h ((State.rslCheck_restores _).after.settle _ _)
    | tieTimerExpiry => exact up h ((runs s.tieOver_restores).settle _ _)
    | _ => exact Bool.noConfusion check
  · exact ((exec_settles hi h).restored check).restores

/-- A start does not enter RESTORED, and a part that is up takes no word of a block (R164, R178). -/
theorem exec_start_unrestored {i : Instr} {s t : State} (up : s.up = true) (hi : ofStart i = true)
    (h : exec i s = .next t) : Unrestored s t := by
  have word (w : Word16) : Unrestored s (s.takeWord w) := by
    rw [State.takeWord_of_up up]
    exact id
  cases i with
  | restartInput | supplyReturn => cases h; exact unrestored_of_state nofun
  | settingsWordRead w => cases h; exact word w
  | settingsWordTimeout => cases h; exact word _
  | _ => exact Bool.noConfusion hi

/-! ### The statement -/

/-- The consent of R172, feeding peer by feeding peer. -/
def Feeding.Consents (fallback due : Bool) : Feeding → Prop
  | .fresh e => e.state = some .lockout ∧ e.cause = some .restoreOpen ∧ e.position = some .opened
  | .silent _ => fallback = true ∧ due = true
  | .absent => fallback = true ∧ due = true

theorem tieFinding_consent {fallback due : Bool} {f : Feeding} (h : tieFinding fallback due f = .consent) :
    f.Consents fallback due := by
  cases f with
  | fresh e =>
    dsimp only [tieFinding] at h
    split_ifs at h with _ consent
    exact consent
  | silent | absent =>
    dsimp only [tieFinding] at h
    split_ifs at h with both
    exact Bool.and_eq_true_iff.mp both

/-- Settles O15: RESTORED is entered at a check alone, which begins the close; a settled tie in TIMING is in LOCKOUT with
that dead side, and the end of the event leaves what the check has found. -/
theorem restoreCloseNeedsConsent : Obligations.RestoreCloseNeedsConsent := by
  rintro c s t ⟨up, settled⟩ h before restored
  have begun : RestoreBegun s t := by
    refine Or.resolve_left ?_ before
    cases hi : ofStart c with
    | true => exact .inl (exec_start_unrestored up hi h restored)
    | false => exact exec_restores hi h restored
  obtain ⟨⟨side, timing, finding, clear⟩, bar, cls, closing, source⟩ := begun
  obtain ⟨lockout, hold, handle, -⟩ := State.closeBar_eq_none.mp bar
  obtain ⟨⟨⟨-, ⟨-, holds, -⟩, -⟩, -⟩, -⟩ := (settled_iff s).mp settled
  obtain ⟨-, dead, -⟩ := (s.tieHolds_iff side).mp (holds side timing)
  have segment : (if side = .up then t.stl.image.sUp else t.stl.image.sDn) = deadSegment t.stl.image side := by
    cases side <;> rfl
  simp only [State.tagHold, Bool.or_eq_false_iff, Bool.not_eq_false', List.isEmpty_iff] at hold
  obtain ⟨⟨switch, tags⟩, unknown⟩ := hold
  simp only [State.classAllowsRestore, Bool.or_eq_true, decide_eq_true_iff] at cls
  refine ⟨lockout, tags, switch, unknown, handle, cls, closing, source, side, timing, dead, ?_⟩
  rw [segment]
  exact ⟨clear, tieFinding_consent finding⟩

end Sys2Proof.Machine
end
